-- ==== Sys2Proof/Word.lean ====
section
/-! DEFINITION. The plain words of the ULJ-260: bytes, keys, salts and keypad digits (spec/00_scope.md, sections 5 and 7). -/

namespace Sys2Proof

/-- One byte of a frame, a buffer or the overlay image. -/
abbrev Byte := BitVec 8

/-- A 256-bit media key or wrapping key (R56, R118). -/
abbrev Key := BitVec 256

/-- A 128-bit salt of a credential record (R118). -/
abbrev Salt := BitVec 128

/-- A digit key of the keypad, 0 to 9 (R101). -/
abbrev Digit := Fin 10

end Sys2Proof
end

