-- ==== Sys2Proof/Syntax.lean ====
section
/-! DEFINITION. The commands of the ULJ-260: one constructor for each row of spec/opcode_table.json, in the
table's order. The table gives no operand fields; the operands are those the rule of each row names
(notes/assumptions/8.md). -/

namespace Sys2Proof

/-- Who a downstream operation belongs to (R65): a unit job, named by its buffer; a FLUSH transaction, named by
its tag; the Sweep Unit; or none. -/
inductive Owner where
  | job (buffer : Fin 8)
  | flush (tag : Fin 16)
  | sweep
  | nobody
deriving DecidableEq, Repr, Inhabited

/-- The three conditions in which a power loss leaves the record being written (R123). -/
inductive WriteFate where
  | asBefore
  | asWritten
  | failing
deriving DecidableEq, Repr, Inhabited

/-- The part's steps, each whole and indivisible: one constructor per row of spec/opcode_table.json. -/
inductive Instr where
  /-- POWER_ON (R163): the release of NPOR. -/
  | powerOn
  /-- POWER_LOSS (R167); `fate` is what becomes of the key-store write in flight (R123). -/
  | powerLoss (fate : WriteFate)
  /-- KS_READING_COMPLETE (R164). -/
  | ksReadingComplete
  /-- TICK (R162): one 100 ms period of the TMU. -/
  | tick
  /-- READ_REQUEST (R20): a request record of kind READ. -/
  | readRequest (tag : Byte) (lba : BitVec 32) (count : BitVec 16)
  /-- WRITE_REQUEST (R20): a request record of kind WRITE. -/
  | writeRequest (tag : Byte) (lba : BitVec 32) (count : BitVec 16)
  /-- FLUSH_REQUEST (R75): the first LBA and the count are ignored (R17). -/
  | flushRequest (tag : Byte) (lba : BitVec 32) (count : BitVec 16)
  /-- SIZE_REQUEST (R36). -/
  | sizeRequest (tag : Byte) (lba : BitVec 32) (count : BitVec 16)
  /-- STATE_REQUEST (R37). -/
  | stateRequest (tag : Byte) (lba : BitVec 32) (count : BitVec 16)
  /-- ABORT (R34). -/
  | abort (tag : Byte) (lba : BitVec 32) (count : BitVec 16)
  /-- UNKNOWN_KIND_REQUEST (R18): a request record whose kind byte is outside 1 to 6. -/
  | unknownKindRequest (kind tag : Byte) (lba : BitVec 32) (count : BitVec 16)
  /-- WRITE_DATA (R31): a tag and one 512-byte sector, byte 0 first. -/
  | writeData (tag : Byte) (sector : List Byte)
  /-- LINK_RESET (R39). -/
  | linkReset
  /-- SUSPEND (R98). -/
  | suspend
  /-- RESUME (R100). -/
  | resume
  /-- UPSTREAM_FRAME_DROPPED (R171): a frame of unknown type or of a length other than its type's. -/
  | upstreamFrameDropped (frame : List Byte)
  /-- REFUSAL_SENT (R19). -/
  | refusalSent
  /-- COMPLETE_SENT (R28). -/
  | completeSent
  /-- DATA_WANTED_SENT (R30). -/
  | dataWantedSent
  /-- READ_DATA_SENT (R55). -/
  | readDataSent
  /-- OVERLAY_READ_DATA_SENT (R14). -/
  | overlayReadDataSent
  /-- DATA_WAIT_EXPIRY (R32): the data-wait timer of the intake of transaction `tag`. -/
  | dataWaitExpiry (tag : Fin 16)
  /-- PAGE_READ_COMPLETION (R48): a COMPLETION frame whose operation byte is PAGE_READ's; `rest` is what follows
  its status byte (R173). -/
  | pageReadCompletion (dtag status : Byte) (rest : List Byte)
  /-- PAGE_WRITE_COMPLETION (R53). -/
  | pageWriteCompletion (dtag status : Byte) (rest : List Byte)
  /-- SYNC_COMPLETION (R76). -/
  | syncCompletion (dtag status : Byte) (rest : List Byte)
  /-- DISCARD_COMPLETION (R144). -/
  | discardCompletion (dtag status : Byte) (rest : List Byte)
  /-- DOWNSTREAM_FRAME_DROPPED (R173). -/
  | downstreamFrameDropped (frame : List Byte)
  /-- IDENT (R72): the reported page count P; `early` lists the owners that take their ERROR completion of a loss
  before the AC takes the loss report (R73, notes/assumptions/9.md). -/
  | ident (pages : BitVec 32) (early : List Owner)
  /-- MEDIA_LOST (R73); `early` as for IDENT. -/
  | mediaLost (early : List Owner)
  /-- ERROR_COMPLETION_TAKEN (R73): `owner` takes the ERROR completion the DLI has given it. -/
  | errorCompletionTaken (owner : Owner)
  /-- IDENT_WAIT_EXPIRY (R71). -/
  | identWaitExpiry
  /-- CIPHER_COMPLETION (R58). -/
  | cipherCompletion
  /-- KEY_ENTRY_PRODUCED (R102). -/
  | keyEntryProduced
  /-- SHIFT_TAP_PRODUCED (R103). -/
  | shiftTapProduced
  /-- DIGIT_TAKEN (R107). -/
  | digitTaken
  /-- SHIFT_TAP_TAKEN (R107). -/
  | shiftTapTaken
  /-- KEY_TAKEN (R111). -/
  | keyTaken
  /-- SHIFTED_KEY_TAKEN (R111). -/
  | shiftedKeyTaken
  /-- SHIFTED_DIGIT_TAKEN (R113). -/
  | shiftedDigitTaken
  /-- FLAGGED_ENTRY_TAKEN (R109). -/
  | flaggedEntryTaken
  /-- ENTRY_TIMEOUT (R108). -/
  | entryTimeout
  /-- VERIFY_END (R126). -/
  | verifyEnd
  /-- KS_WRITE_COMPLETE (R122). -/
  | ksWriteComplete
  /-- SETTLE_TIMER_EXPIRY (R91). -/
  | settleTimerExpiry
  /-- LOCKOUT_TIMER_EXPIRY (R88). -/
  | lockoutTimerExpiry
  /-- ADMIN_SESSION_TIMER_EXPIRY (R89). -/
  | adminSessionTimerExpiry
  /-- IDLE_COUNTER_EXPIRY (R95). -/
  | idleCounterExpiry
  /-- BRIEF_PATTERN_RUNOUT (R154). -/
  | briefPatternRunout
  /-- ACTIVITY_REST_END (R157). -/
  | activityRestEnd
  /-- SCAN (R101): the twelve positions as one scan reads them, bit i the position i of the scan order (row 0 to
  row 3, column 0 to column 2), 1 for closed. -/
  | scan (closed : BitVec 12)
  /-- PATTERN_CLOCK (R153): one 1 ms period of the pattern clock (R161). -/
  | patternClock
deriving DecidableEq, Repr

end Sys2Proof
end

