-- ==== Sys2Proof/Decode.lean ====
section
/-! DEFINITION. Reading commands from words and from frames. The table of spec/opcode_table.json gives no row any bits
(every row has an empty field list), so no word spells a command; what does spell some of them is the frames of R171 and
R173, which the two frame readers here read. -/

namespace Sys2Proof

/-- The command a word spells by the table's bits: none, for the table gives no row any bits. -/
def decodeTableWord (_nbits _w : Nat) : Option Instr := none

/-- A field of two bytes, least significant byte first (R171). -/
def field16 (b0 b1 : Byte) : BitVec 16 := b1 ++ b0

/-- A field of four bytes, least significant byte first (R171). -/
def field32 (b0 b1 b2 b3 : Byte) : BitVec 32 := (b3 ++ b2) ++ (b1 ++ b0)

/-- The request record of a kind byte (R171): 1 READ to 6 ABORT, else an unknown kind. -/
def requestOf (kind tag : Byte) (lba : BitVec 32) (count : BitVec 16) : Instr :=
  if kind = 1 then .readRequest tag lba count
  else if kind = 2 then .writeRequest tag lba count
  else if kind = 3 then .flushRequest tag lba count
  else if kind = 4 then .sizeRequest tag lba count
  else if kind = 5 then .stateRequest tag lba count
  else if kind = 6 then .abort tag lba count
  else .unknownKindRequest kind tag lba count

/-- What an upstream frame is taken as (R171): a frame of a known type and the length its type fixes, else dropped. -/
def decodeUpstream (frame : List Byte) : Instr :=
  match frame with
  | [1, kind, tag, l0, l1, l2, l3, c0, c1] => requestOf kind tag (field32 l0 l1 l2 l3) (field16 c0 c1)
  | [16] => .linkReset
  | [17] => .suspend
  | [18] => .resume
  | 2 :: tag :: sector => if sector.length = 512 then .writeData tag sector else .upstreamFrameDropped frame
  | _ => .upstreamFrameDropped frame

/-- The row of a COMPLETION frame by its operation byte (R173). An operation byte that is no operation's differs from
that of any slot, so the frame is an ERROR completion of the slot's operation: the row of PAGE_READ with a status that
is not OK stands for it, as it does for a frame cut short of its status byte (notes/assumptions/12.md). -/
def completionOf (op dtag status : Byte) (rest : List Byte) : Instr :=
  if op = 1 then .pageReadCompletion dtag status rest
  else if op = 2 then .pageWriteCompletion dtag status rest
  else if op = 3 then .discardCompletion dtag status rest
  else if op = 4 then .syncCompletion dtag status rest
  else .pageReadCompletion dtag 255 []

/-- What a downstream frame is taken as (R173). -/
def decodeDownstream (frame : List Byte) : Instr :=
  match frame with
  | [130, p0, p1, p2, p3] => .ident (field32 p0 p1 p2 p3) []
  | [131] => .mediaLost []
  | 129 :: dtag :: rest =>
    if 3 < dtag.toNat then .downstreamFrameDropped frame
    else
      match rest with
      | op :: status :: data => completionOf op dtag status data
      | _ => .pageReadCompletion dtag 255 []
  | _ => .downstreamFrameDropped frame

end Sys2Proof
end

