-- ==== Sys2Proof/Machine/Bytes.lean ====
section
/-! DEFINITION. Byte order of the links (R171, R173): fields of more than one byte, least significant byte first. -/

namespace Sys2Proof.Machine

/-- The `n` bytes of `v`, least significant first (R171). -/
def leBytes : Nat → Nat → List Byte
  | 0, _ => []
  | n + 1, v => BitVec.ofNat 8 v :: leBytes n (v / 256)

/-- The number that bytes spell, least significant first (R171). -/
def leNat : List Byte → Nat
  | [] => 0
  | b :: rest => b.toNat + 256 * leNat rest

/-- One byte from flags, the first flag being bit 0 (R172). -/
def flagByte : List Bool → Nat
  | [] => 0
  | b :: rest => (if b then 1 else 0) + 2 * flagByte rest

end Sys2Proof.Machine
end

