-- ==== Sys2Proof/Machine/Records.lean ====
section
/-! DEFINITION. The nine key-store records of chapter 7, as named fields (R118, R120). -/

namespace Sys2Proof.Machine

/-- The status of a credential record (R118). -/
inductive CredStatus where
  | empty
  | active
  | spent
  | damaged
deriving DecidableEq, Repr, Inhabited

/-- The fields of a credential record other than its check value (R118). -/
structure CredFields where
  status : CredStatus
  digitCount : Nat
  salt : Salt
  verifier : BitVec 256
  wrapped : BitVec 256
deriving DecidableEq, Repr, Inhabited

/-- A credential record as the medium holds it: its fields and the check value over them (R118). -/
structure CredRecord where
  fields : CredFields
  check : BitVec 32
deriving DecidableEq, Repr, Inhabited

/-- The fields of the device record other than its check value (R120). The cursor is `none` for NONE. -/
structure DevFields where
  failures : Nat
  limit : Nat
  autoLock : Nat
  readOnly : Bool
  lockOnStandby : Bool
  eraseCount : Nat
  erasePending : Bool
  cursor : Option Nat
  degraded : Bool
  rebuilt : Bool
deriving DecidableEq, Repr, Inhabited

/-- The device record as the medium holds it (R120). -/
structure DevRecord where
  fields : DevFields
  check : BitVec 32
deriving DecidableEq, Repr, Inhabited

/-- A credential record whose status is `st` and whose other fields are zero: how EMPTY and SPENT are
written and how DAMAGED reads (R118). -/
def CredFields.bare (st : CredStatus) : CredFields :=
  { status := st, digitCount := 0, salt := 0, verifier := 0, wrapped := 0 }

/-- The default column of the device record's table (R120). -/
def DevFields.defaults : DevFields :=
  { failures := 0, limit := 10, autoLock := 0, readOnly := false, lockOnStandby := true,
    eraseCount := 0, erasePending := false, cursor := none, degraded := false, rebuilt := false }

/-- The rebuilt values of a device record that fails its check at power-on (R121). -/
def DevFields.rebuiltValues : DevFields :=
  { DevFields.defaults with failures := 9, rebuilt := true }

end Sys2Proof.Machine
end

