-- ==== Sys2Proof/Config.lean ====
section
/-! DEFINITION. What the spec leaves to the making of the part, as constants with no body: nothing in Lean can
evaluate one or prove a value of it (notes/assumptions/1.md to 5.md). -/

namespace Sys2Proof.Config

open Sys2Proof.Machine

/-- Byte `i` of the overlay image, 0 to 1,048,575, fixed when the part is made (R13); the spec does not give its
contents. -/
opaque overlayByte : Nat → Byte

/-- The wide-block tweakable cipher over one 4096-byte unit, by media key and tweak (R12): a permutation of the
units, whose forward direction enciphers. Its internal construction is not part of the manual (scope 5). -/
opaque cipher : Key → BitVec 64 → Equiv.Perm (Fin 4096 → Byte)

/-- The one-way derivation of the verifier from the digit string and the salt (R118). -/
opaque verifierOf : List Digit → Salt → BitVec 256

/-- The derivation of the wrapping key from the digit string and the salt (R118). -/
opaque wrappingKeyOf : List Digit → Salt → Key

/-- The wrapping of a media key under a wrapping key (R118): a permutation, whose inverse unwraps. -/
opaque wrapping : Key → Equiv.Perm Key

/-- The n-th salt drawn from the random source (R118). -/
opaque randomSalt : Nat → Salt

/-- The n-th media key drawn from the random source (R124). -/
opaque randomKey : Nat → Key

/-- The cyclic check over a credential record's other fields (R118); its polynomial is not given. -/
opaque credCheck : CredFields → BitVec 32

/-- The cyclic check over the device record's other fields (R120); its polynomial is not given. -/
opaque devCheck : DevFields → BitVec 32

/-- What a credential record torn by the n-th interrupted write holds (R123); the spec says only that it fails
its check. -/
opaque tornCred : Nat → CredFields

/-- What a device record torn by the n-th interrupted write holds (R123). -/
opaque tornDev : Nat → DevFields

end Sys2Proof.Config
end

