-- ==== Sys2Proof/Machine/State.lean ====
section
/-! DEFINITION. The state of the ULJ-260, block by block (spec/00_scope.md section 3), the reasons a step can stop,
and the state right after reset. Plain data throughout. -/

namespace Sys2Proof.Machine

open Sys2Proof

/-! ## Reasons to stop -/

/-- Faults. Closed and EMPTY: the spec gives every command of the table an effect in every state (or says it has
none), so no meaning of this model stops with a fault. -/
inductive Fault where
deriving DecidableEq, Repr

/-- Refusals. -/
inductive Refusal where
  /-- Raised by `exec` alone, for a command that has no meaning yet, under its mnemonic. Safe: the model stops where
  the part goes on. No arm of this model raises it. -/
  | notModelled (mnemonic : String)
deriving DecidableEq, Repr

/-! ## Timers -/

/-- A timer counted in ticks (R162): `none` when stopped or off, `some n` when it runs with n ticks left.
`some 0` is a timer whose expiry is due and not yet taken. -/
abbrev Timer := Option Nat

/-! ## ULI: records, ATTN latch, output (chapter 2) -/

/-- The presented volume (R2); `nothing` is NONE. -/
inductive Volume where
  | overlay
  | nothing
  | user
deriving DecidableEq, Repr, Inhabited

/-- The cause of a lock event or of an unlock, as COMPLETE reports it (R24, R172). -/
inductive Cause where
  | lockKey
  | idle
  | standby
  | mediaLost
  | erase
  | unlock
deriving DecidableEq, Repr, Inhabited

/-- The outcomes of a COMPLETE record (R172). -/
inductive Result where
  | good
  | short
  | range
  | writeProtected
  | becomingReady
  | volumeChanged
  | mediaFault
  | dataTimeout
  | aborted
  | tagBusy
  | requestFault
deriving DecidableEq, Repr, Inhabited

/-- A request record as received (R17). -/
structure Request where
  kind : Byte
  tag : Byte
  lba : BitVec 32
  count : BitVec 16
deriving DecidableEq, Repr, Inhabited

/-- What the bridge has sent and the ULI has not taken yet (R19, R163). -/
inductive LinkItem where
  | request (r : Request)
  | writeData (tag : Byte) (sector : List Byte)
  | linkReset
  | suspend
  | resume
deriving DecidableEq, Repr

/-- The attention reasons held by the ATTN latch (R38). -/
structure Attn where
  powerOn : Bool
  presentation : Bool
  sweepDone : Bool
  tableEmptied : Bool
  resume : Bool
deriving DecidableEq, Repr, Inhabited

/-- The access state as STATE reports it (R37, R172). -/
inductive ReportedAccess where
  | blank
  | locked
  | lockout
  | admin
  | unlocked
  | erasing
deriving DecidableEq, Repr, Inhabited

/-- The media condition (R70). -/
inductive Media where
  | unknown
  | ok
  | unusable
  | absent
deriving DecidableEq, Repr, Inhabited

/-- The SIZE payload (R36). -/
structure SizeAnswer where
  volume : Volume
  capacity : Option Nat
deriving DecidableEq, Repr, Inhabited

/-- The STATE payload (R37). -/
structure StateAnswer where
  access : ReportedAccess
  volume : Volume
  lockoutSeconds : Nat
  media : Media
  clamped : Bool
  readOnly : Bool
  rebuilt : Bool
  sweeping : Bool
  percent : Nat
  degraded : Bool
  eraseCount : Nat
  reasons : Attn
deriving DecidableEq, Repr, Inhabited

/-- The payload of a COMPLETE record (R172). -/
inductive Payload where
  | none
  | size (a : SizeAnswer)
  | state (a : StateAnswer)
deriving DecidableEq, Repr, Inhabited

/-- A COMPLETE record (R172). -/
structure Complete where
  tag : Byte
  outcome : Result
  detail : Byte
  residue : Nat
  payload : Payload
deriving DecidableEq, Repr, Inhabited

/-- A record sent on the upstream link (R171). -/
inductive UpRecord where
  | readData (tag : Fin 16) (lba : Nat) (sector : List Byte)
  | dataWanted (tag : Fin 16) (lba : Nat) (count : Nat)
  | complete (c : Complete)
deriving DecidableEq, Repr

/-- An intake record (R30). -/
structure Intake where
  tag : Fin 16
  owed : Nat
  next : Fin 8
  timer : Timer
deriving DecidableEq, Repr, Inhabited

/-- The holder of the upstream output (R29). -/
inductive Output where
  | free
  | refusal
  | complete (tag : Fin 16)
  | dataWanted (tag : Fin 16)
  | delivery (tag : Fin 16)
  | overlay (tag : Fin 16)
deriving DecidableEq, Repr, Inhabited

/-- The Upstream Link Interface: ATTN latch, refusal queue (oldest first), intake records, upstream output, what waits
on the link (oldest first), and the records sent so far (newest first). -/
structure Uli where
  attn : Attn
  refusals : List Complete
  intakes : List Intake
  output : Output
  link : List LinkItem
  sent : List UpRecord
deriving DecidableEq, Repr

/-! ## TT: transactions (chapter 2) -/

/-- The kinds of transaction (R22). -/
inductive TxKind where
  | read
  | write
  | flush
  | size
  | state
deriving DecidableEq, Repr, Inhabited

/-- The volume a transaction captures at admission (R20). -/
inductive TxVolume where
  | overlay
  | user
deriving DecidableEq, Repr, Inhabited

/-- The failure field (R24). -/
inductive Failure where
  | volumeChanged (cause : Cause)
  | mediaFault
  | dataTimeout
  | aborted
deriving DecidableEq, Repr, Inhabited

/-- The phase of a transaction (R23). -/
inductive Phase where
  | active
  | draining
  | done
deriving DecidableEq, Repr, Inhabited

/-- A transaction record (R22). The flush mark names page writes by the buffers of their jobs (R75). `outcome` is the
outcome fixed when the record becomes DONE. -/
structure Txn where
  tag : Fin 16
  kind : TxKind
  volume : TxVolume
  lba : Option Nat
  requested : Option Nat
  transfer : Option Nat
  nextUnit : Option Nat
  jobsHeld : Nat
  done : Nat
  failure : Option Failure
  phase : Phase
  flushMark : Option (List (Fin 8))
  outcome : Option Result
deriving DecidableEq, Repr, Inhabited

/-- The Address Translator's copy of the presentation (R2): H is `none` when absent. -/
structure Atr where
  volume : Volume
  highest : Option Nat
deriving DecidableEq, Repr, Inhabited

/-! ## UBP and CE (chapter 3) -/

/-- The job kinds (R9). -/
inductive JobKind where
  | read
  | writeFull
  | writeMerge
deriving DecidableEq, Repr, Inhabited

/-- The job states (R43). -/
inductive JobState where
  | claimWait
  | mediaRead
  | decryptWait
  | decrypting
  | dataQueue
  | dataWait
  | encryptWait
  | encrypting
  | mediaWrite
  | deliverWait
  | delivering
deriving DecidableEq, Repr, Inhabited

/-- The page operation field of a job (R43, R52). -/
inductive PageOp where
  | absent
  | requested
  | issued (dtag : Fin 4)
deriving DecidableEq, Repr, Inhabited

/-- A unit-job record (R43), with the buffer it is bound to (R42). -/
structure Job where
  buf : Fin 8
  owner : Fin 16
  unit : Nat
  first : Fin 8
  count : Nat
  kind : JobKind
  state : JobState
  pageOp : PageOp
  sent : Nat
  abandoned : Bool
deriving DecidableEq, Repr, Inhabited

/-- The Unit Buffer Pool: the jobs in use, in the order they started (a buffer bound to no job is free), and the
bytes of the eight buffers, as cells in canonical form (byte i of buffer b at address 4096 b + i). -/
structure Ubp where
  jobs : List Job
  mem : List Host.Cell
deriving DecidableEq, Repr

/-- The Cipher Engine: the cipher key register, empty or a media key (R56). The cipher queue and the operation in
progress are the jobs' own states (R57, R58). -/
structure Ce where
  key : Option Key
deriving DecidableEq, Repr

/-! ## DLI (chapter 4) -/

/-- A downstream operation (R64). -/
inductive DOp where
  | pageRead (page : Nat)
  | pageWrite (page : Nat)
  | discard (first count : Nat)
  | sync
deriving DecidableEq, Repr, Inhabited

/-- A waiting request (R66). -/
structure DReq where
  op : DOp
  owner : Owner
deriving DecidableEq, Repr, Inhabited

/-- An occupied downstream slot (R65); a dtag that no record of the list names is free. -/
structure Slot where
  dtag : Fin 4
  op : DOp
  owner : Owner
deriving DecidableEq, Repr, Inhabited

/-- An ERROR completion given by the DLI and not yet taken by its owner (R66, R73); `issued` says whether the
operation stood in a slot. -/
structure PendingError where
  op : DOp
  owner : Owner
  issued : Bool
deriving DecidableEq, Repr, Inhabited

/-- An operation frame sent on the downstream link (R173). -/
inductive DownRecord where
  | pageRead (dtag : Fin 4) (page : Nat)
  | pageWrite (dtag : Fin 4) (page : Nat) (cipher : List Byte)
  | discard (dtag : Fin 4) (first count : Nat)
  | sync (dtag : Fin 4)
deriving DecidableEq, Repr

/-- The Downstream Link Interface: occupied slots, request list (in the order made), ERROR completions not yet taken,
media condition, P, U, the capacity-clamped flag, the IDENT wait timer, and the operations sent so far (newest
first). -/
structure Dli where
  slots : List Slot
  requests : List DReq
  errors : List PendingError
  media : Media
  reported : Option (BitVec 32)
  usable : Option Nat
  clamped : Bool
  identWait : Timer
  sent : List DownRecord
deriving DecidableEq, Repr

/-! ## AC (chapter 5) -/

/-- The access state with its sub-state (R79); `starting` is the time before the KS reading has completed, when no
sub-state exists (R163). -/
inductive Access where
  | starting
  | blankFirst
  | blankRepeat
  | lockedIdle
  | lockedEntry
  | lockedVerifying
  | lockedAdminEntry
  | lockedAdminVerifying
  | lockout
  | adminSession
  | settling
  | presented
  | change
  | erasing
deriving DecidableEq, Repr, Inhabited

/-- The verify scope (R79). -/
inductive Scope where
  | unlock
  | admin
deriving DecidableEq, Repr, Inhabited

/-- A verdict (R152). -/
inductive Verdict where
  | accept
  | reject
  | format
  | refused
deriving DecidableEq, Repr, Inhabited

/-- The Access Controller (R79). The idle counter is `none` when off; it counts or is held by the sub-state and the
standby condition (R95). -/
structure Ac where
  access : Access
  presentation : Volume
  sessionSlot : Option (Fin 8)
  scope : Option Scope
  lossSeen : Bool
  settle : Timer
  lockout : Timer
  admin : Timer
  idle : Timer
  standby : Bool
  changed : Bool
  held : Option Verdict
deriving DecidableEq, Repr, Inhabited

/-! ## KPS and ECP (chapter 6) -/

/-- The key of a key entry (R102, R103). -/
inductive EntryKey where
  | digit (d : Digit)
  | key
  | shiftTap
deriving DecidableEq, Repr, Inhabited

/-- A key entry (R102). -/
structure KeyEntry where
  key : EntryKey
  shifted : Bool
  chord : Bool
  overrun : Bool
deriving DecidableEq, Repr, Inhabited

/-- The debounced state and the run count of one key (R101). -/
structure KeyScan where
  down : Bool
  run : Nat
deriving DecidableEq, Repr, Inhabited

/-- An open press group (R102); the lead is its position in scan order. -/
structure Group where
  lead : Nat
  shifted : Bool
  chorded : Bool
deriving DecidableEq, Repr, Inhabited

/-- The Keypad Scanner: whether it scans, the twelve keys in scan order, the open press group, the open shift hold
(and whether it is clean), entries recognised and not yet placed, and the key FIFO (oldest first). -/
structure Kps where
  scanning : Bool
  keys : List KeyScan
  group : Option Group
  hold : Option Bool
  due : List KeyEntry
  fifo : List KeyEntry
deriving DecidableEq, Repr

/-- The Entry Composer (R106). `ready` is READY, its absence WAITING; `adminTable` is the ADMIN table, its absence
BASE; the stack's first keyed digit stands first. -/
structure Ecp where
  ready : Bool
  adminTable : Bool
  stack : List Digit
  overlong : Bool
  copy : Option (List Digit)
  command : Option (Fin 10)
  timer : Timer
deriving DecidableEq, Repr

/-! ## CU and KS (chapters 7 and 8) -/

/-- The CU's work (R125). -/
inductive CuWork where
  | idle
  | verify
  | writes
  | staging
deriving DecidableEq, Repr, Inhabited

/-- The verify kind (R125). -/
inductive VerifyKind where
  | unlock
  | admin
  | eraseConfirm
  | enrol
deriving DecidableEq, Repr, Inhabited

/-- The result of a verify (R125). -/
inductive VerifyResult where
  | noMatch
  | hit (slot : Fin 8) (key : Key)
deriving DecidableEq, Repr

/-- What a confirmed PIN is handed over for (R131). -/
inductive EnrolFor where
  | blank
  | change
  | userSlot
  | recovery
  | adminPin
deriving DecidableEq, Repr, Inhabited

/-- The fields a device-record write carries (R122). -/
structure DevUpdate where
  failures : Option Nat
  limit : Option Nat
  autoLock : Option Nat
  readOnly : Option Bool
  lockOnStandby : Option Bool
  eraseCount : Option Nat
  erasePending : Option Bool
  cursor : Option (Option Nat)
  degraded : Option Bool
  rebuilt : Option Bool
deriving DecidableEq, Repr, Inhabited

/-- Work handed to the CU (R106). -/
inductive Handover where
  | unlock (digits : List Digit)
  | admin (digits : List Digit)
  | eraseConfirm (digits : List Digit)
  | enrol (purpose : EnrolFor) (digits : List Digit)
  | clear (slots : List (Fin 8))
  | setting (update : DevUpdate)
deriving DecidableEq, Repr

/-- The steps of the staged erase (R135): step 1, step 2 for a slot, step 3. -/
inductive StageStep where
  | pending
  | slot (i : Fin 8)
  | final
deriving DecidableEq, Repr, Inhabited

/-- The key-store write the CU awaits, and with it what it does next (R121, R126, R127, R128, R131, R132, R135). -/
inductive CuTask where
  | idle
  | rebuild
  | spendRecovery (former : CredFields)
  | zeroFailures (formerCount : Nat) (former : Option CredFields)
  | restoreFailures (former : Option CredFields)
  | restoreRecovery
  | adminMatch
  | failure (count : Nat)
  | enrol
  | setting
  | clear (rest : List (Fin 8))
  | stage (step : StageStep)
deriving DecidableEq, Repr

/-- The Credential Unit (R125). `purpose` is what an ENROL verify is for; `overtaken` marks a change whose CHANGE a
lock event has ended (R92); `waiting` is a hand-over that waits for the rebuild write (R165). -/
structure Cu where
  work : CuWork
  kind : Option VerifyKind
  digits : Option (List Digit)
  target : Option (Fin 8)
  result : Option VerifyResult
  sessionKey : Option Key
  purpose : Option EnrolFor
  task : CuTask
  overtaken : Bool
  waiting : Option Handover
deriving DecidableEq, Repr

/-- What a key-store request asks for (R122): a whole credential record, or fields of the device record. -/
inductive KsBody where
  | cred (slot : Fin 8) (fields : CredFields)
  | dev (update : DevUpdate)
deriving DecidableEq, Repr

/-- A request of the write queue; `bySweep` when the SWU made it, else the CU (R122). -/
structure KsReq where
  bySweep : Bool
  body : KsBody
deriving DecidableEq, Repr

/-- The content of the write in flight, formed when it began (R122). -/
inductive KsContent where
  | cred (slot : Fin 8) (record : CredRecord)
  | dev (record : DevRecord)
deriving DecidableEq, Repr

/-- The internal non-volatile memory: eight credential records and the device record (R121). -/
structure Nvm where
  creds : List CredRecord
  dev : DevRecord
deriving DecidableEq, Repr

/-- The Key Store: the NVM, the record images, the write queue (oldest, in flight, first), and the content of the
write in flight. -/
structure Ks where
  nvm : Nvm
  creds : List CredRecord
  dev : DevRecord
  queue : List KsReq
  writing : Option KsContent
deriving DecidableEq, Repr

/-- The sweep state, with RUNNING's sub-states (R140). -/
inductive SweepState where
  | idle
  | issuing
  | waiting
  | paused
deriving DecidableEq, Repr, Inhabited

/-- The Sweep Unit (R140). `dropResult`: the DISCARD outstanding is of an earlier pass, and its result is dropped
(R148). `lastPercent`: the percent it last reported since power-on (R16). -/
structure Swu where
  state : SweepState
  cursor : Option Nat
  retry : Bool
  since : Nat
  hold : Bool
  discardOut : Bool
  writeOut : Bool
  dropResult : Bool
  lastPercent : Option Nat
deriving DecidableEq, Repr, Inhabited

/-! ## IND (chapter 9) -/

/-- A brief pattern (R154). -/
inductive Brief where
  | verdict (v : Verdict)
  | activity
deriving DecidableEq, Repr, Inhabited

/-- The seven sources (R152). -/
inductive Source where
  | fault
  | verdict
  | sweep
  | lockout
  | entry
  | activity
  | base
deriving DecidableEq, Repr, Inhabited

/-- The continuous patterns (R153); `brief` while a brief pattern is shown, whose phases its remaining count fixes. -/
inductive Pattern where
  | fault
  | sweep
  | lockout
  | entryUnlock
  | entryAdmin
  | baseRed
  | baseGreen
  | baseBlue
  | baseDark
  | brief
deriving DecidableEq, Repr, Inhabited

/-- The Indicator Unit (R154): service slot, remaining ticks (0: the run-out is due), slot condition, pending verdict,
activity rest, shown source, and the pattern shown with the milliseconds of its period that have run. -/
structure Ind where
  slot : Option Brief
  remaining : Nat
  suspended : Bool
  pendingVerdict : Option Verdict
  rest : Timer
  shown : Source
  pattern : Pattern
  elapsed : Nat
deriving DecidableEq, Repr, Inhabited

/-! ## The whole part -/

/-- Whether the part has power: off (or NPOR asserted), reading its key store after the release of NPOR, or running
(R163, R167). -/
inductive Power where
  | off
  | reading
  | running
deriving DecidableEq, Repr, Inhabited

/-- The state of the ULJ-260. `txns` holds the transaction records in arrival order, oldest first, so that the
arrival-order list is their tags (R21, R22). `draws` counts the free values used (random draws and torn records).
`pending` is the queue of commands that wait, first in, first out. -/
structure State where
  power : Power
  uli : Uli
  txns : List Txn
  atr : Atr
  ubp : Ubp
  ce : Ce
  dli : Dli
  ac : Ac
  kps : Kps
  ecp : Ecp
  cu : Cu
  ks : Ks
  swu : Swu
  ind : Ind
  draws : Nat
  pending : List Instr
deriving DecidableEq, Repr

/-! ## Values after reset -/

/-- A sealed credential record: its check value is the check over its fields (R118). -/
def CredRecord.seal (f : CredFields) : CredRecord := { fields := f, check := Config.credCheck f }

/-- A sealed device record (R120). -/
def DevRecord.seal (f : DevFields) : DevRecord := { fields := f, check := Config.devCheck f }

/-- DESIGN CHOICE (notes/assumptions/6.md): the key store of a part that has never been enrolled, every slot EMPTY and the device
record at its defaults. -/
def Nvm.factory : Nvm :=
  { creds := List.replicate 8 (CredRecord.seal (CredFields.bare .empty)),
    dev := DevRecord.seal DevFields.defaults }

/-- No attention reason held (R38). -/
def Attn.none : Attn :=
  { powerOn := false, presentation := false, sweepDone := false, tableEmptied := false, resume := false }

/-- The twelve keys UP with run counts 0 (R101). -/
def Kps.allUp : List KeyScan := List.replicate 12 { down := false, run := 0 }

/-- Every block at its power-on value, by R2, R5, R40, R63, R65, R66, R71, R79, R101, R106, R125, R140 and R160, the
key store as the medium holds it, and no image formed yet (R164). The part has power and reads its key store. -/
def State.atRelease (nvm : Nvm) (draws : Nat) (up : List UpRecord) (down : List DownRecord)
    (pending : List Instr) : State :=
  { power := .reading,
    uli := { attn := { Attn.none with powerOn := true }, refusals := [], intakes := [], output := .free, link := [],
             sent := up },
    txns := [],
    atr := { volume := .overlay, highest := some 2047 },
    ubp := { jobs := [], mem := [] },
    ce := { key := none },
    dli := { slots := [], requests := [], errors := [], media := .unknown, reported := none, usable := none,
             clamped := false, identWait := some 50, sent := down },
    ac := { access := .starting, presentation := .overlay, sessionSlot := none, scope := none, lossSeen := false,
            settle := none, lockout := none, admin := none, idle := none, standby := false, changed := false,
            held := none },
    kps := { scanning := true, keys := Kps.allUp, group := none, hold := none, due := [], fifo := [] },
    ecp := { ready := true, adminTable := false, stack := [], overlong := false, copy := none, command := none,
             timer := none },
    cu := { work := .idle, kind := none, digits := none, target := none, result := none, sessionKey := none,
            purpose := none, task := .idle, overtaken := false, waiting := none },
    ks := { nvm := nvm, creds := Nvm.factory.creds, dev := Nvm.factory.dev, queue := [], writing := none },
    swu := { state := .idle, cursor := none, retry := false, since := 0, hold := false, discardOut := false,
             writeOut := false, dropResult := false, lastPercent := none },
    ind := { slot := none, remaining := 0, suspended := false, pendingVerdict := none, rest := none, shown := .base,
             pattern := .baseDark, elapsed := 0 },
    draws := draws,
    pending := pending }

/-- The part right after reset: NPOR just released (R163), on a key store that has never been written. -/
def State.reset : State := State.atRelease Nvm.factory 0 [] [] []

end Sys2Proof.Machine
end

