-- ==== Sys2Proof/Machine/Ops.lean ====
section
/-! DEFINITION. The named operations over State, timers and the unit buffers. -/

namespace Sys2Proof.Machine

open Sys2Proof

/-! ## Replacing one block -/

/-- Replace the ULI. -/
def State.setUli (s : State) (x : Uli) : State := { s with uli := x }
/-- Replace the transaction records. -/
def State.setTxns (s : State) (x : List Txn) : State := { s with txns := x }
/-- Replace the ATR. -/
def State.setAtr (s : State) (x : Atr) : State := { s with atr := x }
/-- Replace the UBP. -/
def State.setUbp (s : State) (x : Ubp) : State := { s with ubp := x }
/-- Replace the CE. -/
def State.setCe (s : State) (x : Ce) : State := { s with ce := x }
/-- Replace the DLI. -/
def State.setDli (s : State) (x : Dli) : State := { s with dli := x }
/-- Replace the AC. -/
def State.setAc (s : State) (x : Ac) : State := { s with ac := x }
/-- Replace the KPS. -/
def State.setKps (s : State) (x : Kps) : State := { s with kps := x }
/-- Replace the ECP. -/
def State.setEcp (s : State) (x : Ecp) : State := { s with ecp := x }
/-- Replace the CU. -/
def State.setCu (s : State) (x : Cu) : State := { s with cu := x }
/-- Replace the KS. -/
def State.setKs (s : State) (x : Ks) : State := { s with ks := x }
/-- Replace the SWU. -/
def State.setSwu (s : State) (x : Swu) : State := { s with swu := x }
/-- Replace the IND. -/
def State.setInd (s : State) (x : Ind) : State := { s with ind := x }

/-! ## Outcomes -/

/-- A command that acts whenever the part has power; without power it has no effect (notes/assumptions/10.md). -/
def State.whenPowered (s : State) (f : State → State) : Host.Outcome State Fault Refusal :=
  .next (if s.power = .off then s else f s)

/-- A command that acts only once the KS reading has completed (R163). -/
def State.whenRunning (s : State) (f : State → State) : Host.Outcome State Fault Refusal :=
  .next (if s.power = .running then f s else s)

/-! ## Timers (R162) -/

/-- One tick counted by a running timer; a stopped timer, and one whose expiry is due, keep their value. -/
def Timer.tick : Timer → Timer
  | none => none
  | some n => some (n - 1)

/-- A tick counted only while the owner's rule lets the timer count. -/
def Timer.tickIf (counts : Bool) (t : Timer) : Timer := if counts then Timer.tick t else t

/-- The timer has counted to 0 and its expiry has not been taken. -/
def Timer.due (t : Timer) : Bool := t == some 0

/-! ## The unit buffers (R1, R42) -/

/-- What an address that no cell lists reads as: zero (notes/assumptions/7.md). -/
def Memory.blank : Byte := 0

/-- The canonical form: addresses strictly rising, and no cell equal to what an unlisted address reads as. -/
abbrev Memory.wf (m : List Host.Cell) : Prop :=
  m.Pairwise (fun a b => a.1 < b.1) ∧ ∀ c ∈ m, c.2 ≠ Memory.blank

/-- The byte at an address. -/
def Memory.read : List Host.Cell → Nat → Byte
  | [], _ => Memory.blank
  | c :: rest, a => if c.1 = a then c.2 else Memory.read rest a

/-- The cells of a run of bytes from an address on, blank bytes left out. -/
def Memory.cells : Nat → List Byte → List Host.Cell
  | _, [] => []
  | a, b :: rest => if b = Memory.blank then Memory.cells (a + 1) rest else (a, b) :: Memory.cells (a + 1) rest

/-- Store a run of bytes from an address on. -/
def Memory.store (m : List Host.Cell) (base : Nat) (bytes : List Byte) : List Host.Cell :=
  m.filter (fun c => c.1 < base) ++ Memory.cells base bytes ++ m.filter (fun c => base + bytes.length ≤ c.1)

/-- The bytes from an address on. -/
def Memory.load (m : List Host.Cell) (base n : Nat) : List Byte :=
  (List.range n).map (fun i => Memory.read m (base + i))

/-- The address of byte 0 of sector offset `j` of a buffer (R1, R42). -/
def sectorAddress (buf : Fin 8) (j : Fin 8) : Nat := 4096 * buf.val + 512 * j.val

/-- Place a page of 4096 bytes in a buffer (R64); a list of another length is no page and is not placed (R173). -/
def placePage (buf : Fin 8) (page : List Byte) (s : State) : State :=
  if page.length = 4096 then
    s.setUbp { s.ubp with mem := Memory.store s.ubp.mem (4096 * buf.val) page }
  else s

/-- Place one supplied sector at its offset in a buffer (R31). -/
def placeSector (buf : Fin 8) (j : Fin 8) (sector : List Byte) (s : State) : State :=
  if sector.length = 512 then
    s.setUbp { s.ubp with mem := Memory.store s.ubp.mem (sectorAddress buf j) sector }
  else s

/-- The 512 bytes of sector offset `j` of a buffer (R1). -/
def bufferSector (buf : Fin 8) (j : Nat) (s : State) : List Byte :=
  Memory.load s.ubp.mem (4096 * buf.val + 512 * j) 512

/-- The 4096 bytes of a buffer, as the CE takes them (R12). -/
def bufferUnit (buf : Fin 8) (s : State) : Fin 4096 → Byte :=
  fun i => Memory.read s.ubp.mem (4096 * buf.val + i.val)

/-- Write a whole unit back into its buffer (section 3.5). -/
def putUnit (buf : Fin 8) (u : Fin 4096 → Byte) (s : State) : State := placePage buf (List.ofFn u) s

/-! ## Transaction records by tag (R22) -/

/-- The record of a tag, if the table holds one. -/
def State.txn? (s : State) (t : Fin 16) : Option Txn := s.txns.find? (fun x => x.tag == t)

/-- Change the record of a tag. -/
def updTxn (t : Fin 16) (f : Txn → Txn) (s : State) : State :=
  s.setTxns (s.txns.map (fun x => if x.tag = t then f x else x))

/-- Remove the record of a tag; the tags behind it close up and keep their order (R21). -/
def dropTxn (t : Fin 16) (s : State) : State := s.setTxns (s.txns.filter (fun x => x.tag != t))

/-- The transfer count m of a READ or WRITE (R7); absent, so 0, for other kinds. -/
def Txn.m (x : Txn) : Nat := x.transfer.getD 0

/-! ## Unit jobs by buffer (R42, R43) -/

/-- The job bound to a buffer. -/
def State.job? (s : State) (b : Fin 8) : Option Job := s.ubp.jobs.find? (fun j => j.buf == b)

/-- Change the job bound to a buffer. -/
def updJob (b : Fin 8) (f : Job → Job) (s : State) : State :=
  s.setUbp { s.ubp with jobs := s.ubp.jobs.map (fun j => if j.buf = b then f j else j) }

/-- Free a buffer: its job's record is no longer in use and its claim is released (R42, R45). -/
def dropJob (b : Fin 8) (s : State) : State :=
  s.setUbp { s.ubp with jobs := s.ubp.jobs.filter (fun j => j.buf != b) }

/-- The lowest-numbered free buffer (R42: the choice has no effect on any outcome). -/
def State.freeBuffer (s : State) : Option (Fin 8) :=
  (List.finRange 8).find? (fun b => !s.ubp.jobs.any (fun j => j.buf == b))

/-! ## Intake records (R30) -/

/-- The open intake of a tag. -/
def State.intake? (s : State) (t : Fin 16) : Option Intake := s.uli.intakes.find? (fun i => i.tag == t)

/-- Close the intake of a tag; its data-wait timer stops with it (R32). -/
def closeIntake (t : Fin 16) (s : State) : State :=
  s.setUli { s.uli with intakes := s.uli.intakes.filter (fun i => i.tag != t) }

/-- The upstream output falls free (R29). -/
def freeOutput (s : State) : State := s.setUli { s.uli with output := .free }

/-- A record has been sent whole on the upstream link. -/
def sendUp (r : UpRecord) (s : State) : State := s.setUli { s.uli with sent := r :: s.uli.sent }

/-- An operation frame is sent on the downstream link at its issue (R173). -/
def sendDown (r : DownRecord) (s : State) : State := s.setDli { s.dli with sent := r :: s.dli.sent }

end Sys2Proof.Machine
end

