-- ==== Sys2Proof/Machine/Operands.lean ====
section
/-! DEFINITION. The address arithmetic of chapter 1 and the other computed operands: the clamps, the unit split, the
sweep percent, the throttle delay. -/

namespace Sys2Proof.Machine

/-! ## Page count (R4) -/

/-- The usable page count U for a reported page count P: absent below 32,768, at most 2^29 (R4). -/
def usablePages (p : Nat) : Option Nat := if p < 32768 then none else some (min p (2 ^ 29))

/-- The capacity-clamped flag for a reported page count (R4). -/
def pagesClamped (p : Nat) : Bool := 2 ^ 29 < p

/-- The media condition an IDENT of P pages gives (R4, R70). -/
def identMedia (p : Nat) : Media := if p < 32768 then .unusable else .ok

/-! ## Range clamp (R6) -/

/-- The transfer count m for a request of n sectors from L against H (R6). The end is formed without wrapping. -/
def rangeClamp (lba n : Nat) : Option Nat → Nat
  | none => 0
  | some h => if h < lba then 0 else if h < lba + n - 1 then h - lba + 1 else n

/-! ## Unit split (R8, R9) -/

/-- u0, the first unit (R8). -/
def firstUnit (lba : Nat) : Nat := lba / 8

/-- u1, the last unit (R8). -/
def lastUnit (lba m : Nat) : Nat := (lba + m - 1) / 8

/-- The first sector offset of unit u (R9). -/
def splitFirst (lba u : Nat) : Nat := if u = firstUnit lba then lba % 8 else 0

/-- The last sector offset of unit u (R9). -/
def splitLast (lba m u : Nat) : Nat := if u = lastUnit lba m then (lba + m - 1) % 8 else 7

/-- The sector count k of unit u (R9). -/
def splitCount (lba m u : Nat) : Nat := splitLast lba m u - splitFirst lba u + 1

/-- The job kind of unit u (R9). -/
def splitKind (kind : TxKind) (lba m u : Nat) : JobKind :=
  if kind = .read then .read
  else if splitFirst lba u = 0 ∧ splitLast lba m u = 7 then .writeFull else .writeMerge

/-! ## A transaction's units (R8, R22, R45) -/

/-- The first LBA of a READ or WRITE record. -/
def Txn.first (x : Txn) : Nat := x.lba.getD 0

/-- u1 of a user-volume READ or WRITE. -/
def Txn.lastU (x : Txn) : Nat := lastUnit x.first x.m

/-- The transaction is a READ or WRITE on the user volume. -/
def Txn.isUserTransfer (x : Txn) : Bool := (x.kind == .read || x.kind == .write) && x.volume == .user

/-- The next unit, when the next-unit field is not beyond u1 (R22). -/
def Txn.next? (x : Txn) : Option Nat :=
  match x.nextUnit with
  | none => none
  | some u => if u ≤ x.lastU then some u else none

/-- The transaction is yet to finish with unit u (R45, condition 2). -/
def Txn.coversLater (x : Txn) (u : Nat) : Bool :=
  x.isUserTransfer && x.phase == .active && decide (firstUnit x.first ≤ u) && decide (u ≤ x.lastU) &&
    decide (x.nextUnit.getD 0 ≤ u)

/-! ## Sweep percent (R15, R16) -/

/-- The exact quotient 100c/U rounded to the nearest integer, halves to even (R15). -/
def roundedPercent (c u : Nat) : Nat :=
  let q := 100 * c / u
  let r := 100 * c % u
  if 2 * r < u then q else if u < 2 * r then q + 1 else if q % 2 = 0 then q else q + 1

/-- The percent a STATE answer reports (R16). While RUNNING with U absent it is the last one reported, held below
100 as R16 holds every report of a running sweep (notes/assumptions/20.md). DESIGN CHOICE: a cursor above U, for which R15
gives no figure, reports 99 (notes/assumptions/42.md). DESIGN CHOICE: R146 has STATE read 99 while the NONE write is in
flight; where an IDENT of that interval gives a larger U, or leaves U absent, R15 and R16 give another figure, and the model
reports theirs: c over the new U, or the last percent reported (notes/assumptions/46.md). -/
def reportedPercent (w : Swu) (usable : Option Nat) : Nat :=
  match w.state with
  | .idle => 100
  | _ =>
    match usable with
    | some u => min 99 (roundedPercent (w.cursor.getD 0) u)
    | none => min 99 (w.lastPercent.getD 0)

/-! ## Sweep windows (R143) -/

/-- The page count of the window at c (R143). -/
def windowCount (c u : Nat) : Nat := min 256 (u - c)

/-! ## Throttle (R130) -/

/-- The throttle delay after the failure that brings the count to f, in ticks (R130). -/
def throttleTicks (f : Nat) : Nat := if f ≤ 2 then 0 else min 3000 (50 * 2 ^ (f - 3))

/-- The lockout remaining in whole seconds, rounded up (R37). -/
def lockoutSeconds (a : Ac) : Nat := if a.access = .lockout then (a.lockout.getD 0 + 9) / 10 else 0

/-! ## Setting clamps (R132) -/

/-- Auto-lock minutes above 60 are written as 60 (R132). -/
def clampMinutes (v : Nat) : Nat := min 60 v

/-- The attempt limit is written between 4 and 20 (R132). -/
def clampLimit (v : Nat) : Nat := max 4 (min 20 v)

/-! ## PIN checks (R112) -/

/-- Every digit is the same (R112, check 2). -/
def uniform : List Digit → Bool
  | [] => true
  | d :: rest => rest.all (fun e => e == d)

/-- Each digit is the one before it plus 1 throughout, with no wrap (R112, check 3). -/
def risingRun : List Digit → Bool
  | a :: b :: rest => decide (b.val = a.val + 1) && risingRun (b :: rest)
  | _ => true

/-- Each digit is the one before it minus 1 throughout, with no wrap (R112, check 3). -/
def fallingRun : List Digit → Bool
  | a :: b :: rest => decide (b.val + 1 = a.val) && fallingRun (b :: rest)
  | _ => true

/-- The verdict of the first check of R112 that a first entry fails, in the rule's order. -/
def firstEntryFault (stack : List Digit) (overlong : Bool) : Option Verdict :=
  if stack.length < 7 ∨ overlong then some .format
  else if uniform stack then some .refused
  else if risingRun stack ∨ fallingRun stack then some .refused
  else none

/-- The value one or two digits form, ten times the first plus the second (R114). -/
def keyedValue : List Digit → Option Nat
  | [a] => some a.val
  | [a, b] => some (10 * a.val + b.val)
  | _ => none

/-! ## Codes (R172) -/

/-- The outcome codes (R172). -/
def Result.code : Result → Byte
  | .good => 0
  | .short => 1
  | .range => 2
  | .writeProtected => 3
  | .becomingReady => 4
  | .volumeChanged => 5
  | .mediaFault => 6
  | .dataTimeout => 7
  | .aborted => 8
  | .tagBusy => 9
  | .requestFault => 10

/-- The cause codes (R172). -/
def Cause.code : Cause → Byte
  | .lockKey => 1
  | .idle => 2
  | .standby => 3
  | .mediaLost => 4
  | .erase => 5
  | .unlock => 6

/-- The outcome a failure reports (R27). -/
def Failure.outcome : Failure → Result
  | .volumeChanged _ => .volumeChanged
  | .mediaFault => .mediaFault
  | .dataTimeout => .dataTimeout
  | .aborted => .aborted

/-- The detail of a COMPLETE: the cause code of VOLUME_CHANGED, else 0 (R27). -/
def failureDetail : Option Failure → Byte
  | some (.volumeChanged c) => c.code
  | _ => 0

/-- The access state as reported (R37): ADMIN_ENTRY as LOCKED. Before the KS reading no answer is given. -/
def Access.reported : Access → ReportedAccess
  | .starting | .lockedIdle | .lockedEntry | .lockedVerifying | .lockedAdminEntry | .lockedAdminVerifying => .locked
  | .blankFirst | .blankRepeat => .blank
  | .lockout => .lockout
  | .adminSession => .admin
  | .settling | .presented | .change => .unlocked
  | .erasing => .erasing

/-- The access state is UNLOCKED, in any sub-state. -/
def Access.unlocked : Access → Bool
  | .settling | .presented | .change => true
  | _ => false

/-- The presentation of each sub-state (section 5.1). -/
def Access.presentation : Access → Volume
  | .settling => .nothing
  | .presented | .change => .user
  | _ => .overlay

end Sys2Proof.Machine
end

