-- ==== Sys2Proof/Machine/Flags.lean ====
section
/-! DEFINITION. The ATTN latch and the status flags: the reasons and the line (R38), the answers to SIZE and STATE
(R36, R37). -/

namespace Sys2Proof.Machine

/-- The reasons of the ATTN latch. -/
inductive Reason where
  | powerOn
  | presentation
  | sweepDone
  | tableEmptied
  | resume
deriving DecidableEq, Repr

/-- A reason joins the set; one already there leaves it as it was (R38). -/
def Attn.join (a : Attn) : Reason → Attn
  | .powerOn => { a with powerOn := true }
  | .presentation => { a with presentation := true }
  | .sweepDone => { a with sweepDone := true }
  | .tableEmptied => { a with tableEmptied := true }
  | .resume => { a with resume := true }

/-- The set is not empty. -/
def Attn.any (a : Attn) : Bool := a.powerOn || a.presentation || a.sweepDone || a.tableEmptied || a.resume

/-- The ATTN line: high while the set is not empty (R38). -/
def State.attnLine (s : State) : Bool := s.uli.attn.any

/-- A reason joins the ATTN latch. -/
def attention (r : Reason) (s : State) : State := s.setUli { s.uli with attn := s.uli.attn.join r }

/-- The reasons byte, its reserved high bits 0 (R172). -/
def Attn.byte (a : Attn) : Nat := flagByte [a.powerOn, a.presentation, a.sweepDone, a.tableEmptied, a.resume]

/-- The SIZE answer formed now (R3, R36): H + 1 sectors, absent for NONE. -/
def State.sizeAnswer (s : State) : SizeAnswer :=
  { volume := s.atr.volume,
    capacity := match s.atr.volume with
      | .nothing => none
      | _ => s.atr.highest.map (fun h => h + 1) }

/-- The STATE answer formed now from the blocks that own each field (R37). -/
def State.stateAnswer (s : State) : StateAnswer :=
  { access := s.ac.access.reported,
    volume := s.ac.presentation,
    lockoutSeconds := lockoutSeconds s.ac,
    media := s.dli.media,
    clamped := s.dli.clamped,
    readOnly := s.ks.dev.fields.readOnly,
    rebuilt := s.ks.dev.fields.rebuilt,
    sweeping := s.swu.state != .idle,
    percent := reportedPercent s.swu s.dli.usable,
    degraded := s.ks.dev.fields.degraded,
    eraseCount := s.ks.dev.fields.eraseCount,
    reasons := s.uli.attn }

/-- The flags byte of the STATE payload, its reserved high bits 0 (R172). -/
def StateAnswer.flags (a : StateAnswer) : Nat := flagByte [a.clamped, a.readOnly, a.rebuilt, a.sweeping, a.degraded]

end Sys2Proof.Machine
end

