-- ==== Sys2Proof/Machine/Frames.lean ====
section
/-! DEFINITION. The byte layouts of the frames the part sends (R171, R172, R173). -/

namespace Sys2Proof.Machine

/-- The presented volume's code (R172). -/
def Volume.code : Volume → Nat
  | .overlay => 0
  | .nothing => 1
  | .user => 2

/-- The access state's code (R172). -/
def ReportedAccess.code : ReportedAccess → Nat
  | .blank => 0
  | .locked => 1
  | .lockout => 2
  | .admin => 3
  | .unlocked => 4
  | .erasing => 5

/-- The media condition's code (R172). -/
def Media.code : Media → Nat
  | .unknown => 0
  | .ok => 1
  | .unusable => 2
  | .absent => 3

/-- The 12 bytes of a SIZE payload (R172). -/
def SizeAnswer.bytes (a : SizeAnswer) : List Byte :=
  leBytes 1 a.volume.code ++ leBytes 1 (if a.capacity.isSome then 1 else 0) ++ leBytes 2 512 ++
    leBytes 8 (a.capacity.getD 0)

/-- The 10 bytes of a STATE payload (R172). -/
def StateAnswer.bytes (a : StateAnswer) : List Byte :=
  leBytes 1 a.access.code ++ leBytes 1 a.volume.code ++ leBytes 1 a.media.code ++ leBytes 1 a.flags ++
    leBytes 2 a.lockoutSeconds ++ leBytes 1 a.percent ++ leBytes 1 a.reasons.byte ++ leBytes 2 a.eraseCount

/-- The bytes of a payload (R172). -/
def Payload.bytes : Payload → List Byte
  | .none => []
  | .size a => a.bytes
  | .state a => a.bytes

/-- The frame of a COMPLETE record: 7, 17 or 19 bytes (R171, R172). -/
def Complete.frame (c : Complete) : List Byte :=
  [131, c.tag, c.outcome.code, c.detail] ++ leBytes 2 c.residue ++ leBytes 1 c.payload.bytes.length ++ c.payload.bytes

/-- The frame of a record sent on the upstream link (R171). -/
def UpRecord.frame : UpRecord → List Byte
  | .readData t lba sector => [129, BitVec.ofNat 8 t.val] ++ leBytes 4 lba ++ sector
  | .dataWanted t lba k => [130, BitVec.ofNat 8 t.val] ++ leBytes 4 lba ++ leBytes 1 k
  | .complete c => c.frame

/-- The frame of an operation sent on the downstream link (R173). -/
def DownRecord.frame : DownRecord → List Byte
  | .pageRead d page => [1, BitVec.ofNat 8 d.val] ++ leBytes 4 page
  | .pageWrite d page cipher => [2, BitVec.ofNat 8 d.val] ++ leBytes 4 page ++ cipher
  | .discard d first count => [3, BitVec.ofNat 8 d.val] ++ leBytes 4 first ++ leBytes 2 count
  | .sync d => [4, BitVec.ofNat 8 d.val]

/-- The operation byte of a COMPLETION frame for an operation: its type code (R173). -/
def DOp.code : DOp → Byte
  | .pageRead _ => 1
  | .pageWrite _ => 2
  | .discard _ _ => 3
  | .sync => 4

/-- How many bytes follow the status byte of a COMPLETION: the page for PAGE_READ with OK, else none (R173). -/
def completionRest (opByte status : Byte) : Nat := if opByte = 1 ∧ status = 0 then 4096 else 0

/-- A COMPLETION is OK for an operation: its operation byte is that operation's, its status byte is 0, and its length
is the one these fix; any other is an ERROR completion (R173). -/
def completionOk (op : DOp) (opByte status : Byte) (rest : List Byte) : Bool :=
  opByte == op.code && status == 0 && rest.length == completionRest opByte status

end Sys2Proof.Machine
end

