-- ==== Sys2Proof/Machine/Downstream.lean ====
section
/-! DEFINITION. The Downstream Link Interface (chapter 4): requests, the slot arbiter, and the loss of the media. -/

namespace Sys2Proof.Machine

open Sys2Proof

/-! ## Requests (R52, R66) -/

/-- A request can be placed in the list: the media condition is OK and what it names lies below U (R66). -/
def State.admissible (s : State) : DOp → Bool
  | .pageRead p | .pageWrite p => s.dli.media == .ok && decide (p < s.dli.usable.getD 0)
  | .discard f c => s.dli.media == .ok && decide (f + c ≤ s.dli.usable.getD 0)
  | .sync => s.dli.media == .ok

/-- An owner makes a request: it joins the list, or is completed ERROR toward its owner at once (R66). -/
def makeRequest (op : DOp) (o : Owner) (s : State) : State :=
  if s.admissible op then s.setDli { s.dli with requests := s.dli.requests ++ [{ op := op, owner := o }] }
  else s.setDli { s.dli with errors := s.dli.errors ++ [{ op := op, owner := o, issued := false }] }

/-- A job requests its page read of page u (R52). -/
def requestRead (b : Fin 8) (u : Nat) (s : State) : State :=
  makeRequest (.pageRead u) (.job b) (updJob b (fun j => { j with pageOp := .requested }) s)

/-- A job requests its page write to page u (R52). -/
def requestWrite (b : Fin 8) (u : Nat) (s : State) : State :=
  makeRequest (.pageWrite u) (.job b) (updJob b (fun j => { j with pageOp := .requested }) s)

/-- A FLUSH requests its SYNC (R76). -/
def requestSync (t : Fin 16) (s : State) : State := makeRequest .sync (.flush t) s

/-- The owner is one of these jobs. -/
def ownerIn (gone : List (Fin 8)) : Owner → Bool
  | .job b => gone.contains b
  | _ => false

/-- The requests of ended jobs are withdrawn, and no completion reaches them (R52, R60). -/
def withdrawJobs (gone : List (Fin 8)) (s : State) : State :=
  s.setDli { s.dli with
    requests := s.dli.requests.filter (fun r => !ownerIn gone r.owner),
    errors := s.dli.errors.filter (fun e => !ownerIn gone e.owner) }

/-- A FLUSH's SYNC that was requested and not issued is withdrawn (R77). -/
def withdrawSync (t : Fin 16) (s : State) : State :=
  s.setDli { s.dli with
    requests := s.dli.requests.filter (fun r => r.owner != .flush t),
    errors := s.dli.errors.filter (fun e => e.owner != .flush t || e.issued) }

/-- A SYNC of this FLUSH has been issued and its completion has not been taken (R23, R77). -/
def State.syncIssued (s : State) (t : Fin 16) : Bool :=
  s.dli.slots.any (fun x => x.owner == .flush t) || s.dli.errors.any (fun e => e.owner == .flush t && e.issued)

/-! ## User operations (R66, R68) -/

/-- A PAGE_READ or PAGE_WRITE. -/
def DOp.isUser : DOp → Bool
  | .pageRead _ | .pageWrite _ => true
  | _ => false

/-- The number of user operations, in the request list or in a slot (R66). -/
def State.userOps (s : State) : Nat :=
  (s.dli.requests.filter (fun r => r.op.isUser)).length + (s.dli.slots.filter (fun x => x.op.isUser)).length

/-! ## The slot arbiter (R65, R67, R68) -/

/-- The lowest-numbered free dtag (R65). -/
def State.freeSlot (s : State) : Option (Fin 4) :=
  (List.finRange 4).find? (fun d => !s.dli.slots.any (fun x => x.dtag == d))

/-- A page write of an abandoned job: rank 1 of the arbiter (R67). -/
def State.isOrphanWrite (s : State) (r : DReq) : Bool :=
  match r.op, r.owner with
  | .pageWrite _, .job b => match s.job? b with
    | some j => j.abandoned
    | none => false
  | _, _ => false

/-- The request belongs to this transaction: to one of its jobs, or it is its SYNC (R67). -/
def State.requestOf (s : State) (t : Fin 16) (r : DReq) : Bool :=
  match r.owner with
  | .job b => match s.job? b with
    | some j => j.owner == t && !j.abandoned
    | none => false
  | .flush x => x == t
  | _ => false

/-- The page a request names, for the choice of the lowest unit index (R67). -/
def DOp.page : DOp → Nat
  | .pageRead p | .pageWrite p => p
  | _ => 0

/-- The request for the lowest unit index, the first made among equals. -/
def lowestRequest : List DReq → Option DReq
  | [] => none
  | r :: rest =>
    match lowestRequest rest with
    | none => some r
    | some q => if q.op.page < r.op.page then some q else some r

/-- Rank 2: the request whose owner transaction is oldest, the lowest unit index among its own (R67). -/
def State.oldestRequest (s : State) : Option DReq :=
  s.txns.findSome? (fun x => lowestRequest (s.dli.requests.filter (s.requestOf x.tag)))

/-- Rank 3: the sweep's DISCARD, when the table holds no transaction on USER (R68). -/
def State.discardRequest (s : State) : Option DReq :=
  if s.txns.any (fun x => x.volume == .user) then none
  else s.dli.requests.find? (fun r => r.owner == .sweep)

/-- The request the slot arbiter chooses (R67). -/
def State.chosenRequest (s : State) : Option DReq :=
  if s.dli.media ≠ .ok then none else
  match s.dli.requests.find? s.isOrphanWrite with
  | some r => some r
  | none =>
    match s.oldestRequest with
    | some r => some r
    | none => s.discardRequest

/-- The frame sent at the issue of a request (R173). -/
def issueFrame (d : Fin 4) (r : DReq) (s : State) : DownRecord :=
  match r.op with
  | .pageRead p => .pageRead d p
  | .pageWrite p => match r.owner with
    | .job b => .pageWrite d p (List.ofFn (bufferUnit b s))
    | _ => .pageWrite d p []
  | .discard f c => .discard d f c
  | .sync => .sync d

/-- The owner of an issued request learns of it: a job's page operation becomes ISSUED (R52), and the sweep's window
WAITING (R143). -/
def tellIssued (d : Fin 4) : Owner → State → State
  | .job b, s => updJob b (fun j => { j with pageOp := .issued d }) s
  | .sweep, s => s.setSwu { s.swu with state := if s.swu.state = .issuing then .waiting else s.swu.state }
  | _, s => s

/-- A request is issued on a slot: it leaves the list, occupies the slot, and its frame is sent (R65, R173). -/
def issue (d : Fin 4) (r : DReq) (s : State) : State :=
  sendDown (issueFrame d r s)
    (tellIssued d r.owner
      (s.setDli { s.dli with
        requests := s.dli.requests.erase r,
        slots := s.dli.slots ++ [{ dtag := d, op := r.op, owner := r.owner }] }))

/-- The DLI issues chosen requests while a slot is free (R65), at most `n` of them. -/
def issueAll : Nat → State → State
  | 0, s => s
  | n + 1, s =>
    match s.freeSlot, s.chosenRequest with
    | some d, some r => issueAll n (issue d r s)
    | _, _ => s

/-! ## The loss of the media (R73) -/

/-- The DLI's part of a loss: the condition becomes ABSENT, the IDENT wait stops, every slot is freed and every
request removed, each completed ERROR toward its owner; an operation with no owner is discarded (R73). -/
def loseMedia (s : State) : State :=
  s.setDli { s.dli with
    media := .absent,
    identWait := none,
    slots := [],
    requests := [],
    errors := s.dli.errors
      ++ (s.dli.slots.filter (fun x => x.owner != .nobody)).map
          (fun x => { op := x.op, owner := x.owner, issued := true })
      ++ s.dli.requests.map (fun r => { op := r.op, owner := r.owner, issued := false }) }

/-- P, U, the flag and the condition as an IDENT gives them; the IDENT wait stops (R4, R70, R71). -/
def identify (p : BitVec 32) (s : State) : State :=
  s.setDli { s.dli with
    reported := some p,
    usable := usablePages p.toNat,
    clamped := pagesClamped p.toNat,
    media := identMedia p.toNat,
    identWait := none }

end Sys2Proof.Machine
end

