-- ==== Sys2Proof/Machine/Indicator.lean ====
section
/-! DEFINITION. The Indicator Unit (chapter 9): requests, the service slot, arbitration, patterns and the LED lines. -/

namespace Sys2Proof.Machine

/-- The priority of a source, 1 highest (R152). -/
def Source.priority : Source → Nat
  | .fault => 1
  | .verdict => 2
  | .sweep => 3
  | .lockout => 4
  | .entry => 5
  | .activity => 6
  | .base => 7

/-- The source of a brief pattern. -/
def Brief.source : Brief → Source
  | .verdict _ => .verdict
  | .activity => .activity

/-- BASE's pattern (R153); all dark before the AC has chosen its initial state (R160). -/
def basePattern (a : Ac) : Pattern :=
  if a.standby then .baseDark else
  match a.access with
  | .starting => .baseDark
  | .blankFirst | .blankRepeat => .baseBlue
  | .settling | .presented | .change => .baseGreen
  | _ => .baseRed

/-- FAULT requests: the media condition is UNUSABLE or ABSENT (R152), from the completion of the KS reading on
(R160, R164 step 4). -/
def State.faultRequests (s : State) : Bool :=
  s.power == .running && (s.dli.media == .unusable || s.dli.media == .absent)

/-- The continuous source of highest priority that requests, with its pattern (R152, R153). -/
def State.continuous (s : State) : Source × Pattern :=
  if s.faultRequests then (.fault, .fault)
  else if s.swu.state ≠ .idle then (.sweep, .sweep)
  else if s.ac.access = .lockout ∧ s.ac.standby = false then (.lockout, .lockout)
  else if (s.ac.access = .lockedEntry ∨ s.ac.access = .lockedAdminEntry) ∧ s.ac.standby = false then
    (.entry, .entryUnlock)
  else if s.ac.access = .adminSession ∧ s.ac.standby = false then (.entry, .entryAdmin)
  else (.base, basePattern s.ac)

/-- The IND judges the shown source afresh (R155): the brief pattern in the slot is SUSPENDED while a continuous source
of higher priority requests; a pattern newly shown starts at its first phase (R153). DESIGN CHOICE: it judges once, at the
end of the event, so a source that requests for a moment inside one restarts no phase (notes/assumptions/41.md). -/
def judge (s : State) : State :=
  let (src, pat) := s.continuous
  let below := match s.ind.slot with
    | none => false
    | some b => decide (b.source.priority < src.priority)
  let newSrc := match s.ind.slot with
    | some b => if below then b.source else src
    | none => src
  let newPat := if below then .brief else pat
  s.setInd { s.ind with
    suspended := s.ind.slot.isSome && !below,
    shown := newSrc,
    pattern := newPat,
    elapsed := if newSrc = s.ind.shown ∧ newPat = s.ind.pattern then s.ind.elapsed else 0 }

/-- A verdict request (R156). -/
def verdictRequest (v : Verdict) (s : State) : State :=
  match s.ind.slot with
  | some (.verdict _) => s.setInd { s.ind with pendingVerdict := some v }
  | _ => s.setInd { s.ind with slot := some (.verdict v), remaining := 15 }

/-- An ACTIVITY request (R157). -/
def activityRequest (s : State) : State :=
  if s.ac.standby ∨ s.ind.slot.isSome ∨ 0 < s.ind.rest.getD 0 then s
  else s.setInd { s.ind with slot := some .activity, remaining := 1 }

/-- A brief pattern has run out (R154, R156, R157). -/
def briefRunout (s : State) : State :=
  if s.ind.remaining ≠ 0 then s else
  match s.ind.slot with
  | none => s
  | some .activity => s.setInd { s.ind with slot := none, rest := some 2 }
  | some (.verdict _) =>
    match s.ind.pendingVerdict with
    | some v => s.setInd { s.ind with slot := some (.verdict v), remaining := 15, pendingVerdict := none }
    | none => s.setInd { s.ind with slot := none }

/-- The slot, the pending verdict and the rest are emptied at SUSPEND (R159). -/
def darken (s : State) : State :=
  s.setInd { s.ind with slot := none, remaining := 0, suspended := false, pendingVerdict := none, rest := none }

/-- The period of a continuous pattern in ms; 0 for a pattern with no phases (R153). -/
def Pattern.period : Pattern → Nat
  | .fault | .entryUnlock | .entryAdmin => 500
  | .sweep => 1000
  | .lockout => 250
  | _ => 0

/-- One period of the pattern clock: the shown pattern runs on by 1 ms (R151, R161). -/
def patternTick (i : Ind) : Ind :=
  if i.pattern.period = 0 then i else { i with elapsed := (i.elapsed + 1) % i.pattern.period }

/-- Which of the three LED lines are lit. -/
structure Leds where
  red : Bool
  green : Bool
  blue : Bool
deriving DecidableEq, Repr

/-- All three lines dark. -/
def Leds.dark : Leds := { red := false, green := false, blue := false }

/-- The lit phases of a brief pattern by its remaining count (R154). -/
def Brief.leds : Brief → Nat → Leds
  | .verdict .accept, n => { Leds.dark with green := n == 15 || n == 14 || n == 11 || n == 10 }
  | .verdict .reject, n =>
    { Leds.dark with red := n == 15 || n == 14 || n == 11 || n == 10 || n == 7 || n == 6 }
  | .verdict .format, n => { Leds.dark with red := decide (12 ≤ n) && decide (n ≤ 15) }
  | .verdict .refused, n =>
    { Leds.dark with blue := n == 15 || n == 14 || n == 11 || n == 10 || n == 7 || n == 6 }
  | .activity, _ => Leds.dark

/-- The lines a continuous pattern lights after `ms` of its period (R153). -/
def Pattern.leds : Pattern → Nat → Leds
  | .fault, ms => { red := decide (ms < 250), green := false, blue := decide (250 ≤ ms) }
  | .sweep, ms => { Leds.dark with blue := decide (ms < 500) }
  | .lockout, ms => { Leds.dark with red := decide (ms < 125) }
  | .entryUnlock, ms => { Leds.dark with blue := decide (ms < 250) }
  | .entryAdmin, ms => { red := decide (250 ≤ ms), green := decide (ms < 250), blue := false }
  | .baseRed, _ => { Leds.dark with red := true }
  | .baseGreen, _ => { Leds.dark with green := true }
  | .baseBlue, _ => { Leds.dark with blue := true }
  | .baseDark, _ => Leds.dark
  | .brief, _ => Leds.dark

/-- The LED lines: the pattern of exactly one source, the shown source (R151). DESIGN CHOICE: dark without power
(notes/assumptions/28.md). -/
def State.leds (s : State) : Leds :=
  if s.power = .off then Leds.dark else
  match s.ind.pattern, s.ind.slot with
  | .brief, some b => b.leds s.ind.remaining
  | p, _ => p.leds s.ind.elapsed

end Sys2Proof.Machine
end

