-- ==== Sys2Proof/Machine/KeyStore.lean ====
section
/-! DEFINITION. The Key Store (section 7.3): record images, the write queue, the power-on reading, and what a power loss
leaves. -/

namespace Sys2Proof.Machine

open Sys2Proof

/-! ## Images -/

/-- The image of a credential slot. -/
def State.cred (s : State) (i : Fin 8) : CredFields := (s.ks.creds.getD i.val default).fields

/-- The image of the device record. -/
def State.dev (s : State) : DevFields := s.ks.dev.fields

/-! ## Requests (R122) -/

/-- A device-record request that carries no field. -/
def DevUpdate.none : DevUpdate :=
  { failures := .none, limit := .none, autoLock := .none, readOnly := .none, lockOnStandby := .none,
    eraseCount := .none, erasePending := .none, cursor := .none, degraded := .none, rebuilt := .none }

/-- The request's fields replacing the image's values (R122). -/
def DevUpdate.apply (u : DevUpdate) (d : DevFields) : DevFields :=
  { failures := u.failures.getD d.failures,
    limit := u.limit.getD d.limit,
    autoLock := u.autoLock.getD d.autoLock,
    readOnly := u.readOnly.getD d.readOnly,
    lockOnStandby := u.lockOnStandby.getD d.lockOnStandby,
    eraseCount := u.eraseCount.getD d.eraseCount,
    erasePending := u.erasePending.getD d.erasePending,
    cursor := u.cursor.getD d.cursor,
    degraded := u.degraded.getD d.degraded,
    rebuilt := u.rebuilt.getD d.rebuilt }

/-- A request that carries every field of the device record (R121). -/
def DevUpdate.whole (d : DevFields) : DevUpdate :=
  { failures := some d.failures, limit := some d.limit, autoLock := some d.autoLock, readOnly := some d.readOnly,
    lockOnStandby := some d.lockOnStandby, eraseCount := some d.eraseCount, erasePending := some d.erasePending,
    cursor := some d.cursor, degraded := some d.degraded, rebuilt := some d.rebuilt }

/-- The content of a write, formed at its beginning from the image and the request's fields, its check value computed
(R122). -/
def KsBody.content (k : Ks) : KsBody → KsContent
  | .cred i f => .cred i (CredRecord.seal f)
  | .dev u => .dev (DevRecord.seal (u.apply k.dev.fields))

/-- The oldest request's write begins, when a request waits and no write is in flight (R122). -/
def Ks.begin (k : Ks) : Ks :=
  match k.queue, k.writing with
  | r :: _, none => { k with writing := some (r.body.content k) }
  | _, _ => k

/-- A request joins the write queue, and begins at once when the queue was empty (R122). -/
def ksRequest (r : KsReq) (s : State) : State :=
  s.setKs (Ks.begin { s.ks with queue := s.ks.queue ++ [r] })

/-- The medium with a write's content in it. -/
def Nvm.write (m : Nvm) : KsContent → Nvm
  | .cred i r => { m with creds := m.creds.set i.val r }
  | .dev r => { m with dev := r }

/-- The images with a write's content in them. -/
def Ks.takeContent (k : Ks) (c : KsContent) : Ks :=
  match c with
  | .cred i r => { k with creds := k.creds.set i.val r, nvm := k.nvm.write c }
  | .dev r => { k with dev := r, nvm := k.nvm.write c }

/-- The end of the write in flight: the image takes the content written, the request leaves the queue, and the next
request begins (R122). -/
def Ks.endWrite (k : Ks) (c : KsContent) : Ks :=
  Ks.begin { k.takeContent c with queue := k.queue.tail, writing := none }

/-! ## Reading at power-on (R121) -/

/-- A credential record passes its check. -/
def CredRecord.passes (r : CredRecord) : Bool := r.check == Config.credCheck r.fields

/-- The device record passes its check. -/
def DevRecord.passes (r : DevRecord) : Bool := r.check == Config.devCheck r.fields

/-- The image of a credential record as read: DAMAGED when it fails its check (R121). -/
def CredRecord.image (r : CredRecord) : CredRecord :=
  if r.passes then r else { r with fields := CredFields.bare .damaged }

/-- The image of the device record as read, or rebuilt when it fails its check (R121). -/
def DevRecord.image (r : DevRecord) : DevRecord :=
  if r.passes then r else DevRecord.seal DevFields.rebuiltValues

/-- The record images formed by the power-on reading (R121). -/
def readImages (s : State) : State :=
  s.setKs { s.ks with creds := s.ks.nvm.creds.map CredRecord.image, dev := s.ks.nvm.dev.image }

/-! ## Power loss (R123) -/

/-- A credential record that fails its check, with contents the spec does not give. -/
def CredRecord.torn (n : Nat) : CredRecord :=
  { fields := Config.tornCred n, check := Config.credCheck (Config.tornCred n) + 1 }

/-- A device record that fails its check, with contents the spec does not give. -/
def DevRecord.torn (n : Nat) : DevRecord :=
  { fields := Config.tornDev n, check := Config.devCheck (Config.tornDev n) + 1 }

/-- What a power loss leaves of the medium: the record of the write in flight as before, as written or failing its
check, the others untouched (R123). -/
def Ks.afterLoss (k : Ks) (fate : WriteFate) (draws : Nat) : Nvm :=
  match k.writing, fate with
  | none, _ => k.nvm
  | some _, .asBefore => k.nvm
  | some c, .asWritten => k.nvm.write c
  | some (.cred i _), .failing => k.nvm.write (.cred i (CredRecord.torn draws))
  | some (.dev _), .failing => k.nvm.write (.dev (DevRecord.torn draws))

end Sys2Proof.Machine
end

