-- ==== Sys2Proof/Machine/Units.lean ====
section
/-! DEFINITION. Transactions and their unit jobs: completion, failure and its disposal (chapters 2 and 3), flush marks,
job completions, and the emptying of the table. -/

namespace Sys2Proof.Machine

open Sys2Proof

/-! ## Completion (R23, R26, R27) -/

/-- The outcome a transaction's record gives when it becomes DONE after admission (R27). -/
def Txn.finalOutcome (x : Txn) : Result :=
  match x.failure with
  | some f => f.outcome
  | none => if x.transfer = x.requested then .good else .short

/-- The transaction becomes DONE, its outcome fixed (R27). -/
def setDone (t : Fin 16) (s : State) : State :=
  updTxn t (fun x => { x with phase := .done, outcome := some x.finalOutcome }) s

/-- The residue a COMPLETE reports (R27). -/
def Txn.residue (x : Txn) : Nat := x.requested.getD 0 - x.done

/-- A failed transaction still waits on work it may not cancel: a job in MEDIA_WRITE, an issued SYNC, or a READ_DATA
record whose sending has begun (R23). -/
def State.stillWaits (s : State) (t : Fin 16) : Bool :=
  s.ubp.jobs.any (fun j => j.owner == t && !j.abandoned && j.state == .mediaWrite) ||
  s.syncIssued t || s.uli.output == .delivery t || s.uli.output == .overlay t

/-- After an event of its work, a transaction with every sector done completes, and a DRAINING one completes when it
waits on nothing (R23, R26). -/
def progress (t : Fin 16) (s : State) : State :=
  match s.txn? t with
  | none => s
  | some x =>
    match x.phase with
    | .active => if x.transfer = some x.done then setDone t s else s
    | .draining => if s.stillWaits t then s else setDone t s
    | .done => s

/-- Sectors moved are counted (R25). -/
def addDone (t : Fin 16) (k : Nat) (s : State) : State := updTxn t (fun x => { x with done := x.done + k }) s

/-! ## The ends of jobs (R42, R44, R61) -/

/-- The transaction's jobs-held field falls by n (R44). -/
def releaseHeld (t : Fin 16) (n : Nat) (s : State) : State :=
  updTxn t (fun x => { x with jobsHeld := x.jobsHeld - n }) s

/-- A job ends: its buffer is freed and its claim released; a job not abandoned lowers its transaction's jobs-held
field (R44). -/
def endJob (j : Job) (s : State) : State :=
  if j.abandoned then dropJob j.buf s else releaseHeld j.owner 1 (dropJob j.buf s)

/-! ## Disposal at a failure (R60, R77) -/

/-- What becomes of a job of a failed transaction: `none` when it ends at once (R60). -/
def Job.atFailure (j : Job) : Option Job :=
  match j.state, j.pageOp with
  | .mediaRead, .issued _ => some { j with abandoned := true }
  | .mediaWrite, _ => some j
  | .delivering, _ => some j
  | _, _ => none

/-- The job belongs to this transaction (R43). -/
def Job.isOf (j : Job) (t : Fin 16) : Bool := j.owner == t && !j.abandoned

/-- The job ends, or leaves its transaction, at the failure. -/
def Job.leavesAtFailure (j : Job) : Bool :=
  match j.atFailure with
  | none => true
  | some k => k.abandoned

/-- Every job of a failed transaction is disposed of by its state; the requests of ended jobs are withdrawn (R60). -/
def disposeJobs (t : Fin 16) (s : State) : State :=
  let mine := s.ubp.jobs.filter (fun j => j.isOf t)
  let gone := (mine.filter (fun j => j.atFailure.isNone)).map (fun j => j.buf)
  let left := (mine.filter (fun j => j.leavesAtFailure)).length
  releaseHeld t left
    (withdrawJobs gone
      (s.setUbp { s.ubp with
        jobs := s.ubp.jobs.filterMap (fun j => if j.isOf t then j.atFailure else some j) }))

/-- A DATA_WANTED made ready and not yet sent is withdrawn (R30, R60). -/
def withdrawWanted (t : Fin 16) (s : State) : State :=
  if s.uli.output = .dataWanted t then freeOutput s else s

/-- What a failure does to the work of its transaction: the UBP disposes of its jobs and the ULI closes its intake, or
the DLI withdraws its SYNC (R24, R60, R77). -/
def disposeWork (x : Txn) (s : State) : State :=
  if x.kind = .flush then withdrawSync x.tag s
  else if x.isUserTransfer then withdrawWanted x.tag (closeIntake x.tag (disposeJobs x.tag s))
  else s

/-- A failure reaches a transaction: recorded when it is ACTIVE with none recorded, its work disposed of, and its phase
moved (R23, R24). Any other transaction is left as it is. -/
def failTxn (t : Fin 16) (f : Failure) (s : State) : State :=
  match s.txn? t with
  | none => s
  | some x =>
    if x.phase ≠ .active ∨ x.failure.isSome then s else
    let s1 := disposeWork x (updTxn t (fun y => { y with failure := some f, flushMark := none }) s)
    if s1.stillWaits t then updTxn t (fun y => { y with phase := .draining }) s1 else setDone t s1

/-- A failure reaches every ACTIVE transaction on a volume (R90, R94). -/
def failVolume (v : TxVolume) (f : Failure) (s : State) : State :=
  (s.txns.filter (fun x => x.volume == v)).foldl (fun acc x => failTxn x.tag f acc) s

/-! ## Flush marks (R75, R76) -/

/-- The page writes outstanding now, by the buffers of their jobs (R75). -/
def State.outstandingWrites (s : State) : List (Fin 8) :=
  (s.ubp.jobs.filter (fun j => j.state == .mediaWrite)).map (fun j => j.buf)

/-- The mark holds this page write. -/
def Txn.marks (x : Txn) (b : Fin 8) : Bool :=
  match x.flushMark with
  | some m => m.contains b
  | none => false

/-- A FLUSH whose mark has become empty while it is ACTIVE requests a SYNC (R76). -/
def syncIfUnmarked (t : Fin 16) (s : State) : State :=
  match s.txn? t with
  | some x => if x.kind = .flush ∧ x.phase = .active ∧ x.flushMark = some [] then requestSync t s else s
  | none => s

/-- A page write leaves every mark that holds it, and the FLUSHes left with an empty mark request their SYNC, oldest
first (R75, R76). -/
def leaveMarks (b : Fin 8) (s : State) : State :=
  let hit := (s.txns.filter (fun x => x.marks b)).map (fun x => x.tag)
  let s1 := s.setTxns (s.txns.map (fun x =>
    { x with flushMark := x.flushMark.map (fun m => m.filter (fun c => c != b)) }))
  hit.foldl (fun acc t => syncIfUnmarked t acc) s1

/-- The SYNC of a FLUSH has ended (R76). -/
def syncEnd (t : Fin 16) (ok : Bool) (s : State) : State :=
  match s.txn? t with
  | none => s
  | some x =>
    match x.phase with
    | .active => if ok then setDone t s else failTxn t .mediaFault s
    | .draining => progress t s
    | .done => s

/-! ## Completions of page operations (R48, R49, R50, R53, R61) -/

/-- The completion of an abandoned job's operation ends the job and passes to no transaction; a page write leaves every
flush mark (R61, R69). -/
def endAbandoned (j : Job) (op : DOp) (s : State) : State :=
  match op with
  | .pageWrite _ => leaveMarks j.buf (dropJob j.buf s)
  | _ => dropJob j.buf s

/-- A page read has completed (R48, R50). -/
def readEnd (j : Job) (ok : Bool) (page : List Byte) (s : State) : State :=
  if ok then
    updJob j.buf (fun y => { y with state := .decryptWait, pageOp := .absent }) (placePage j.buf page s)
  else progress j.owner (failTxn j.owner .mediaFault (endJob j s))

/-- A page write has completed (R49, R53). -/
def writeEnd (j : Job) (ok : Bool) (s : State) : State :=
  if ok then
    progress j.owner (activityRequest (leaveMarks j.buf (addDone j.owner j.count (endJob j s))))
  else progress j.owner (failTxn j.owner .mediaFault (leaveMarks j.buf (endJob j s)))

/-- A job takes the completion of its page operation (R69). -/
def jobCompletion (b : Fin 8) (op : DOp) (ok : Bool) (page : List Byte) (s : State) : State :=
  match s.job? b with
  | none => s
  | some j =>
    if j.abandoned then endAbandoned j op (if ok then placePage b page s else s)
    else match op with
      | .pageRead _ => readEnd j ok page s
      | .pageWrite _ => writeEnd j ok s
      | _ => s

/-! ## The emptying of the table (R39, R63, R78) -/

/-- What becomes of a job at the emptying of the table: `none` when it ends at once (R63). -/
def Job.atEmptying (j : Job) : Option Job :=
  if j.abandoned then some j else
  match j.state, j.pageOp with
  | .mediaRead, .issued _ => some { j with abandoned := true }
  | .mediaWrite, _ => some { j with abandoned := true }
  | _, _ => none

/-- The owner of a slot after the emptying: an issued SYNC of a removed FLUSH belongs to none (R78). -/
def ownerOrphaned : Owner → Owner
  | .flush _ => .nobody
  | o => o

/-- The request or ERROR completion is a FLUSH's. -/
def ownerIsFlush : Owner → Bool
  | .flush _ => true
  | _ => false

/-- Every transaction leaves the table with no COMPLETE sent, the refusal queue and the intakes are cleared, the output
falls free, the jobs are disposed of, requests withdrawn, and TABLE_EMPTIED joins the latch (R39, R63, R78). -/
def emptyTable (s : State) : State :=
  let gone := (s.ubp.jobs.filter (fun j => j.atEmptying.isNone)).map (fun j => j.buf)
  let s1 := (s.setTxns []).setUli { s.uli with
    refusals := [], intakes := [], output := .free, attn := s.uli.attn.join .tableEmptied }
  let s2 := s1.setUbp { s1.ubp with jobs := s1.ubp.jobs.filterMap Job.atEmptying }
  let s3 := withdrawJobs gone s2
  s3.setDli { s3.dli with
    slots := s3.dli.slots.map (fun x => { x with owner := ownerOrphaned x.owner }),
    requests := s3.dli.requests.filter (fun r => !ownerIsFlush r.owner),
    errors := s3.dli.errors.filter (fun e => !ownerIsFlush e.owner) }

/-! ## The Cipher Engine (R57, R58, R59) -/

/-- The CE is busy with this job. -/
def Job.ciphering (j : Job) : Bool := j.state == .decrypting || j.state == .encrypting

/-- The job is in the cipher queue (R57). -/
def Job.queued (j : Job) : Bool := !j.abandoned && (j.state == .decryptWait || j.state == .encryptWait)

/-- The cipher queue (R57). -/
def State.cipherQueue (s : State) : List Job := s.ubp.jobs.filter (fun j => j.queued)

/-- The job with the lowest unit index. -/
def lowestJob : List Job → Option Job
  | [] => none
  | j :: rest =>
    match lowestJob rest with
    | none => some j
    | some k => if k.unit < j.unit then some k else some j

/-- The job the CE takes next: of the oldest transaction, the lowest unit (R57). -/
def State.nextCipher (s : State) : Option Job :=
  s.txns.findSome? (fun x => lowestJob (s.cipherQueue.filter (fun j => j.owner == x.tag)))

/-- The state a job takes when the CE takes it (R58). -/
def JobState.taken : JobState → JobState
  | .decryptWait => .decrypting
  | .encryptWait => .encrypting
  | x => x

/-- The CE, idle and with the key loaded, takes its next job (R57, R58). -/
def cipherTake (s : State) : State :=
  if s.ce.key.isNone ∨ s.ubp.jobs.any (fun j => j.ciphering) then s else
  match s.nextCipher with
  | none => s
  | some j => updJob j.buf (fun y => { y with state := y.state.taken }) s

/-- A cipher operation in progress is stopped, its result discarded, and its job ends (R59). -/
def stopCipher (s : State) : State :=
  (s.ubp.jobs.filter (fun j => j.ciphering)).foldl (fun acc j => endJob j acc) s

/-- The CE finishes a unit (R58). -/
def cipherEnd (s : State) : State :=
  match s.ubp.jobs.find? (fun j => j.ciphering), s.ce.key with
  | some j, some k =>
    let p := Config.cipher k (BitVec.ofNat 64 j.unit)
    match j.state, j.kind with
    | .decrypting, .read =>
      updJob j.buf (fun y => { y with state := .deliverWait }) (putUnit j.buf (p.symm (bufferUnit j.buf s)) s)
    | .decrypting, _ =>
      updJob j.buf (fun y => { y with state := .dataQueue }) (putUnit j.buf (p.symm (bufferUnit j.buf s)) s)
    | _, _ =>
      requestWrite j.buf j.unit
        (updJob j.buf (fun y => { y with state := .mediaWrite }) (putUnit j.buf (p (bufferUnit j.buf s)) s))
  | _, _ => s

/-! ## Data intake (R30, R31, R51) -/

/-- The job has received all its data (R51). -/
def Job.hasData (j : Job) : Bool :=
  j.state == .encryptWait || j.state == .encrypting || j.state == .mediaWrite

/-- The condition of R51 for a job in DATA_QUEUE: every job of its transaction on a lower unit has its data. -/
def mayWait (jobs : List Job) (j : Job) : Bool :=
  j.state == .dataQueue && !j.abandoned &&
    jobs.all (fun k => !(k.isOf j.owner && decide (k.unit < j.unit)) || k.hasData)

/-- Jobs in DATA_QUEUE enter DATA_WAIT as soon as the condition of R51 holds. -/
def dataWaits (s : State) : State :=
  s.setUbp { s.ubp with
    jobs := s.ubp.jobs.map (fun j => if mayWait s.ubp.jobs j then { j with state := .dataWait } else j) }

/-- The job of a transaction in DATA_WAIT (R30: at most one). -/
def State.waitingJob (s : State) (t : Fin 16) : Option Job :=
  s.ubp.jobs.find? (fun j => j.isOf t && j.state == .dataWait)

/-! ## Allocation (R45, R46, R47) -/

/-- The transactions older than this one. -/
def State.older (s : State) (t : Fin 16) : List Txn := s.txns.takeWhile (fun x => x.tag != t)

/-- Unit u is claimable by the transaction (R45). -/
def State.claimable (s : State) (t : Fin 16) (u : Nat) : Bool :=
  !s.ubp.jobs.any (fun j => j.unit == u) && !(s.older t).any (fun x => x.coversLater u)

/-- The transaction is eligible for a buffer (R46). DESIGN CHOICE: R44 says both that a transaction of four jobs is eligible
again when one of them ends and that unit i + 4 cannot start before the job on unit i has ended; where the page writes of a
WRITE are confirmed out of order (R53) the two differ, and the model follows R46 and the first (notes/assumptions/44.md). -/
def State.eligible (s : State) (x : Txn) : Bool :=
  x.isUserTransfer && x.phase == .active && decide (x.jobsHeld < 4) &&
    match x.next? with
    | some u => s.claimable x.tag u
    | none => false

/-- A unit job starts (R47): bound to the buffer, split by R9, the next unit and the jobs held advanced; it leaves
CLAIM_WAIT in the same event. -/
def startJob (b : Fin 8) (x : Txn) (u : Nat) (s : State) : State :=
  let kind := splitKind x.kind x.first x.m u
  let job : Job :=
    { buf := b, owner := x.tag, unit := u,
      first := Fin.ofNat 8 (splitFirst x.first u), count := splitCount x.first x.m u, kind := kind,
      state := .claimWait, pageOp := .absent, sent := 0, abandoned := false }
  let s1 := s.setUbp { s.ubp with jobs := s.ubp.jobs ++ [job] }
  let s2 := updTxn x.tag (fun y => { y with nextUnit := some (u + 1), jobsHeld := y.jobsHeld + 1 }) s1
  match kind with
  | .writeFull => updJob b (fun j => { j with state := .dataQueue }) s2
  | _ => requestRead b u (updJob b (fun j => { j with state := .mediaRead }) s2)

/-- The UBP gives free buffers to the oldest eligible transaction, while both exist (R46), at most `n` of them. -/
def allocate : Nat → State → State
  | 0, s => s
  | n + 1, s =>
    match s.freeBuffer, s.txns.find? s.eligible with
    | some b, some x => allocate n (startJob b x (x.nextUnit.getD 0) s)
    | _, _ => s

/-! ## The upstream output (R14, R29, R54) -/

/-- The READ job of a transaction that is allowed to deliver (R54): in DELIVER_WAIT, on the lowest unit held. -/
def State.deliverable (s : State) (t : Fin 16) : Option Job :=
  match lowestJob (s.ubp.jobs.filter (fun j => j.isOf t)) with
  | some j => if j.state = .deliverWait then some j else none
  | none => none

/-- The overlay READ the OVI serves: the oldest ACTIVE one, which has sectors still to deliver (R14). -/
def State.overlayChoice (s : State) : Option Txn :=
  s.txns.find? (fun x => x.kind == .read && x.volume == .overlay && x.phase == .active)

/-- The item a transaction has ready for the upstream output (R29). -/
def State.readyItem (s : State) (x : Txn) : Option Output :=
  match x.phase with
  | .done => some (.complete x.tag)
  | .draining => none
  | .active =>
    if x.kind = .write ∧ (s.waitingJob x.tag).isSome ∧ (s.intake? x.tag).isNone then some (.dataWanted x.tag)
    else if x.kind = .read ∧ x.volume = .user ∧ (s.deliverable x.tag).isSome then some (.delivery x.tag)
    else if x.kind = .read ∧ x.volume = .overlay ∧ s.overlayChoice.map Txn.tag = some x.tag then
      some (.overlay x.tag)
    else none

/-- The holder the upstream output is granted to next (R29). -/
def State.nextOutput (s : State) : Output :=
  if s.uli.refusals ≠ [] then .refusal
  else (s.txns.findSome? s.readyItem).getD .free

/-- At the grant to its delivery run a job enters DELIVERING (R48, R55). -/
def startRun (o : Output) (s : State) : State :=
  match o with
  | .delivery t =>
    match s.deliverable t with
    | some j => updJob j.buf (fun y => { y with state := .delivering }) s
    | none => s
  | _ => s

/-- The upstream output, when free, is granted (R29). -/
def grant (s : State) : State :=
  if s.uli.output ≠ .free then s else
  let o := s.nextOutput
  startRun o (s.setUli { s.uli with output := o })

end Sys2Proof.Machine
end

