-- ==== Sys2Proof/Machine/Sweep.lean ====
section
/-! DEFINITION. The Sweep Unit (sections 8.4 to 8.7): windows, results, cursor writes, pause, hold and restart. -/

namespace Sys2Proof.Machine

open Sys2Proof

/-- The result of a DISCARD as the DLI hands it to the SWU (R144). -/
inductive WindowResult where
  | ok
  | error
  | lost
deriving DecidableEq, Repr

/-- The SWU requests the DISCARD of the window at c (R143). -/
def requestWindow (c u : Nat) (s : State) : State :=
  makeRequest (.discard c (windowCount c u)) .sweep
    (s.setSwu { s.swu with state := .issuing, discardOut := true })

/-- The SWU requests a write of the device record (R122, R145): a cursor (`none`: NONE) and, when a skip has just
changed it, sweep degraded. -/
def requestCursor (cursor : Option Nat) (skipped : Bool) (s : State) : State :=
  ksRequest { bySweep := true,
              body := .dev { DevUpdate.none with
                cursor := some cursor, degraded := if skipped then some true else none } }
    (s.setSwu { s.swu with state := .waiting, since := 0, writeOut := true })

/-- The window at c is made due (R141): PAUSED under the erase hold or while the media condition is not OK, else
requested; a cursor at or above U is set to U and the pass completes (R147). DESIGN CHOICE: R147's table is also applied at
the completion of a cursor write during which U has shrunk to c or below (notes/assumptions/43.md). -/
def makeDue (s : State) : State :=
  if s.swu.discardOut ∨ s.swu.writeOut then s
  else if s.swu.hold ∨ s.dli.media ≠ .ok then s.setSwu { s.swu with state := .paused }
  else
    match s.dli.usable, s.swu.cursor with
    | some u, some c =>
      if c < u then requestWindow c u s
      else requestCursor none false (s.setSwu { s.swu with cursor := some u })
    | _, _ => s.setSwu { s.swu with state := .paused }

/-- What follows a window that has been discarded or skipped, the cursor already advanced to c (R145, R146). -/
def afterAdvance (c : Nat) (skipped : Bool) (s : State) : State :=
  if s.dli.usable.any (fun u => decide (u ≤ c)) then requestCursor none skipped s
  else if 16 ≤ s.swu.since then requestCursor (some c) skipped s
  else makeDue s

/-- The SWU takes the result of its DISCARD of `count` pages (R144). A DISCARD of an earlier pass is dropped (R148). -/
def windowResult (r : WindowResult) (count : Nat) (s : State) : State :=
  let w := { s.swu with discardOut := false }
  if s.swu.dropResult then s.setSwu { w with dropResult := false }
  else
    let c := s.swu.cursor.getD 0 + count
    match r, s.swu.retry with
    | .lost, _ => makeDue (s.setSwu w)
    | .error, false => makeDue (s.setSwu { w with retry := true })
    | .ok, _ => afterAdvance c false (s.setSwu { w with cursor := some c, retry := false, since := s.swu.since + 1 })
    | .error, true => afterAdvance c true (s.setSwu { w with cursor := some c, retry := false, since := 16 })

/-- The completion of the SWU's device-record write (R145, R146). Under the erase hold the earlier pass is only wound
down (R148, notes/assumptions/21.md). -/
def cursorWritten (wasNone : Bool) (s : State) : State :=
  let w := { s.swu with writeOut := false }
  if s.swu.hold then s.setSwu w
  else if wasNone then
    attention .sweepDone (s.setSwu { w with state := .idle, cursor := none, retry := false, since := 0 })
  else makeDue (s.setSwu w)

/-- The DISCARD waits in the request list. -/
def State.discardWaits (s : State) : Bool := s.dli.requests.any (fun r => r.owner == .sweep)

/-- The erase hold at the entry to ERASING (R148): the sweep becomes PAUSED, a DISCARD not issued is withdrawn, and the
result of one issued will be dropped. -/
def eraseHold (s : State) : State :=
  let st := if s.swu.state = .idle then .idle else .paused
  if s.discardWaits then
    (s.setDli { s.dli with requests := s.dli.requests.filter (fun r => r.owner != .sweep) }).setSwu
      { s.swu with hold := true, state := st, discardOut := false }
  else s.setSwu { s.swu with hold := true, state := st, dropResult := s.swu.discardOut }

/-- A new pass starts at the report of the erase writes complete (R142). Its first window is made due by `releaseHold`
once nothing holds it back. -/
def sweepStart (s : State) : State :=
  s.setSwu { s.swu with state := .issuing, cursor := some 0, retry := false, since := 0, hold := false }

/-- The first window of a pass is made due when neither an earlier DISCARD nor a user operation is outstanding
(R142). A sweep ISSUING with no request made is one held back. -/
def releaseHold (s : State) : State :=
  if s.swu.state = .issuing ∧ s.swu.discardOut = false ∧ s.swu.writeOut = false ∧ s.userOps = 0 then makeDue s else s

/-- The SWU takes a report of the media condition OK (R147). -/
def sweepReportOk (s : State) : State :=
  if s.swu.state = .paused ∧ s.swu.hold = false then makeDue s else s

/-- The SWU at the completion of the KS reading (R140, R149). -/
def sweepAtStart (s : State) : State :=
  match s.ks.dev.fields.cursor with
  | none => s.setSwu { s.swu with state := .idle, cursor := none }
  | some c => s.setSwu { s.swu with state := .paused, cursor := some c }

end Sys2Proof.Machine
end

