-- ==== Sys2Proof/Machine/Access.lean ====
section
/-! DEFINITION. The Access Controller (chapter 5): moves between sub-states and the presentation that follows them, the
lock event, unlocking, verdicts. -/

namespace Sys2Proof.Machine

open Sys2Proof

/-! ## Moves (R80) -/

/-- The presentation becomes `v`: the ATR takes the volume and its H, PRESENTATION joins the latch, and a change in
STANDBY is noted (R2, R80). -/
def present (v : Volume) (s : State) : State :=
  if s.ac.presentation = v then s else
  attention .presentation
    ((s.setAc { s.ac with presentation := v, changed := s.ac.changed || s.ac.standby }).setAtr
      { volume := v,
        highest := match v with
          | .overlay => some 2047
          | .nothing => none
          | .user => s.dli.usable.map (fun u => 8 * u - 1) })

/-- The AC enters a sub-state. What the spec ties to a state is dropped on leaving it: the cipher key, the session slot
and the idle counter with UNLOCKED (R56, R79, R95), the session key holder and the session timer with ADMIN (R89), the
settle timer with SETTLING (R91, R94), the lockout timer with LOCKOUT (R88). The active table is ADMIN in SESSION alone
(R106), and the presentation follows the sub-state (R80). -/
def enter (a : Access) (s : State) : State :=
  present a.presentation
    ((((s.setAc { s.ac with
        access := a,
        sessionSlot := if a.unlocked then s.ac.sessionSlot else none,
        idle := if a.unlocked then s.ac.idle else none,
        settle := if a = .settling then s.ac.settle else none,
        lockout := if a = .lockout then s.ac.lockout else none,
        admin := if a = .adminSession then s.ac.admin else none }).setCe
      { key := if a.unlocked then s.ce.key else none }).setCu
      { s.cu with sessionKey := if a = .adminSession then s.cu.sessionKey else none }).setEcp
      { s.ecp with adminTable := a == .adminSession })

/-- The ECP's composition is cleared and its timer stopped (R110). -/
def clearComposition (s : State) : State :=
  s.setEcp { s.ecp with stack := [], overlong := false, copy := none, command := none, timer := none }

/-- The AC moves by an event other than an entry the ECP is interpreting (R110). -/
def moveTo (a : Access) (s : State) : State := clearComposition (enter a s)

/-- A verdict goes to the IND, or in STANDBY to the held verdict (R99). -/
def showVerdict (v : Verdict) (s : State) : State :=
  if s.ac.standby then s.setAc { s.ac with held := some v } else verdictRequest v s

/-! ## The idle counter (R95) -/

/-- A × 600 ticks (R95). -/
def State.idleTicks (s : State) : Nat := s.ks.dev.fields.autoLock * 600

/-- The idle counter is reloaded while the AC is in UNLOCKED and the counter is not off (R95). -/
def reloadIdle (s : State) : State :=
  if s.ac.access.unlocked ∧ s.ac.idle.isSome then s.setAc { s.ac with idle := some s.idleTicks } else s

/-- The idle counter is loaded at the entry to PRESENTED from SETTLING; off when A is 0 (R95). -/
def loadIdle (s : State) : State :=
  s.setAc { s.ac with idle := if s.ks.dev.fields.autoLock = 0 then none else some s.idleTicks }

/-! ## The lock event (R93, R94) -/

/-- A change in the CU's hands is overtaken by a lock event in CHANGE: its end gives no verdict (R92). -/
def overtake (s : State) : State :=
  if s.ac.access = .change ∧ s.cu.work ≠ .idle then s.setCu { s.cu with overtaken := true } else s

/-- The lock event (R94): the cipher key register is cleared and a cipher operation stopped, every ACTIVE transaction on
USER fails with the cause, the presentation becomes OVERLAY, and UNLOCKED is left for LOCKED.IDLE. -/
def lockEvent (c : Cause) (s : State) : State :=
  let s1 := stopCipher s
  let s2 := failVolume .user (.volumeChanged c) (s1.setCe { key := none })
  if s2.ac.access.unlocked then moveTo .lockedIdle (overtake s2)
  else present .overlay (s2.setAc { s2.ac with idle := none })

/-! ## Unlocking (R85, R90, R91) -/

/-- The AC's answer to the CU's query: the unlock is allowed (R85). -/
def State.unlockAllowed (s : State) : Bool :=
  !s.ac.lossSeen && s.dli.media == .ok && (!s.ac.standby || !s.ks.dev.fields.lockOnStandby)

/-- The ECP is READY again at the end of the CU's work (R106). -/
def ecpReady (s : State) : State := s.setEcp { s.ecp with ready := true }

/-- The CU's work is over; its verify state is absent (R125). -/
def cuIdle (s : State) : State :=
  s.setCu { s.cu with work := .idle, kind := none, digits := none, target := none, result := none, purpose := none,
                      task := .idle, overtaken := false }

/-- The entry to UNLOCKED.SETTLING (R90). -/
def enterSettling (slot : Fin 8) (key : Key) (s : State) : State :=
  let s1 := moveTo .settling s
  let s2 := s1.setAc { s1.ac with sessionSlot := some slot, settle := some 10 }
  failVolume .overlay (.volumeChanged .unlock) (s2.setCe { key := some key })

/-- The settle timer has expired: the user volume is presented (R91). -/
def enterPresented (s : State) : State := loadIdle (moveTo .presented s)

/-- The verify scope is cleared at the report (R85, R86). -/
def clearScope (s : State) : State := s.setAc { s.ac with scope := none }

/-- The AC takes a match for an unlock that is allowed (R85). -/
def reportUnlock (slot : Fin 8) (key : Key) (s : State) : State :=
  showVerdict .accept (enterSettling slot key (clearScope (ecpReady (cuIdle s))))

/-- The AC takes a match for an unlock that is refused (R85). -/
def reportRefused (s : State) : State :=
  showVerdict .refused (moveTo .lockedIdle (clearScope (ecpReady (cuIdle s))))

/-- The AC takes a match for an admin session (R86). -/
def reportAdmin (key : Key) (s : State) : State :=
  let s1 := moveTo .adminSession (clearScope (ecpReady (cuIdle s)))
  showVerdict .accept
    ((s1.setAc { s1.ac with admin := some 300 }).setCu { s1.cu with sessionKey := some key })

/-- The AC takes the end of a command, an enrolment or a change (R82, R89, R92). A change overtaken by a lock event ends
without a move or a verdict. -/
def reportEnd (v : Verdict) (s : State) : State :=
  let s1 := ecpReady (cuIdle s)
  if s.cu.overtaken then s1
  else
    match s.ac.access with
    | .blankRepeat => showVerdict v (moveTo (if v = .accept then .lockedIdle else .blankFirst) s1)
    | .change => showVerdict v (moveTo .presented s1)
    | .adminSession =>
      let s2 := clearComposition s1
      showVerdict v (s2.setAc { s2.ac with admin := some 300 })
    | _ => s1

/-! ## Erasing (R97, R134, R135) -/

/-- The write of a step of the staged erase (R135). -/
def stageWrite (step : StageStep) (s : State) : KsBody :=
  match step with
  | .pending => .dev { DevUpdate.none with erasePending := some true }
  | .slot i => .cred i (CredFields.bare .empty)
  | .final => .dev {
      failures := some 0, limit := some 10, autoLock := some 0, readOnly := some false, lockOnStandby := some true,
      eraseCount := some (min 65535 (s.ks.dev.fields.eraseCount + 1)), erasePending := some false,
      cursor := some (some 0), degraded := some false, rebuilt := none }

/-- The CU requests the write of a step of the staged erase (R135). -/
def stage (step : StageStep) (s : State) : State :=
  ksRequest { bySweep := false, body := stageWrite step s }
    (s.setCu { s.cu with work := .staging, task := .stage step })

/-- The entry to ERASING (R97, R134): the lock event with cause ERASE, the erase hold, and the staging from its first
step. -/
def enterErasing (first : StageStep) (s : State) : State :=
  stage first (eraseHold (lockEvent .erase (moveTo .erasing s)))

/-- The AC takes a no-match report with the new count (R87). -/
def reportNoMatch (f : Nat) (s : State) : State :=
  let s1 := clearScope (ecpReady (cuIdle s))
  let limit := s.ks.dev.fields.limit
  let s2 :=
    if limit ≤ f then enterErasing (.slot 7) s1
    else if 3 ≤ f then
      let s3 := moveTo .lockout s1
      s3.setAc { s3.ac with lockout := some (throttleTicks f) }
    else moveTo .lockedIdle s1
  showVerdict .reject s2

/-- The AC takes the match of a confirmed erase (R89, R132). -/
def reportErase (s : State) : State :=
  showVerdict .accept (enterErasing .pending (ecpReady (cuIdle s)))

/-- The CU reports the erase writes complete: BLANK.FIRST, and the sweep starts (R97, R137, R142). -/
def eraseDone (s : State) : State := sweepStart (moveTo .blankFirst (ecpReady (cuIdle s)))

/-! ## Reports of the media (R74) -/

/-- The AC takes the report of a loss (R74, R86, R93). -/
def acLoss (s : State) : State :=
  if s.ac.presentation ≠ .overlay then lockEvent .mediaLost s
  else if s.ac.scope = some .unlock then s.setAc { s.ac with lossSeen := true }
  else s

/-! ## The initial state (R81) -/

/-- The AC chooses its initial state from the images (R81). -/
def initialAccess (s : State) : Access :=
  if s.ks.dev.fields.erasePending then .erasing
  else if (s.cred 0).status = .empty then .blankFirst
  else if 3 ≤ s.ks.dev.fields.failures then .lockout
  else .lockedIdle

end Sys2Proof.Machine
end

