-- ==== Sys2Proof/Machine/Credential.lean ====
section
/-! DEFINITION. The Credential Unit (chapter 7): verifies, enrolment, failure counting, the writes each result calls for
and what follows them. -/

namespace Sys2Proof.Machine

open Sys2Proof

/-! ## Verify (R125) -/

/-- The slots a verify derives against (R125). -/
def verifySet (k : VerifyKind) (target : Option (Fin 8)) : List (Fin 8) :=
  match k with
  | .unlock => List.finRange 8
  | .admin | .eraseConfirm => [0]
  | .enrol => (List.finRange 8).filter (fun i => some i != target)

/-- A slot matches the digits: it is ACTIVE, the digit counts are equal, and the verifier derived is its own (R125). -/
def slotMatches (f : CredFields) (digits : List Digit) : Bool :=
  f.status == .active && f.digitCount == digits.length && Config.verifierOf digits f.salt == f.verifier

/-- The media key unwrapped from a slot by the digits (R118, R125). -/
def unwrapKey (f : CredFields) (digits : List Digit) : Key :=
  (Config.wrapping (Config.wrappingKeyOf digits f.salt)).symm f.wrapped

/-- The result of a verify (R125). -/
def State.verifyOutcome (s : State) (k : VerifyKind) : VerifyResult :=
  let digits := s.cu.digits.getD []
  match (verifySet k s.cu.target).find? (fun i => slotMatches (s.cred i) digits) with
  | some i => .hit i (unwrapKey (s.cred i) digits)
  | none => .noMatch

/-- A verify starts (R125). -/
def startVerify (k : VerifyKind) (digits : List Digit) (target : Option (Fin 8)) (purpose : Option EnrolFor)
    (s : State) : State :=
  s.setCu { s.cu with work := .verify, kind := some k, digits := some digits, target := target, result := none,
                      purpose := purpose, task := .idle }

/-- The CU requests a write and awaits it; no verify is in flight (R122, R125, R126). -/
def cuWrite (task : CuTask) (body : KsBody) (s : State) : State :=
  ksRequest { bySweep := false, body := body }
    (s.setCu { s.cu with work := .writes, task := task, kind := none, digits := none, target := none })

/-! ## Enrolment (R131) -/

/-- The record of a new PIN under the n-th salt drawn, holding the media key wrapped (R118, R124, R131). -/
def newRecord (digits : List Digit) (key : Key) (n : Nat) : CredFields :=
  let salt := Config.randomSalt n
  { status := .active, digitCount := digits.length, salt := salt, verifier := Config.verifierOf digits salt,
    wrapped := Config.wrapping (Config.wrappingKeyOf digits salt) key }

/-- The media key a new record wraps: just drawn in BLANK, the cipher key register's in CHANGE, else the session
holder's (R124). -/
def State.enrolKey (s : State) : Option Key :=
  match s.cu.purpose with
  | some .blank => some (Config.randomKey s.draws)
  | some .change => s.ce.key
  | _ => s.cu.sessionKey

/-- At an ENROL NO_MATCH the CU forms the new record and requests its write (R126, R131). Without a media key to wrap, as
after a lock event, no record is formed and the result is dropped. -/
def enrolWrite (s : State) : State :=
  match s.enrolKey, s.cu.target with
  | some key, some i =>
    let f := newRecord (s.cu.digits.getD []) key s.draws
    cuWrite .enrol (.cred i f) { s with draws := s.draws + 1 }
  | _, _ => ecpReady (cuIdle s)

/-! ## Failure counting (R128) -/

/-- The failure write (R128). -/
def failureWrite (s : State) : State :=
  let f := s.ks.dev.fields.failures + 1
  let limit := s.ks.dev.fields.limit
  if f < limit then cuWrite (.failure f) (.dev { DevUpdate.none with failures := some f }) s
  else cuWrite (.failure limit) (.dev { DevUpdate.none with failures := some limit, erasePending := some true }) s

/-! ## A matched unlock (R126, R127) -/

/-- The CU reports the match with the slot and key of its verify result (R127). -/
def reportMatch (s : State) : State :=
  match s.cu.result with
  | some (.hit slot key) => reportUnlock slot key s
  | _ => reportRefused s

/-- The records a refused unlock has changed are restored, the device record first and then slot 7 (R127). -/
def restore (count : Option Nat) (former : Option CredFields) (s : State) : State :=
  match count, former with
  | some f, _ => cuWrite (.restoreFailures former) (.dev { DevUpdate.none with failures := some f }) s
  | none, some r => cuWrite .restoreRecovery (.cred 7 r) s
  | none, none => reportRefused s

/-- The second query, at the completion of the last write of a matched unlock (R127). -/
def secondQuery (count : Option Nat) (former : Option CredFields) (s : State) : State :=
  if s.unlockAllowed then reportMatch s else restore count former s

/-- The write of f = 0 of a matched unlock, when f is not 0; then the second query (R126, R127). -/
def zeroFailures (former : Option CredFields) (s : State) : State :=
  if s.ks.dev.fields.failures = 0 then secondQuery none former s
  else cuWrite (.zeroFailures s.ks.dev.fields.failures former) (.dev { DevUpdate.none with failures := some 0 }) s

/-- The writes of an unlock match allowed at the first query: slot 7 SPENT for the recovery slot, then f = 0 (R126). -/
def unlockWrites (slot : Fin 8) (s : State) : State :=
  if slot = 7 then cuWrite (.spendRecovery (s.cred 7)) (.cred 7 (CredFields.bare .spent)) s
  else zeroFailures none s

/-- An admin match: f = 0 and rebuilt mark 0 in one write, when either is not already so (R126). -/
def adminMatch (s : State) : State :=
  if s.ks.dev.fields.failures = 0 ∧ s.ks.dev.fields.rebuilt = false then
    match s.cu.result with
    | some (.hit _ key) => reportAdmin key s
    | _ => s
  else cuWrite .adminMatch (.dev { DevUpdate.none with failures := some 0, rebuilt := some false }) s

/-- The end of a verify: the CU acts on its kind and result (R126). -/
def verifyEnded (s : State) : State :=
  match s.cu.work, s.cu.kind with
  | .verify, some k =>
    let r := s.verifyOutcome k
    let s1 := s.setCu { s.cu with result := some r }
    match k, r with
    | .unlock, .noMatch => failureWrite s1
    | .unlock, .hit slot _ => if s1.unlockAllowed then unlockWrites slot s1 else reportRefused s1
    | .admin, .noMatch => failureWrite s1
    | .admin, .hit _ _ => adminMatch s1
    | .eraseConfirm, .noMatch => failureWrite s1
    | .eraseConfirm, .hit _ _ => reportErase s1
    | .enrol, .noMatch => if s.cu.overtaken then ecpReady (cuIdle s1) else enrolWrite s1
    | .enrol, .hit _ _ => reportEnd .refused s1
  | _, _ => s

/-! ## Hand-overs (R131, R132, R165) -/

/-- The lowest-numbered EMPTY user slot (R131). -/
def State.emptyUserSlot (s : State) : Option (Fin 8) :=
  ([1, 2, 3, 4, 5, 6] : List (Fin 8)).find? (fun i => (s.cred i).status == .empty)

/-- The target slot of an enrolment, fixed at the hand-over (R131). -/
def State.enrolTarget (s : State) : EnrolFor → Option (Fin 8)
  | .blank | .adminPin => some 0
  | .change => s.ac.sessionSlot
  | .userSlot => s.emptyUserSlot
  | .recovery => some 7

/-- The CU writes EMPTY the slots still to clear, one after another, and then reports ACCEPT (R132). -/
def clearNext (slots : List (Fin 8)) (s : State) : State :=
  match slots with
  | [] => reportEnd .accept s
  | i :: rest => cuWrite (.clear rest) (.cred i (CredFields.bare .empty)) s

/-- The CU takes a hand-over (R125, R131, R132). -/
def takeHandover (h : Handover) (s : State) : State :=
  match h with
  | .unlock d => startVerify .unlock d none none s
  | .admin d => startVerify .admin d none none s
  | .eraseConfirm d => startVerify .eraseConfirm d none none s
  | .enrol p d =>
    match s.enrolTarget p with
    | some i => startVerify .enrol d (some i) (some p) s
    | none => reportEnd .refused s
  | .clear slots => clearNext (slots.filter (fun i => (s.cred i).status != .empty)) s
  | .setting u => cuWrite .setting (.dev u) s

/-- Work is handed to the CU: the ECP becomes WAITING, and while the rebuild write is in flight the hand-over waits for it
(R106, R165). -/
def handOver (h : Handover) (s : State) : State :=
  let s1 := s.setEcp { s.ecp with ready := false, stack := [], overlong := false, copy := none, command := none,
                                  timer := none }
  if s1.cu.work = .idle then takeHandover h s1 else s1.setCu { s1.cu with waiting := some h }

/-! ## Completions of the CU's writes -/

/-- The write after a step of the staged erase (R135): slots 7 down to 1, then 0, then step 3. -/
def nextStage (step : StageStep) (s : State) : State :=
  match step with
  | .pending => stage (.slot 7) s
  | .slot i => if i = 0 then stage .final s else stage (.slot (i - 1)) s
  | .final => eraseDone s

/-- The CU is told of the completion of its write (R126, R127, R128, R131, R132, R135, R165). -/
def cuWritten (s : State) : State :=
  match s.cu.task with
  | .idle => s
  | .rebuild =>
    let s1 := cuIdle s
    match s1.cu.waiting with
    | none => s1
    | some h => takeHandover h (s1.setCu { s1.cu with waiting := none })
  | .spendRecovery former => zeroFailures (some former) s
  | .zeroFailures count former => secondQuery (some count) former s
  | .restoreFailures former => restore none former s
  | .restoreRecovery => reportRefused s
  | .adminMatch =>
    match s.cu.result with
    | some (.hit _ key) => reportAdmin key s
    | _ => s
  | .failure f => reportNoMatch f s
  | .enrol => reportEnd .accept s
  | .setting => reportEnd .accept s
  | .clear rest => clearNext rest s
  | .stage step => nextStage step s

/-- The request asks for the cursor NONE (R146). -/
def KsBody.isNone : KsBody → Bool
  | .dev u => u.cursor == some none
  | _ => false

/-- The end of the key-store write in flight (R122). -/
def ksWritten (s : State) : State :=
  match s.ks.queue, s.ks.writing with
  | r :: _, some c =>
    let s1 := s.setKs (s.ks.endWrite c)
    if r.bySweep then cursorWritten r.body.isNone s1 else cuWritten s1
  | _, _ => s

end Sys2Proof.Machine
end

