-- ==== Sys2Proof/Machine/Settle.lean ====
section
/-! DEFINITION. What follows inside the same event as soon as it can: data waits, buffer allocation, slot issue, the
cipher's next job, the grant of the upstream output, and the shown source (notes/assumptions/11.md). -/

namespace Sys2Proof.Machine

/-- The closure of an event (R29, R46, R51, R57, R65, R142, R155). -/
def settle (s : State) : State :=
  judge (grant (cipherTake (issueAll 4 (releaseHold (dataWaits (allocate 8 s))))))

end Sys2Proof.Machine
end

