-- ==== Sys2Proof/Machine/Keypad.lean ====
section
/-! DEFINITION. The Keypad Scanner (sections 6.1 and 6.2): debouncing, press groups, shift holds, the key FIFO, and the
meanings of SCAN, KEY_ENTRY_PRODUCED and SHIFT_TAP_PRODUCED. -/

namespace Sys2Proof.Machine

open Sys2Proof

/-! ## Debouncing (R101) -/

/-- One key at one scan (R101). -/
def KeyScan.scan (closed : Bool) (k : KeyScan) : KeyScan :=
  if closed = k.down then { k with run := 0 }
  else if 2 ≤ k.run then { down := closed, run := 0 }
  else { k with run := k.run + 1 }

/-- The position of SHIFT in scan order: row 3, column 0 (R101). -/
def shiftPosition : Nat := 9

/-- The positions of the digits and KEY in scan order (R101). -/
def groupPositions : List Nat := [0, 1, 2, 3, 4, 5, 6, 7, 8, 10, 11]

/-- The key at a position of scan order other than SHIFT's (R101). -/
def keyAt (p : Nat) : EntryKey :=
  if p = 11 then .key else if p = 10 then .digit 0 else .digit (Fin.ofNat 10 (p + 1))

/-- The key at position `p` is DOWN. -/
def downAt (keys : List KeyScan) (p : Nat) : Bool := (keys.getD p { down := false, run := 0 }).down

/-- The twelve keys after a scan that reads `closed` (R101). -/
def scanKeys (closed : BitVec 12) (keys : List KeyScan) : List KeyScan :=
  (List.range 12).map (fun p => (keys.getD p { down := false, run := 0 }).scan (closed.getLsbD p))

/-- The digits and KEY recognised DOWN at a scan, in scan order (R101). -/
def wentDown (old new : List KeyScan) : List Nat :=
  groupPositions.filter (fun p => !downAt old p && downAt new p)

/-! ## Press groups (R102) -/

/-- The press group after the recognitions of a scan, before it may close (R102). DESIGN CHOICE: a ghost closure counts as
any closed key, also where it is recognised at the scan of the lead and so, first in scan order or on SHIFT, gives another lead
or the shifted flag, though R102 says that the entry is the same with it or without it (notes/assumptions/45.md). -/
def groupOpen (g : Option Group) (down : List Nat) (shift : Bool) : Option Group :=
  match g, down with
  | some g, [] => some g
  | some g, _ => some { g with chorded := true }
  | none, [] => none
  | none, p :: rest => some { lead := p, shifted := shift, chorded := !rest.isEmpty }

/-- The entry of a group at its close (R102). -/
def Group.entry (g : Group) : KeyEntry :=
  { key := keyAt g.lead, shifted := g.shifted, chord := g.chorded, overrun := false }

/-- Some digit or KEY is DOWN. -/
def anyDown (keys : List KeyScan) : Bool := groupPositions.any (fun p => downAt keys p)

/-- A group closes once every digit and KEY is UP, and makes its entry (R102). -/
def groupClose (g : Option Group) (keys : List KeyScan) : Option Group × List KeyEntry :=
  match g with
  | none => (none, [])
  | some g => if anyDown keys then (some g, []) else (none, [g.entry])

/-! ## Shift holds (R103) -/

/-- The SHIFT_TAP entry (R103). -/
def tapEntry : KeyEntry := { key := .shiftTap, shifted := false, chord := false, overrun := false }

/-- The shift hold after a scan, and the entry its end makes (R103). DESIGN CHOICE: a digit or KEY recognised DOWN at the
scan that ends the hold does not make it unclean, and a hold that opens at the scan that ends a group opens clean
(notes/assumptions/38.md, 39.md). -/
def holdScan (h : Option Bool) (old new : List KeyScan) (down : List Nat) : Option Bool × List KeyEntry :=
  match downAt old shiftPosition, downAt new shiftPosition with
  | false, true => (some (!anyDown new), [])
  | true, false => (none, if h = some true then [tapEntry] else [])
  | _, _ => (h.map (fun clean => clean && down.isEmpty), [])

/-- One scan of the matrix (R101, R102, R103): the entries recognised wait to be placed. -/
def Kps.scan (closed : BitVec 12) (k : Kps) : Kps :=
  if k.scanning then
    let keys := scanKeys closed k.keys
    let down := wentDown k.keys keys
    let g := groupClose (groupOpen k.group down (downAt keys shiftPosition)) keys
    let h := holdScan k.hold k.keys keys down
    { k with keys := keys, group := g.1, hold := h.1, due := k.due ++ g.2 ++ h.2 }
  else k

/-! ## The key FIFO (R104, R105) -/

/-- An entry is placed in the FIFO: at the tail while fewer than 6 are held, else over the tail with OVERRUN (R104,
R105). -/
def placeEntry (fifo : List KeyEntry) (e : KeyEntry) : List KeyEntry :=
  if fifo.length < 6 then fifo ++ [e] else fifo.take 5 ++ [{ e with overrun := true }]

/-- The oldest entry recognised, when it is one that `p` admits, is placed, and the AC reloads the idle counter
(R104). -/
def produce (p : EntryKey → Bool) (s : State) : State :=
  match s.kps.due with
  | [] => s
  | e :: rest =>
    if p e.key then reloadIdle (s.setKps { s.kps with due := rest, fifo := placeEntry s.kps.fifo e }) else s

/-! ## Meanings -/

/-- SCAN (R101). -/
def execScan (closed : BitVec 12) (s : State) : Host.Outcome State Fault Refusal :=
  s.whenPowered (fun s => s.setKps (s.kps.scan closed))

/-- KEY_ENTRY_PRODUCED (R102, R104): the entry of a press group. -/
def execKeyEntryProduced (s : State) : Host.Outcome State Fault Refusal :=
  s.whenPowered (produce (fun k => k != .shiftTap))

/-- SHIFT_TAP_PRODUCED (R103, R104). -/
def execShiftTapProduced (s : State) : Host.Outcome State Fault Refusal :=
  s.whenPowered (produce (fun k => k == .shiftTap))

end Sys2Proof.Machine
end

