-- ==== Sys2Proof/Machine/Composer.lean ====
section
/-! DEFINITION. The Entry Composer (chapter 6) with the AC's answers to its submissions (R82 to R84, R89, R92), and the
meanings of the entries taken. -/

namespace Sys2Proof.Machine

open Sys2Proof

/-! ## The composition (R107, R108) -/

/-- The ECP is composing (R108). -/
def State.composing (s : State) : Bool :=
  match s.ac.access with
  | .lockedEntry | .lockedAdminEntry | .blankRepeat | .change => true
  | .blankFirst | .presented => !s.ecp.stack.isEmpty
  | .adminSession => s.ecp.command.isSome
  | _ => false

/-- The resting place of a sub-state (R108). -/
def Access.restingPlace : Access → Access
  | .lockedEntry | .lockedAdminEntry => .lockedIdle
  | .blankRepeat => .blankFirst
  | .change => .presented
  | a => a

/-- A digit is pushed, or discarded with the OVERLONG mark when 15 are held (R107). -/
def push (d : Digit) (s : State) : State :=
  if s.ecp.stack.length < 15 then s.setEcp { s.ecp with stack := s.ecp.stack ++ [d] }
  else s.setEcp { s.ecp with overlong := true }

/-- SHIFT_TAP takes the last digit back (R107). -/
def pop (s : State) : State := s.setEcp { s.ecp with stack := s.ecp.stack.dropLast }

/-- The composition is given up: cleared, and the resting place taken (R108, R109). -/
def cancel (s : State) : State := moveTo s.ac.access.restingPlace s

/-- A composition ends with a verdict of the ECP (R109, R112, R115). -/
def cancelWith (v : Verdict) (s : State) : State := showVerdict v (cancel s)

/-! ## Submissions to the AC (R84, R92) -/

/-- The verdict of the first check of R84 that a submission fails, in the rule's order. -/
def State.submissionFault (s : State) (admin : Bool) : Option Verdict :=
  if s.ecp.stack.length < 7 ∨ s.ecp.overlong then some .format
  else if admin then none
  else if s.swu.state ≠ .idle ∨ s.ks.dev.fields.erasePending ∨ s.dli.media ≠ .ok then some .refused
  else none

/-- A submission from ENTRY or ADMIN_ENTRY (R84). -/
def submit (admin : Bool) (s : State) : State :=
  match s.submissionFault admin with
  | some v => showVerdict v (moveTo .lockedIdle s)
  | none =>
    let digits := s.ecp.stack
    if admin then
      let s1 := enter .lockedAdminVerifying s
      handOver (.admin digits) (s1.setAc { s1.ac with scope := some .admin })
    else
      let s1 := enter .lockedVerifying s
      handOver (.unlock digits) (s1.setAc { s1.ac with scope := some .unlock, lossSeen := false })

/-- A request to change the session slot's PIN (R92): slots 0 to 6 enter CHANGE, slot 7 is refused. It is a submission,
so either way the stack is cleared and OVERLONG becomes no (R107, R116). -/
def changeRequest (s : State) : State :=
  match s.ac.sessionSlot with
  | some i => if i = 7 then showVerdict .refused (clearComposition s) else moveTo .change s
  | none => showVerdict .refused (clearComposition s)

/-! ## A PIN taken twice (R112) -/

/-- The first entry of the sequence (R112). -/
def firstEntry (s : State) : State :=
  match firstEntryFault s.ecp.stack s.ecp.overlong with
  | some v => cancelWith v s
  | none =>
    let s1 := s.setEcp { s.ecp with copy := some s.ecp.stack, stack := [], overlong := false }
    if s.ac.access = .blankFirst then enter .blankRepeat s1 else s1

/-- KEY in a sequence that takes a PIN twice: the first entry, or the second against the copy (R112). -/
def pinEntry (purpose : EnrolFor) (s : State) : State :=
  match s.ecp.copy with
  | none => firstEntry s
  | some c =>
    if s.ecp.overlong = false ∧ s.ecp.stack = c then handOver (.enrol purpose c) s else cancelWith .refused s

/-! ## Admin commands (R114) -/

/-- Exactly one digit was keyed. -/
def oneDigit (s : State) (f : Digit → State) : State :=
  match s.ecp.stack, s.ecp.overlong with
  | [d], false => f d
  | _, _ => cancelWith .format s

/-- One or two digits were keyed. -/
def oneOrTwoDigits (s : State) (f : Nat → State) : State :=
  match keyedValue s.ecp.stack, s.ecp.overlong with
  | some v, false => f v
  | _, _ => cancelWith .format s

/-- The user slots a delete command clears: all for 0, from 6 down to 1, else the one named (R114, R132). -/
def deleteSlots (d : Digit) : List (Fin 8) :=
  if d = 0 then [6, 5, 4, 3, 2, 1] else [Fin.ofNat 8 d.val]

/-- KEY with a command pending (R114). -/
def submitCommand (c : Fin 10) (s : State) : State :=
  match c.val with
  | 1 => pinEntry .userSlot s
  | 2 => oneDigit s (fun d => if d.val ≤ 6 then handOver (.clear (deleteSlots d)) s else cancelWith .refused s)
  | 3 => oneDigit s (fun d =>
      if d.val ≤ 1 then handOver (.setting { DevUpdate.none with readOnly := some (d.val == 1) }) s
      else cancelWith .refused s)
  | 4 => oneOrTwoDigits s (fun v =>
      handOver (.setting { DevUpdate.none with autoLock := some (clampMinutes v) }) s)
  | 5 => oneOrTwoDigits s (fun v => handOver (.setting { DevUpdate.none with limit := some (clampLimit v) }) s)
  | 6 => pinEntry .recovery s
  | 7 => pinEntry .adminPin s
  | 8 => oneDigit s (fun d =>
      if d.val ≤ 1 then handOver (.setting { DevUpdate.none with lockOnStandby := some (d.val == 1) }) s
      else cancelWith .refused s)
  | 9 =>
    if 7 ≤ s.ecp.stack.length ∧ s.ecp.overlong = false then handOver (.eraseConfirm s.ecp.stack) s
    else cancelWith .format s
  | _ => s

/-! ## The tables (R111, R113) -/

/-- The sub-states in which the base table pushes digits and pops (R111). -/
def Access.pushes : Access → Bool
  | .lockedEntry | .lockedAdminEntry | .blankFirst | .blankRepeat | .presented | .change => true
  | _ => false

/-- A digit under the table in force: pushed or discarded (R111, R113). -/
def digitEntry (d : Digit) (s : State) : State :=
  if s.ecp.adminTable then (if s.ecp.command.isSome then push d s else s)
  else if s.ac.access.pushes then push d s else s

/-- SHIFT_TAP under the table in force (R111, R113). -/
def tapTaken (s : State) : State :=
  if s.ecp.adminTable then (if s.ecp.command.isSome then pop s else s)
  else if s.ac.access.pushes then pop s else s

/-- A shifted digit under the admin table (R113). -/
def selectCommand (d : Digit) (s : State) : State :=
  if d = 0 then (if s.ecp.command.isSome then clearComposition s else s)
  else s.setEcp { s.ecp with command := some d, stack := [], overlong := false, copy := none }

/-- KEY, shifted or not, under the admin table (R113). -/
def adminKey (s : State) : State :=
  match s.ecp.command with
  | none => moveTo .lockedIdle s
  | some c => submitCommand c s

/-- KEY, shifted or not, under the base table (R111). -/
def baseKey (shifted : Bool) (s : State) : State :=
  match s.ac.access with
  | .lockedIdle => moveTo (if shifted then .lockedAdminEntry else .lockedEntry) s
  | .lockedEntry => submit false s
  | .lockedAdminEntry => submit true s
  | .blankFirst | .blankRepeat => pinEntry .blank s
  | .change => pinEntry .change s
  | .presented =>
    if s.ecp.stack ≠ [] then cancelWith .format s
    else if shifted then changeRequest s
    else lockEvent .lockKey s
  | _ => s

/-- KEY under the table in force. -/
def keyEntry (shifted : Bool) (s : State) : State :=
  if s.ecp.adminTable then adminKey s else baseKey shifted s

/-- A flagged entry (R109). -/
def flaggedEntry (s : State) : State :=
  match s.ac.access with
  | .lockedEntry | .lockedAdminEntry | .blankFirst | .blankRepeat | .presented | .change | .adminSession =>
    cancelWith .format s
  | _ => s

/-! ## Taking an entry (R106) -/

/-- CHORD or OVERRUN is set (R109). -/
def KeyEntry.flagged (e : KeyEntry) : Bool := e.chord || e.overrun

/-- The timers an entry taken reloads: the entry timer while composing, the admin session timer in SESSION (R89,
R108). The entry timer does not run while the ECP is WAITING. -/
def afterTake (s : State) : State :=
  (s.setEcp { s.ecp with timer := if s.composing && s.ecp.ready then some 100 else none }).setAc
    { s.ac with admin := if s.ac.access = .adminSession then some 300 else s.ac.admin }

/-- The ECP takes the entry at the head of the FIFO, when it is READY and the part is AWAKE, and interprets it in the
sub-state of that moment (R106). `f` answers nothing for an entry that is not of the kind named. -/
def takeEntry (f : KeyEntry → Option (State → State)) (s : State) : State :=
  match s.kps.fifo with
  | [] => s
  | e :: rest =>
    if s.ecp.ready = false ∨ s.ac.standby then s else
    match f e with
    | none => s
    | some act => settle (afterTake (act (s.setKps { s.kps with fifo := rest })))

/-! ## Meanings -/

/-- DIGIT_TAKEN (R107, R111, R113): an unflagged digit, under the base table shifted or not. -/
def execDigitTaken (s : State) : Host.Outcome State Fault Refusal :=
  s.whenRunning (fun s => takeEntry (fun e =>
    match e.key with
    | .digit d => if e.flagged ∨ (e.shifted ∧ s.ecp.adminTable) then none else some (digitEntry d)
    | _ => none) s)

/-- SHIFT_TAP_TAKEN (R107). -/
def execShiftTapTaken (s : State) : Host.Outcome State Fault Refusal :=
  s.whenRunning (takeEntry (fun e => if e.key = .shiftTap ∧ e.flagged = false then some tapTaken else none))

/-- KEY_TAKEN (R111, R113). -/
def execKeyTaken (s : State) : Host.Outcome State Fault Refusal :=
  s.whenRunning (takeEntry (fun e =>
    if e.key = .key ∧ e.flagged = false ∧ e.shifted = false then some (keyEntry false) else none))

/-- SHIFTED_KEY_TAKEN (R111, R113). -/
def execShiftedKeyTaken (s : State) : Host.Outcome State Fault Refusal :=
  s.whenRunning (takeEntry (fun e =>
    if e.key = .key ∧ e.flagged = false ∧ e.shifted = true then some (keyEntry true) else none))

/-- SHIFTED_DIGIT_TAKEN (R113): under the admin table it selects, replaces or drops a command; under the base table it
is a digit (R111). -/
def execShiftedDigitTaken (s : State) : Host.Outcome State Fault Refusal :=
  s.whenRunning (fun s => takeEntry (fun e =>
    match e.key with
    | .digit d =>
      if e.flagged ∨ e.shifted = false then none
      else if s.ecp.adminTable then some (selectCommand d) else some (digitEntry d)
    | _ => none) s)

/-- FLAGGED_ENTRY_TAKEN (R109). -/
def execFlaggedEntryTaken (s : State) : Host.Outcome State Fault Refusal :=
  s.whenRunning (takeEntry (fun e => if e.flagged then some flaggedEntry else none))

/-- ENTRY_TIMEOUT (R108): no verdict, and the admin session timer runs on. -/
def execEntryTimeout (s : State) : Host.Outcome State Fault Refusal :=
  s.whenRunning (fun s => if s.ecp.timer.due ∧ s.ecp.ready then settle (cancel s) else s)

end Sys2Proof.Machine
end

