-- ==== Sys2Proof/Machine/Requests.lean ====
section
/-! DEFINITION. Request records and write data taken from the upstream link (sections 2.1, 2.2, 2.6, 2.7). -/

namespace Sys2Proof.Machine

open Sys2Proof

/-! ## The admission checks (R17, R18) -/

/-- The transaction kind of a kind byte (R171); ABORT and unknown kinds have none. -/
def kindOf (k : Byte) : Option TxKind :=
  if k = 1 then some .read else if k = 2 then some .write else if k = 3 then some .flush
  else if k = 4 then some .size else if k = 5 then some .state else none

/-- The kind byte is READ's or WRITE's. -/
def Request.isTransfer (r : Request) : Bool := r.kind == 1 || r.kind == 2

/-- The count lies in 1 to 256. -/
def Request.countOk (r : Request) : Bool := decide (1 ≤ r.count.toNat) && decide (r.count.toNat ≤ 256)

/-- Check 1 of R18: the kind is known, the tag is at most 15, a READ or WRITE counts 1 to 256. -/
def Request.valid (r : Request) : Bool :=
  decide (1 ≤ r.kind.toNat) && decide (r.kind.toNat ≤ 6) && decide (r.tag.toNat ≤ 15) &&
    (!r.isTransfer || r.countOk)

/-- The tag of a request whose tag byte is at most 15. -/
def tagOf (b : Byte) : Fin 16 := Fin.ofNat 16 b.toNat

/-- The COMPLETE that answers a refused request (R18). -/
def Request.refusal (r : Request) (o : Result) : Complete :=
  { tag := r.tag, outcome := o, detail := r.kind,
    residue := if r.isTransfer && r.countOk then r.count.toNat else 0, payload := .none }

/-- A refusal joins the refusal queue at the tail (R19). -/
def refuse (r : Request) (o : Result) (s : State) : State :=
  s.setUli { s.uli with refusals := s.uli.refusals ++ [r.refusal o] }

/-! ## Admission (R20, R22) -/

/-- A record as it is created, DONE with an outcome (R20, R22). DESIGN CHOICE: its transfer count m is absent, also for a
READ or WRITE completed with BECOMING_READY or PROTECTED, to which no clamp is applied (notes/assumptions/37.md). -/
def Txn.atAdmission (k : TxKind) (t : Fin 16) (r : Request) (v : Volume) (o : Result) : Txn :=
  let transfer := k == .read || k == .write
  { tag := t, kind := k, volume := if v = .overlay then .overlay else .user,
    lba := if transfer then some r.lba.toNat else none,
    requested := if transfer then some r.count.toNat else none,
    transfer := none, nextUnit := none, jobsHeld := 0, done := 0, failure := none, phase := .done,
    flushMark := none, outcome := some o }

/-- A READ or WRITE past the checks meets the range clamp (R6, R20). -/
def Txn.clamped (x : Txn) (h : Option Nat) : Txn :=
  let m := rangeClamp (x.lba.getD 0) (x.requested.getD 0) h
  if m = 0 then { x with transfer := some 0, outcome := some .range }
  else { x with
    transfer := some m, phase := .active, outcome := none,
    nextUnit := if x.volume = .user then some (firstUnit (x.lba.getD 0)) else none }

/-- The record of an admitted request, by its kind and the presented volume (R20). -/
def State.admitted (s : State) (k : TxKind) (t : Fin 16) (r : Request) : Txn :=
  let x := Txn.atAdmission k t r s.atr.volume .good
  match k with
  | .size | .state => x
  | .flush =>
    match s.atr.volume with
    | .nothing => { x with outcome := some .becomingReady }
    | .overlay => x
    | .user => { x with phase := .active, outcome := none, flushMark := some s.outstandingWrites }
  | .read =>
    match s.atr.volume with
    | .nothing => { x with outcome := some .becomingReady }
    | _ => x.clamped s.atr.highest
  | .write =>
    match s.atr.volume with
    | .nothing => { x with outcome := some .becomingReady }
    | .overlay => { x with outcome := some .writeProtected }
    | .user =>
      if s.ks.dev.fields.readOnly then { x with outcome := some .writeProtected } else x.clamped s.atr.highest

/-- A request is admitted: its record joins the table at the tail of the arrival order, and a FLUSH whose mark is empty
requests its SYNC (R20, R21, R76). -/
def admitRequest (k : TxKind) (t : Fin 16) (r : Request) (s : State) : State :=
  syncIfUnmarked t (s.setTxns (s.txns ++ [s.admitted k t r]))

/-- A request record is taken: a READ or WRITE is reported to the AC, then the checks of R18 are made (R17, R18,
R34). -/
def takeRequest (r : Request) (s : State) : State :=
  let s1 := if r.isTransfer then reloadIdle s else s
  if r.valid = false then refuse r .requestFault s1
  else
    match kindOf r.kind with
    | none => failTxn (tagOf r.tag) .aborted s1
    | some k => if (s1.txn? (tagOf r.tag)).isSome then refuse r .tagBusy s1 else admitRequest k (tagOf r.tag) r s1

/-! ## Write data (R31) -/

/-- One sector for an open intake: placed in the buffer of the job in DATA_WAIT, at the intake's next offset (R31). -/
def takeSector (i : Intake) (j : Job) (sector : List Byte) (s : State) : State :=
  let s1 := placeSector j.buf i.next sector s
  if i.owed ≤ 1 then updJob j.buf (fun y => { y with state := .encryptWait }) (closeIntake i.tag s1)
  else s1.setUli { s1.uli with
    intakes := s1.uli.intakes.map (fun x =>
      if x.tag = i.tag then { x with owed := i.owed - 1, next := i.next + 1, timer := some 50 } else x) }

/-- A WRITE_DATA record is routed by its tag, or dropped (R31). -/
def takeWriteData (tag : Byte) (sector : List Byte) (s : State) : State :=
  if 15 < tag.toNat ∨ sector.length ≠ 512 then s else
  match s.intake? (tagOf tag), s.waitingJob (tagOf tag) with
  | some i, some j => takeSector i j sector s
  | _, _ => s

/-! ## Arrival on the upstream link (R19, R163) -/

/-- An item of the link waits there. -/
def waitOnLink (i : LinkItem) (s : State) : State := s.setUli { s.uli with link := s.uli.link ++ [i] }

/-- The item is a request record. -/
def LinkItem.isRequest : LinkItem → Bool
  | .request _ => true
  | _ => false

/-- Request records are held back: the refusal queue is full, or an earlier one still waits (R19). -/
def State.holdsRequests (s : State) : Bool := decide (4 ≤ s.uli.refusals.length) || s.uli.link.any LinkItem.isRequest

/-- A request record arrives: before the key-store reading has completed, or while the ULI holds requests back, it
waits on the link; else it is taken (R19, R163). -/
def requestArrives (r : Request) (s : State) : State :=
  if s.power = .off then s
  else if s.power = .reading ∨ s.holdsRequests then waitOnLink (.request r) s
  else settle (takeRequest r s)

/-! ## Meanings -/

/-- READ_REQUEST (R20). -/
def execReadRequest (tag : Byte) (lba : BitVec 32) (count : BitVec 16) (s : State) :
    Host.Outcome State Fault Refusal :=
  .next (requestArrives { kind := 1, tag := tag, lba := lba, count := count } s)

/-- WRITE_REQUEST (R20). -/
def execWriteRequest (tag : Byte) (lba : BitVec 32) (count : BitVec 16) (s : State) :
    Host.Outcome State Fault Refusal :=
  .next (requestArrives { kind := 2, tag := tag, lba := lba, count := count } s)

/-- FLUSH_REQUEST (R75). -/
def execFlushRequest (tag : Byte) (lba : BitVec 32) (count : BitVec 16) (s : State) :
    Host.Outcome State Fault Refusal :=
  .next (requestArrives { kind := 3, tag := tag, lba := lba, count := count } s)

/-- SIZE_REQUEST (R36). -/
def execSizeRequest (tag : Byte) (lba : BitVec 32) (count : BitVec 16) (s : State) :
    Host.Outcome State Fault Refusal :=
  .next (requestArrives { kind := 4, tag := tag, lba := lba, count := count } s)

/-- STATE_REQUEST (R37). -/
def execStateRequest (tag : Byte) (lba : BitVec 32) (count : BitVec 16) (s : State) :
    Host.Outcome State Fault Refusal :=
  .next (requestArrives { kind := 5, tag := tag, lba := lba, count := count } s)

/-- ABORT (R34). -/
def execAbort (tag : Byte) (lba : BitVec 32) (count : BitVec 16) (s : State) : Host.Outcome State Fault Refusal :=
  .next (requestArrives { kind := 6, tag := tag, lba := lba, count := count } s)

/-- UNKNOWN_KIND_REQUEST (R18): the record's kind byte as received. -/
def execUnknownKindRequest (kind tag : Byte) (lba : BitVec 32) (count : BitVec 16) (s : State) :
    Host.Outcome State Fault Refusal :=
  .next (requestArrives { kind := kind, tag := tag, lba := lba, count := count } s)

/-- WRITE_DATA (R31). -/
def execWriteData (tag : Byte) (sector : List Byte) (s : State) : Host.Outcome State Fault Refusal :=
  .next (
    match s.power with
    | .off => s
    | .reading => waitOnLink (.writeData tag sector) s
    | .running => settle (takeWriteData tag sector s))

/-- UPSTREAM_FRAME_DROPPED (R171): the frame is not answered and changes nothing. -/
def execUpstreamFrameDropped (_frame : List Byte) (s : State) : Host.Outcome State Fault Refusal := .next s

end Sys2Proof.Machine
end

