-- ==== Sys2Proof/Machine/Link.lean ====
section
/-! DEFINITION. The link signals LINK_RESET, SUSPEND and RESUME (R39, R98, R100), and what is taken from the upstream
link once it may be (R19, R163). -/

namespace Sys2Proof.Machine

open Sys2Proof

/-! ## The signals -/

/-- LINK_RESET taken (R39, R100). -/
def takeLinkReset (s : State) : State := reloadIdle (emptyTable s)

/-- The KPS stops scanning and empties its FIFO (R98). DESIGN CHOICE: every key is UP and no press group or shift hold
stands already from here on, which R101 gives at the restart (notes/assumptions/40.md). -/
def stopKeypad (s : State) : State :=
  s.setKps { scanning := false, keys := Kps.allUp, group := none, hold := none, due := [], fifo := [] }

/-- The KPS restarts with every key UP (R100, R101). -/
def startKeypad (s : State) : State :=
  s.setKps { s.kps with scanning := true, keys := Kps.allUp, group := none, hold := none, due := [] }

/-- A composing sub-state returns to its resting place at SUSPEND; with the ECP WAITING it stays in place (R98,
step 4). -/
def suspendComposer (s : State) : State :=
  if s.ecp.ready ∧ s.composing then cancel s else clearComposition s

/-- The lock event of SUSPEND (R98, step 2). -/
def suspendLock (s : State) : State :=
  if s.ks.dev.fields.lockOnStandby ∧ s.ac.access.unlocked then lockEvent .standby s else s

/-- SUSPEND taken (R98): the table is emptied, and when the part is AWAKE the steps of the rule follow. -/
def takeSuspend (s : State) : State :=
  let s1 := emptyTable s
  if s.ac.standby then s1 else
  let s2 := suspendLock s1
  let s3 := s2.setAc { s2.ac with standby := true, changed := false }
  darken (suspendComposer (stopKeypad s3))

/-- RESUME joins the latch when the presentation changed in standby (R100). -/
def resumeReason (s : State) : State :=
  if s.ac.changed then attention .resume (s.setAc { s.ac with changed := false }) else s

/-- A held verdict is handed to the IND and cleared (R100). -/
def resumeVerdict (s : State) : State :=
  match s.ac.held with
  | none => s
  | some v => verdictRequest v (s.setAc { s.ac with held := none })

/-- RESUME taken (R100): nothing while AWAKE. -/
def takeResume (s : State) : State :=
  if s.ac.standby then
    resumeVerdict (resumeReason (startKeypad (s.setAc { s.ac with standby := false })))
  else s

/-! ## Taking what waits on the link -/

/-- The effect of an item taken from the link. -/
def LinkItem.take : LinkItem → State → State
  | .request r, s => takeRequest r s
  | .writeData tag sector, s => takeWriteData tag sector s
  | .linkReset, s => takeLinkReset s
  | .suspend, s => takeSuspend s
  | .resume, s => takeResume s

/-- The item the ULI takes next: the oldest, request records being held back while the refusal queue is full (R19). -/
def State.nextItem (s : State) : Option LinkItem :=
  s.uli.link.find? (fun i => !(i.isRequest && decide (4 ≤ s.uli.refusals.length)))

/-- The ULI takes what waits on the link, each item whole, at most `n` of them. -/
def drain : Nat → State → State
  | 0, s => s
  | n + 1, s =>
    match s.nextItem with
    | none => s
    | some i => drain n (settle (i.take (s.setUli { s.uli with link := s.uli.link.erase i })))

/-- The end of an event after which the link may be taken from again. -/
def settleLink (s : State) : State := let s1 := settle s; drain s1.uli.link.length s1

/-- A link signal arrives (R17, R163). -/
def signalArrives (i : LinkItem) (s : State) : State :=
  match s.power with
  | .off => s
  | .reading => waitOnLink i s
  | .running => settleLink (i.take s)

/-! ## Meanings -/

/-- LINK_RESET (R39). -/
def execLinkReset (s : State) : Host.Outcome State Fault Refusal := .next (signalArrives .linkReset s)

/-- SUSPEND (R98). -/
def execSuspend (s : State) : Host.Outcome State Fault Refusal := .next (signalArrives .suspend s)

/-- RESUME (R100). -/
def execResume (s : State) : Host.Outcome State Fault Refusal := .next (signalArrives .resume s)

end Sys2Proof.Machine
end

