-- ==== Sys2Proof/Machine/CredentialEvents.lean ====
section
/-! DEFINITION. The meanings of VERIFY_END and KS_WRITE_COMPLETE (chapters 7 and 8). -/

namespace Sys2Proof.Machine

/-- VERIFY_END (R126). -/
def execVerifyEnd (s : State) : Host.Outcome State Fault Refusal :=
  s.whenRunning (fun s => settle (verifyEnded s))

/-- KS_WRITE_COMPLETE (R122). -/
def execKsWriteComplete (s : State) : Host.Outcome State Fault Refusal :=
  s.whenRunning (fun s => settle (ksWritten s))

end Sys2Proof.Machine
end

