-- ==== Sys2Proof/Machine/IndicatorEvents.lean ====
section
/-! DEFINITION. The meanings of the IND's own events (chapter 9). -/

namespace Sys2Proof.Machine

/-- BRIEF_PATTERN_RUNOUT (R154, R156, R157). -/
def execBriefPatternRunout (s : State) : Host.Outcome State Fault Refusal :=
  s.whenPowered (fun s => settle (briefRunout s))

/-- The activity rest has reached 0 (R157). -/
def restEnd (s : State) : State :=
  if s.ind.rest = some 0 then s.setInd { s.ind with rest := none } else s

/-- ACTIVITY_REST_END (R157). -/
def execActivityRestEnd (s : State) : Host.Outcome State Fault Refusal := s.whenPowered restEnd

/-- PATTERN_CLOCK (R153, R161): 1 ms of the shown pattern. -/
def execPatternClock (s : State) : Host.Outcome State Fault Refusal :=
  s.whenPowered (fun s => s.setInd (patternTick s.ind))

end Sys2Proof.Machine
end

