-- ==== Sys2Proof/Machine/Sent.lean ====
section
/-! DEFINITION. Records sent whole on the upstream link (sections 2.4, 2.5, 3.5): the five rows of the upstream output,
and the data-wait expiry. -/

namespace Sys2Proof.Machine

open Sys2Proof

/-! ## Refusals and COMPLETE records (R19, R28) -/

/-- The oldest refusal has been sent: it leaves the queue, and the output falls free (R19, R29). -/
def refusalSent (s : State) : State :=
  match s.uli.output, s.uli.refusals with
  | .refusal, c :: rest =>
    settleLink (freeOutput (sendUp (.complete c) (s.setUli { s.uli with refusals := rest })))
  | _, _ => s

/-- The payload of a COMPLETE, formed at the sending (R36, R37). -/
def State.payload (s : State) (x : Txn) : Payload :=
  match x.kind with
  | .size => .size s.sizeAnswer
  | .state => .state s.stateAnswer
  | _ => .none

/-- The COMPLETE record of a DONE transaction (R27, R28). -/
def State.completeOf (s : State) (x : Txn) : Complete :=
  { tag := BitVec.ofNat 8 x.tag.val, outcome := x.outcome.getD .good, detail := failureDetail x.failure,
    residue := x.residue, payload := s.payload x }

/-- The sending of a STATE COMPLETE clears the ATTN latch, and its percent is the last reported (R16, R38). -/
def stateSent (s : State) : State :=
  (s.setUli { s.uli with attn := Attn.none }).setSwu
    { s.swu with lastPercent := some (reportedPercent s.swu s.dli.usable) }

/-- The COMPLETE of a transaction has been sent: its record leaves the table, and the output falls free (R28). -/
def completeSent (s : State) : State :=
  match s.uli.output with
  | .complete t =>
    match s.txn? t with
    | some x =>
      let s1 := if x.kind = .state then stateSent s else s
      settle (freeOutput (dropTxn t (sendUp (.complete (s.completeOf x)) s1)))
    | none => s
  | _ => s

/-! ## DATA_WANTED (R30) -/

/-- A DATA_WANTED has been sent: the intake record opens, its timer at 50 (R30). -/
def dataWantedSent (s : State) : State :=
  match s.uli.output with
  | .dataWanted t =>
    match s.waitingJob t with
    | some j =>
      let s1 := sendUp (.dataWanted t (8 * j.unit + j.first.val) j.count) s
      settle (freeOutput (s1.setUli { s1.uli with
        intakes := s1.uli.intakes ++ [{ tag := t, owed := j.count, next := j.first, timer := some 50 }] }))
    | none => s
  | _ => s

/-! ## Delivery runs (R14, R55) -/

/-- The job whose delivery run holds the output. -/
def State.deliveringJob (s : State) (t : Fin 16) : Option Job :=
  s.ubp.jobs.find? (fun j => j.isOf t && j.state == .delivering)

/-- The transaction of a tag is still ACTIVE. -/
def State.isActive (s : State) (t : Fin 16) : Bool := (s.txn? t).any (fun x => x.phase == .active)

/-- A READ_DATA record of a unit has been sent in full (R25, R55): the sector is counted; at the k-th, or when the
transaction has failed, the job ends and the output falls free; a unit moved requests ACTIVITY (R157). -/
def readDataSent (s : State) : State :=
  match s.uli.output with
  | .delivery t =>
    match s.deliveringJob t with
    | some j =>
      let at_ := j.first.val + j.sent
      let s1 := addDone t 1 (sendUp (.readData t (8 * j.unit + at_) (bufferSector j.buf at_ s)) s)
      let last := decide (j.count ≤ j.sent + 1)
      if last || !s.isActive t then
        let s2 := freeOutput (endJob j s1)
        settle (progress t (if last then activityRequest s2 else s2))
      else updJob j.buf (fun y => { y with sent := y.sent + 1 }) s1
    | none => s
  | _ => s

/-- Overlay sector x of the image (R13). -/
def overlaySector (x : Nat) : List Byte := (List.range 512).map (fun i => Config.overlayByte (512 * x + i))

/-- A READ_DATA record of an overlay READ has been sent in full (R14, R25); the run ends at the last sector, or when the
transaction has failed. -/
def overlaySent (s : State) : State :=
  match s.uli.output with
  | .overlay t =>
    match s.txn? t with
    | some x =>
      let lba := x.first + x.done
      let s1 := addDone t 1 (sendUp (.readData t lba (overlaySector lba)) s)
      if x.phase = .active ∧ x.done + 1 < x.m then s1 else settle (progress t (freeOutput s1))
    | none => s
  | _ => s

/-! ## The data-wait expiry (R32) -/

/-- The data-wait timer of a transaction's intake has reached 0 (R32). -/
def dataWaitExpired (t : Fin 16) (s : State) : State :=
  match s.intake? t with
  | some i => if i.timer.due then settle (failTxn t .dataTimeout (closeIntake t s)) else s
  | none => s

/-! ## Meanings -/

/-- REFUSAL_SENT (R19). -/
def execRefusalSent (s : State) : Host.Outcome State Fault Refusal := s.whenRunning refusalSent

/-- COMPLETE_SENT (R28). -/
def execCompleteSent (s : State) : Host.Outcome State Fault Refusal := s.whenRunning completeSent

/-- DATA_WANTED_SENT (R30). -/
def execDataWantedSent (s : State) : Host.Outcome State Fault Refusal := s.whenRunning dataWantedSent

/-- READ_DATA_SENT (R55). -/
def execReadDataSent (s : State) : Host.Outcome State Fault Refusal := s.whenRunning readDataSent

/-- OVERLAY_READ_DATA_SENT (R14). -/
def execOverlayReadDataSent (s : State) : Host.Outcome State Fault Refusal := s.whenRunning overlaySent

/-- DATA_WAIT_EXPIRY (R32). -/
def execDataWaitExpiry (t : Fin 16) (s : State) : Host.Outcome State Fault Refusal :=
  s.whenRunning (dataWaitExpired t)

end Sys2Proof.Machine
end

