-- ==== Sys2Proof/Machine/Completions.lean ====
section
/-! DEFINITION. Completions of downstream operations (R69, R73, R173) and of the Cipher Engine (R58). -/

namespace Sys2Proof.Machine

open Sys2Proof

/-- An owner takes the completion of its operation (R69): a job by R48 to R53 and R61, a FLUSH by R76, the SWU by R144;
an operation with no owner passes to none. `lost` marks an ERROR that the DLI gave at a loss or for a request it could
not place. -/
def ownerTakes (op : DOp) (o : Owner) (ok lost : Bool) (page : List Byte) (s : State) : State :=
  match o with
  | .job b => jobCompletion b op ok page s
  | .flush t => syncEnd t ok s
  | .sweep =>
    match op with
    | .discard _ n => windowResult (if ok then .ok else if lost then .lost else .error) n s
    | _ => s
  | .nobody => s

/-- A COMPLETION frame (R69, R173): a dtag above 3 or of a free slot drops it; else the slot is freed and its owner takes
the completion, OK or ERROR as the frame's bytes say. -/
def takeCompletion (opByte dtag status : Byte) (rest : List Byte) (s : State) : State :=
  if 3 < dtag.toNat then s else
  match s.dli.slots.find? (fun x => x.dtag == Fin.ofNat 4 dtag.toNat) with
  | none => s
  | some x =>
    settle (ownerTakes x.op x.owner (completionOk x.op opByte status rest) false rest
      (s.setDli { s.dli with slots := s.dli.slots.filter (fun y => y.dtag != x.dtag) }))

/-- An owner takes the oldest ERROR completion the DLI has given it (R73); nothing when it has none. -/
def takeError (o : Owner) (s : State) : State :=
  match s.dli.errors.find? (fun e => e.owner == o) with
  | none => s
  | some e =>
    settle (ownerTakes e.op o false true [] (s.setDli { s.dli with errors := s.dli.errors.erase e }))

/-! ## Meanings -/

/-- PAGE_READ_COMPLETION (R48). -/
def execPageReadCompletion (dtag status : Byte) (rest : List Byte) (s : State) : Host.Outcome State Fault Refusal :=
  s.whenPowered (takeCompletion 1 dtag status rest)

/-- PAGE_WRITE_COMPLETION (R53). -/
def execPageWriteCompletion (dtag status : Byte) (rest : List Byte) (s : State) : Host.Outcome State Fault Refusal :=
  s.whenPowered (takeCompletion 2 dtag status rest)

/-- SYNC_COMPLETION (R76). -/
def execSyncCompletion (dtag status : Byte) (rest : List Byte) (s : State) : Host.Outcome State Fault Refusal :=
  s.whenPowered (takeCompletion 4 dtag status rest)

/-- DISCARD_COMPLETION (R144). -/
def execDiscardCompletion (dtag status : Byte) (rest : List Byte) (s : State) : Host.Outcome State Fault Refusal :=
  s.whenPowered (takeCompletion 3 dtag status rest)

/-- DOWNSTREAM_FRAME_DROPPED (R173): the frame changes no state. -/
def execDownstreamFrameDropped (_frame : List Byte) (s : State) : Host.Outcome State Fault Refusal := .next s

/-- ERROR_COMPLETION_TAKEN (R73). -/
def execErrorCompletionTaken (owner : Owner) (s : State) : Host.Outcome State Fault Refusal :=
  s.whenPowered (takeError owner)

/-- CIPHER_COMPLETION (R58). -/
def execCipherCompletion (s : State) : Host.Outcome State Fault Refusal :=
  s.whenRunning (fun s => settle (cipherEnd s))

end Sys2Proof.Machine
end

