-- ==== Sys2Proof/Machine/MediaEvents.lean ====
section
/-! DEFINITION. The media condition (section 4.4): IDENT, MEDIA_LOST and the IDENT wait, with the reports of R74. -/

namespace Sys2Proof.Machine

open Sys2Proof

/-- Owners take ERROR completions of the loss before the AC takes its report (R24, R73, notes/assumptions/9.md). -/
def takeEarly (early : List Owner) (s : State) : State := early.foldl (fun acc o => takeError o acc) s

/-- The SWU takes the new condition: a report of OK resumes a paused sweep (R74, R147). -/
def reportMedia (s : State) : State := if s.dli.media = .ok then sweepReportOk s else s

/-- MEDIA_LOST (R73): nothing while the condition is ABSENT. -/
def mediaLost (early : List Owner) (s : State) : State :=
  if s.dli.media = .absent then s else settle (acLoss (takeEarly early (loseMedia s)))

/-- IDENT (R70, R72): while OK with the same U it refreshes P and the flag; while OK with another U, or P below 32,768,
it is a loss followed by a new identification; else it identifies. DESIGN CHOICE: FAULT does not show for the moment that
the condition is ABSENT inside the event (notes/assumptions/41.md). -/
def identTaken (p : BitVec 32) (early : List Owner) (s : State) : State :=
  if s.dli.media = .ok then
    if usablePages p.toNat = s.dli.usable ∧ (usablePages p.toNat).isSome then settle (identify p s)
    else settle (reportMedia (acLoss (takeEarly early (identify p (loseMedia s)))))
  else settle (reportMedia (identify p s))

/-- The expiry of the IDENT wait (R71). -/
def identWaitExpired (s : State) : State :=
  if s.dli.media = .unknown ∧ s.dli.identWait.due then
    settle (s.setDli { s.dli with media := .absent, identWait := none })
  else s

/-! ## Meanings -/

/-- IDENT (R72). -/
def execIdent (pages : BitVec 32) (early : List Owner) (s : State) : Host.Outcome State Fault Refusal :=
  s.whenPowered (identTaken pages early)

/-- MEDIA_LOST (R73). -/
def execMediaLost (early : List Owner) (s : State) : Host.Outcome State Fault Refusal :=
  s.whenPowered (mediaLost early)

/-- IDENT_WAIT_EXPIRY (R71). -/
def execIdentWaitExpiry (s : State) : Host.Outcome State Fault Refusal := s.whenPowered identWaitExpired

end Sys2Proof.Machine
end

