-- ==== Sys2Proof/Machine/Power.lean ====
section
/-! DEFINITION. The power-on sequence and power loss (chapter 10). -/

namespace Sys2Proof.Machine

open Sys2Proof

/-! ## NPOR -/

/-- The release of NPOR (R163): every block takes its power-on value, and the key store is as the medium holds it. The
logs of what was sent, the count of free values and the queue are the model's own and are kept. -/
def powerOn (s : State) : State :=
  if s.power = .off then State.atRelease s.ks.nvm s.draws s.uli.sent s.dli.sent s.pending else s

/-- What a power loss leaves (R123, R167): the key store; the rest of the state as a part with no power holds it. -/
def powerLoss (fate : WriteFate) (s : State) : State :=
  if s.power = .off then s else
  let s1 := State.atRelease (s.ks.afterLoss fate s.draws) (s.draws + 1) s.uli.sent s.dli.sent s.pending
  { s1 with
    power := .off,
    uli := { s1.uli with attn := Attn.none },
    dli := { s1.dli with identWait := none },
    kps := { s1.kps with scanning := false } }

/-! ## The completion of the KS reading (R164) -/

/-- The AC's initial state, with the full throttle delay in LOCKOUT (R81, R164 step 1), and the CU's staging when it is
ERASING (R139, R164 step 3). -/
def startAccess (s : State) : State :=
  match initialAccess s with
  | .erasing => enterErasing (.slot 7) s
  | .lockout =>
    let s1 := moveTo .lockout s
    s1.setAc { s1.ac with lockout := some (throttleTicks s.ks.dev.fields.failures) }
  | a => moveTo a s

/-- The rebuild write, when the stored device record fails its check (R121, R164 step 3). -/
def startRebuild (s : State) : State :=
  if s.ks.nvm.dev.passes then s
  else cuWrite .rebuild (.dev (DevUpdate.whole DevFields.rebuiltValues)) s

/-- The completion of the KS reading (R164). -/
def readingComplete (s : State) : State :=
  if s.power = .reading then
    let s1 := startRebuild (startAccess (sweepAtStart (readImages s)))
    settleLink (reportMedia { s1 with power := .running })
  else s

/-! ## Meanings -/

/-- POWER_ON (R163). -/
def execPowerOn (s : State) : Host.Outcome State Fault Refusal := .next (powerOn s)

/-- POWER_LOSS (R167). -/
def execPowerLoss (fate : WriteFate) (s : State) : Host.Outcome State Fault Refusal := .next (powerLoss fate s)

/-- KS_READING_COMPLETE (R164). -/
def execKsReadingComplete (s : State) : Host.Outcome State Fault Refusal := .next (readingComplete s)

end Sys2Proof.Machine
end

