-- ==== Sys2Proof/Machine/TimerEvents.lean ====
section
/-! DEFINITION. The tick (R162) and the expiries of the AC's timers. -/

namespace Sys2Proof.Machine

open Sys2Proof

/-- The admin session timer counts: SESSION, with no CU work in progress (R89, R162). -/
def State.adminCounts (s : State) : Bool := s.ac.access == .adminSession && s.cu.work == .idle

/-- The idle counter counts: PRESENTED and AWAKE (R95, R162). -/
def State.idleCounts (s : State) : Bool := s.ac.access == .presented && !s.ac.standby

/-- The remaining count of a brief pattern counts down one while its slot condition is SHOWN (R154, R162). -/
def Ind.tick (i : Ind) : Ind :=
  { i with remaining := if i.slot.isSome ∧ i.suspended = false then i.remaining - 1 else i.remaining,
           rest := i.rest.tick }

/-- The AC's timers at a tick (R88, R89, R91, R95, R162). -/
def State.acTick (s : State) : Ac :=
  { s.ac with settle := s.ac.settle.tickIf (s.ac.access == .settling),
              lockout := s.ac.lockout.tickIf (s.ac.access == .lockout),
              admin := s.ac.admin.tickIf s.adminCounts,
              idle := s.ac.idle.tickIf s.idleCounts }

/-- One 100 ms tick (R162): every timer whose owner's rule lets it count, counts. -/
def tickAll (s : State) : State :=
  { s with
    uli := { s.uli with intakes := s.uli.intakes.map (fun i => { i with timer := i.timer.tick }) },
    dli := { s.dli with identWait := s.dli.identWait.tickIf (s.dli.media == .unknown) },
    ac := s.acTick,
    ecp := { s.ecp with timer := s.ecp.timer.tickIf (s.composing && s.ecp.ready) },
    ind := s.ind.tick }

/-! ## Meanings -/

/-- TICK (R162). -/
def execTick (s : State) : Host.Outcome State Fault Refusal := s.whenPowered tickAll

/-- SETTLE_TIMER_EXPIRY (R91). -/
def execSettleTimerExpiry (s : State) : Host.Outcome State Fault Refusal :=
  s.whenRunning (fun s => if s.ac.access = .settling ∧ s.ac.settle.due then settle (enterPresented s) else s)

/-- LOCKOUT_TIMER_EXPIRY (R88). -/
def execLockoutTimerExpiry (s : State) : Host.Outcome State Fault Refusal :=
  s.whenRunning (fun s => if s.ac.access = .lockout ∧ s.ac.lockout.due then settle (moveTo .lockedIdle s) else s)

/-- ADMIN_SESSION_TIMER_EXPIRY (R89). -/
def execAdminSessionTimerExpiry (s : State) : Host.Outcome State Fault Refusal :=
  s.whenRunning (fun s => if s.ac.access = .adminSession ∧ s.ac.admin.due then settle (moveTo .lockedIdle s) else s)

/-- IDLE_COUNTER_EXPIRY (R95). -/
def execIdleCounterExpiry (s : State) : Host.Outcome State Fault Refusal :=
  s.whenRunning (fun s =>
    if s.ac.access = .presented ∧ s.ac.standby = false ∧ s.ac.idle.due then settle (lockEvent .idle s) else s)

end Sys2Proof.Machine
end

