-- ==== Sys2Proof/Machine/Dispatch.lean ====
section
/-! DEFINITION. One arm per command: each calls its meaning. -/

namespace Sys2Proof.Machine

open Sys2Proof

/-- The effect of one command on everything but the queue. -/
def exec (i : Instr) (s : State) : Host.Outcome State Fault Refusal :=
  match i with
  | .powerOn => Sys2Proof.Machine.execPowerOn s
  | .powerLoss fate => Sys2Proof.Machine.execPowerLoss fate s
  | .ksReadingComplete => Sys2Proof.Machine.execKsReadingComplete s
  | .tick => Sys2Proof.Machine.execTick s
  | .readRequest tag lba count => Sys2Proof.Machine.execReadRequest tag lba count s
  | .writeRequest tag lba count => Sys2Proof.Machine.execWriteRequest tag lba count s
  | .flushRequest tag lba count => Sys2Proof.Machine.execFlushRequest tag lba count s
  | .sizeRequest tag lba count => Sys2Proof.Machine.execSizeRequest tag lba count s
  | .stateRequest tag lba count => Sys2Proof.Machine.execStateRequest tag lba count s
  | .abort tag lba count => Sys2Proof.Machine.execAbort tag lba count s
  | .unknownKindRequest kind tag lba count => Sys2Proof.Machine.execUnknownKindRequest kind tag lba count s
  | .writeData tag sector => Sys2Proof.Machine.execWriteData tag sector s
  | .linkReset => Sys2Proof.Machine.execLinkReset s
  | .suspend => Sys2Proof.Machine.execSuspend s
  | .resume => Sys2Proof.Machine.execResume s
  | .upstreamFrameDropped frame => Sys2Proof.Machine.execUpstreamFrameDropped frame s
  | .refusalSent => Sys2Proof.Machine.execRefusalSent s
  | .completeSent => Sys2Proof.Machine.execCompleteSent s
  | .dataWantedSent => Sys2Proof.Machine.execDataWantedSent s
  | .readDataSent => Sys2Proof.Machine.execReadDataSent s
  | .overlayReadDataSent => Sys2Proof.Machine.execOverlayReadDataSent s
  | .dataWaitExpiry tag => Sys2Proof.Machine.execDataWaitExpiry tag s
  | .pageReadCompletion dtag status rest => Sys2Proof.Machine.execPageReadCompletion dtag status rest s
  | .pageWriteCompletion dtag status rest => Sys2Proof.Machine.execPageWriteCompletion dtag status rest s
  | .syncCompletion dtag status rest => Sys2Proof.Machine.execSyncCompletion dtag status rest s
  | .discardCompletion dtag status rest => Sys2Proof.Machine.execDiscardCompletion dtag status rest s
  | .downstreamFrameDropped frame => Sys2Proof.Machine.execDownstreamFrameDropped frame s
  | .ident pages early => Sys2Proof.Machine.execIdent pages early s
  | .mediaLost early => Sys2Proof.Machine.execMediaLost early s
  | .errorCompletionTaken owner => Sys2Proof.Machine.execErrorCompletionTaken owner s
  | .identWaitExpiry => Sys2Proof.Machine.execIdentWaitExpiry s
  | .cipherCompletion => Sys2Proof.Machine.execCipherCompletion s
  | .keyEntryProduced => Sys2Proof.Machine.execKeyEntryProduced s
  | .shiftTapProduced => Sys2Proof.Machine.execShiftTapProduced s
  | .digitTaken => Sys2Proof.Machine.execDigitTaken s
  | .shiftTapTaken => Sys2Proof.Machine.execShiftTapTaken s
  | .keyTaken => Sys2Proof.Machine.execKeyTaken s
  | .shiftedKeyTaken => Sys2Proof.Machine.execShiftedKeyTaken s
  | .shiftedDigitTaken => Sys2Proof.Machine.execShiftedDigitTaken s
  | .flaggedEntryTaken => Sys2Proof.Machine.execFlaggedEntryTaken s
  | .entryTimeout => Sys2Proof.Machine.execEntryTimeout s
  | .verifyEnd => Sys2Proof.Machine.execVerifyEnd s
  | .ksWriteComplete => Sys2Proof.Machine.execKsWriteComplete s
  | .settleTimerExpiry => Sys2Proof.Machine.execSettleTimerExpiry s
  | .lockoutTimerExpiry => Sys2Proof.Machine.execLockoutTimerExpiry s
  | .adminSessionTimerExpiry => Sys2Proof.Machine.execAdminSessionTimerExpiry s
  | .idleCounterExpiry => Sys2Proof.Machine.execIdleCounterExpiry s
  | .briefPatternRunout => Sys2Proof.Machine.execBriefPatternRunout s
  | .activityRestEnd => Sys2Proof.Machine.execActivityRestEnd s
  | .scan closed => Sys2Proof.Machine.execScan closed s
  | .patternClock => Sys2Proof.Machine.execPatternClock s

end Sys2Proof.Machine
end

