-- ==== Sys2Proof/WellFormed.lean ====
section
/-! DEFINITION. Well-formed commands: the operands the frames of R171 and R173 can carry. `exec` is total on the
others too. -/

namespace Sys2Proof

/-- A kind byte outside 1 to 6 (R171). -/
def unknownKind (k : Byte) : Bool := k == 0 || decide (6 < k.toNat)

/-- The operands are ones the command's frame or event can carry: a WRITE_DATA sector is 512 bytes, an unknown kind is
outside 1 to 6, a dropped frame is one that R171 or R173 drops, and the data after a COMPLETION's status fits the
longest frame of the link. Every other operand's type holds its whole range. -/
def Instr.wf : Instr → Bool
  | .writeData _ sector => sector.length == 512
  | .unknownKindRequest kind _ _ _ => unknownKind kind
  | .upstreamFrameDropped frame => decodeUpstream frame == .upstreamFrameDropped frame
  | .downstreamFrameDropped frame => decodeDownstream frame == .downstreamFrameDropped frame
  | .pageReadCompletion .. | .pageWriteCompletion .. | .syncCompletion .. | .discardCompletion .. => true
  | .powerOn | .powerLoss .. | .ksReadingComplete | .tick | .readRequest .. | .writeRequest .. | .flushRequest ..
  | .sizeRequest .. | .stateRequest .. | .abort .. | .linkReset | .suspend | .resume | .refusalSent | .completeSent
  | .dataWantedSent | .readDataSent | .overlayReadDataSent | .dataWaitExpiry .. | .ident .. | .mediaLost ..
  | .errorCompletionTaken .. | .identWaitExpiry | .cipherCompletion | .keyEntryProduced | .shiftTapProduced
  | .digitTaken | .shiftTapTaken | .keyTaken | .shiftedKeyTaken | .shiftedDigitTaken | .flaggedEntryTaken
  | .entryTimeout | .verifyEnd | .ksWriteComplete | .settleTimerExpiry | .lockoutTimerExpiry
  | .adminSessionTimerExpiry | .idleCounterExpiry | .briefPatternRunout | .activityRestEnd | .scan ..
  | .patternClock => true

end Sys2Proof
end

