-- ==== Sys2Proof/Safety.lean ====
section
/-! DEFINITION. What the statements call a safe state: the invariants of the part that the spec's rules give, each as a
predicate over State, and the frames they use. -/

namespace Sys2Proof.Machine

open Sys2Proof

/-- The unit buffers are held in canonical form. -/
abbrev State.MemoryOk (s : State) : Prop := Memory.wf s.ubp.mem

/-- The presentation is the one the access sub-state gives, and the ATR holds the same volume (R2, R80). -/
abbrev State.PresentationOk (s : State) : Prop :=
  s.ac.presentation = s.ac.access.presentation ∧ s.atr.volume = s.ac.presentation

/-- The cipher key register holds a key only while UNLOCKED (R56). -/
abbrev State.KeyOk (s : State) : Prop := s.ce.key.isSome → s.ac.access.unlocked = true

/-- The session media key holder holds a key only in ADMIN.SESSION (R89, R124). -/
abbrev State.SessionKeyOk (s : State) : Prop := s.cu.sessionKey.isSome → s.ac.access = .adminSession

/-- The key FIFO holds at most 6 entries (R104). -/
abbrev State.FifoOk (s : State) : Prop := s.kps.fifo.length ≤ 6

/-- The refusal queue holds at most 4 records (R19). -/
abbrev State.RefusalsOk (s : State) : Prop := s.uli.refusals.length ≤ 4

/-- The digit stack holds at most 15 digits (R106). -/
abbrev State.StackOk (s : State) : Prop := s.ecp.stack.length ≤ 15

/-- No two records of the table hold one tag (R21, R22). -/
abbrev State.TagsOk (s : State) : Prop := (s.txns.map Txn.tag).Nodup

/-- No two unit jobs are bound to one buffer (R42). -/
abbrev State.BuffersOk (s : State) : Prop := (s.ubp.jobs.map Job.buf).Nodup

/-- A data unit is held by at most one unit job, abandoned or not (R45). -/
abbrev State.UnitsOk (s : State) : Prop := (s.ubp.jobs.map Job.unit).Nodup

/-- How many jobs not abandoned belong to the transaction of a tag (R44). -/
def State.jobsOf (s : State) (t : Fin 16) : Nat := (s.ubp.jobs.filter (fun j => j.isOf t)).length

/-- At most four jobs that are not abandoned belong to one transaction, the jobs-held field of its record counts them, and
every such job's transaction stands in the table (R43, R44). -/
abbrev State.HeldOk (s : State) : Prop :=
  (∀ x ∈ s.txns, x.jobsHeld = s.jobsOf x.tag ∧ s.jobsOf x.tag ≤ 4) ∧
  ∀ j ∈ s.ubp.jobs, j.abandoned = false → (s.txn? j.owner).isSome = true

/-- No two slots of the downstream link hold one dtag (R65). -/
abbrev State.SlotsOk (s : State) : Prop := (s.dli.slots.map Slot.dtag).Nodup

/-- No ACTIVE record has a failure recorded (R23: a failure moves it on in the same event). -/
abbrev State.ActiveOk (s : State) : Prop := ∀ x ∈ s.txns, x.phase = .active → x.failure = none

/-- The active table is ADMIN exactly in ADMIN.SESSION (R106). -/
abbrev State.TableOk (s : State) : Prop := (s.ecp.adminTable = true ↔ s.ac.access = .adminSession)

/-- The source requests (R152, R160). -/
def State.requests (s : State) : Source → Prop
  | .fault => s.power = .running ∧ (s.dli.media = .unusable ∨ s.dli.media = .absent)
  | .verdict => ∃ v, s.ind.slot = some (.verdict v)
  | .sweep => s.swu.state ≠ .idle
  | .lockout => s.ac.standby = false ∧ s.ac.access = .lockout
  | .entry => s.ac.standby = false ∧
    (s.ac.access = .lockedEntry ∨ s.ac.access = .lockedAdminEntry ∨ s.ac.access = .adminSession)
  | .activity => s.ind.slot = some .activity
  | .base => True

/-- The shown source requests, and none of higher priority does (R155). -/
def State.ShownOk (s : State) : Prop :=
  s.requests s.ind.shown ∧ ∀ x, s.requests x → s.ind.shown.priority ≤ x.priority

/-- The pattern a source shows (R153, R154): a brief source the pattern of the slot; BASE nothing before the AC has chosen
its initial state (R160). -/
def State.patternOf (s : State) : Source → Pattern
  | .fault => .fault
  | .verdict | .activity => .brief
  | .sweep => .sweep
  | .lockout => .lockout
  | .entry => if s.ac.access = .adminSession then .entryAdmin else .entryUnlock
  | .base =>
    if s.ac.standby = true ∨ s.ac.access = .starting then .baseDark
    else match s.ac.access.reported with
      | .blank => .baseBlue
      | .unlocked => .baseGreen
      | _ => .baseRed

/-- The slot condition is SUSPENDED exactly while a source of higher priority than the slot's requests (R155), and the
pattern is the shown source's, within its period (R151, R153). -/
structure State.PatternOk (s : State) : Prop where
  condition : s.ind.suspended = true ↔
    ∃ b x, s.ind.slot = some b ∧ s.requests x ∧ x.priority < b.source.priority
  pattern : s.ind.pattern = s.patternOf s.ind.shown
  phase : s.ind.elapsed = 0 ∨ s.ind.elapsed < s.ind.pattern.period

/-- The owners of the operations requested, issued, or completed ERROR and not yet taken, but for those of no owner. -/
def State.opOwners (s : State) : List Owner :=
  (s.dli.requests.map DReq.owner ++ s.dli.slots.map Slot.owner ++ s.dli.errors.map PendingError.owner).filter
    (fun o => o != .nobody)

/-- The request list is in keeping with its owners: no owner has two operations (R66); a request is its job's page
operation, REQUESTED in MEDIA_READ or MEDIA_WRITE (R52), a slot's job has it ISSUED on that dtag, and no job ends before its
ERROR completion is taken; a FLUSH asks for its SYNC while it is ACTIVE, waits on none that is marked, and is not DONE while
it is issued (R23, R76, R77); the sweep's DISCARD is outstanding (R143); no FLUSH has a transfer count (R7, R22); and a
COMPLETE is sent for a DONE record of the table (R28). -/
structure State.RequestsOk (s : State) : Prop where
  owners : s.opOwners.Nodup
  named : ∀ r ∈ s.dli.requests, r.owner ≠ .nobody
  jobRequests : ∀ r ∈ s.dli.requests, ∀ b, r.owner = .job b → ∃ j, s.job? b = some j ∧ j.pageOp = .requested ∧
    ((j.state = .mediaRead ∧ r.op = .pageRead j.unit) ∨ (j.state = .mediaWrite ∧ r.op = .pageWrite j.unit))
  jobSlots : ∀ z ∈ s.dli.slots, ∀ b, z.owner = .job b → ∃ j, s.job? b = some j ∧ j.pageOp = .issued z.dtag ∧
    ((j.state = .mediaRead ∧ z.op = .pageRead j.unit) ∨ (j.state = .mediaWrite ∧ z.op = .pageWrite j.unit))
  jobErrors : ∀ e ∈ s.dli.errors, ∀ b, e.owner = .job b → ∃ j, s.job? b = some j ∧
    ((j.state = .mediaRead ∧ e.op = .pageRead j.unit) ∨ (j.state = .mediaWrite ∧ e.op = .pageWrite j.unit))
  syncs : ∀ f, .flush f ∈ s.opOwners → ∃ x, s.txn? f = some x ∧ x.kind = .flush ∧ x.phase ≠ .done ∧
    (s.syncIssued f = false → x.phase = .active) ∧ ∀ b, x.marks b = false
  sweep : .sweep ∈ s.opOwners → s.swu.discardOut = true
  flushes : ∀ x ∈ s.txns, x.kind = .flush → x.transfer = none
  sending : ∀ f, s.uli.output = .complete f → ∃ x, s.txn? f = some x ∧ x.phase = .done

/-- The write in flight is the oldest request's (R122): none with the write queue empty; else the record that request names,
its fields those the request carries and the image's for the others, with the check value over them. -/
structure State.WritingOk (s : State) : Prop where
  idle : s.ks.queue = [] → s.ks.writing = none
  cred : ∀ q more i f, s.ks.queue = q :: more → q.body = .cred i f →
    s.ks.writing = some (.cred i { fields := f, check := Config.credCheck f })
  dev : ∀ q more u, s.ks.queue = q :: more → q.body = .dev u → ∃ r, s.ks.writing = some (.dev r) ∧
    r.check = Config.devCheck r.fields ∧
    r.fields.failures = u.failures.getD s.ks.dev.fields.failures ∧
    r.fields.limit = u.limit.getD s.ks.dev.fields.limit ∧
    r.fields.autoLock = u.autoLock.getD s.ks.dev.fields.autoLock ∧
    r.fields.readOnly = u.readOnly.getD s.ks.dev.fields.readOnly ∧
    r.fields.lockOnStandby = u.lockOnStandby.getD s.ks.dev.fields.lockOnStandby ∧
    r.fields.eraseCount = u.eraseCount.getD s.ks.dev.fields.eraseCount ∧
    r.fields.erasePending = u.erasePending.getD s.ks.dev.fields.erasePending ∧
    r.fields.cursor = u.cursor.getD s.ks.dev.fields.cursor ∧
    r.fields.degraded = u.degraded.getD s.ks.dev.fields.degraded ∧
    r.fields.rebuilt = u.rebuilt.getD s.ks.dev.fields.rebuilt

/-- Until the key-store reading completes nothing has been taken: the table and the unit jobs are empty, nothing is asked of
the link or of the key store, and the sweep is IDLE (R163). -/
abbrev State.ReadingOk (s : State) : Prop :=
  s.power = .reading → s.txns = [] ∧ s.ubp.jobs = [] ∧ s.dli.slots = [] ∧ s.dli.requests = [] ∧ s.dli.errors = [] ∧
    s.ks.queue = [] ∧ s.swu.state = .idle

/-- A WRITE job has received all its data (R51). -/
def Job.HasAllData (j : Job) : Prop := j.state = .encryptWait ∨ j.state = .encrypting ∨ j.state = .mediaWrite

/-- The two jobs, neither abandoned, belong to one transaction (R43). -/
def Job.WithOf (j k : Job) : Prop := j.owner = k.owner ∧ j.abandoned = false ∧ k.abandoned = false

/-- Data is asked for in ascending order: below a job in DATA_WAIT every job of its transaction has all its data, so one at
most of a transaction is in DATA_WAIT (R30, R51); and a transaction's jobs lie below its next unit (R47). -/
structure State.WaitsOk (s : State) : Prop where
  lower : ∀ k ∈ s.ubp.jobs, k.state = .dataWait → ∀ j ∈ s.ubp.jobs, j.WithOf k → j.unit < k.unit → j.HasAllData
  one : ∀ k ∈ s.ubp.jobs, k.state = .dataWait → ∀ j ∈ s.ubp.jobs, j.WithOf k → j.state = .dataWait → j = k
  next : ∀ x ∈ s.txns, ∀ j ∈ s.ubp.jobs, j.isOf x.tag = true → ∃ u, x.nextUnit = some u ∧ j.unit < u

/-- The safe states. -/
structure State.Safe (s : State) : Prop where
  memory : s.MemoryOk
  presentation : s.PresentationOk
  key : s.KeyOk
  sessionKey : s.SessionKeyOk
  fifo : s.FifoOk
  refusals : s.RefusalsOk
  stack : s.StackOk
  tags : s.TagsOk
  buffers : s.BuffersOk
  units : s.UnitsOk
  held : s.HeldOk
  slots : s.SlotsOk
  active : s.ActiveOk
  table : s.TableOk
  shown : s.ShownOk
  pattern : s.PatternOk
  requests : s.RequestsOk
  waits : s.WaitsOk
  reading : s.ReadingOk
  writing : s.WritingOk

/-! ## What the statements say of a state -/

/-- The ULI takes the next request record as it arrives: the part runs and nothing holds requests back (R19, R163). -/
abbrev State.TakesRequests (s : State) : Prop := s.power = .running ∧ s.holdsRequests = false

/-- The ECP takes the entry `e` at the head of the FIFO next (R106). -/
abbrev State.TakesEntry (s : State) (e : KeyEntry) (rest : List KeyEntry) : Prop :=
  s.power = .running ∧ s.ecp.ready = true ∧ s.ac.standby = false ∧ s.kps.fifo = e :: rest

/-- The verdict `v` is given between `s` and `t` (R99, R156): AWAKE with the slot empty or under ACTIVITY it enters the slot
with 15 ticks; behind a verdict in the slot it becomes the pending verdict, replacing one there, and the slot is not touched;
in STANDBY it becomes the held verdict, and the slot is not touched. No activity rest is started. -/
structure State.Gives (s t : State) (v : Verdict) : Prop where
  entered : s.ac.standby = false → (∀ w, s.ind.slot ≠ some (.verdict w)) →
    t.ind.slot = some (.verdict v) ∧ t.ind.remaining = 15 ∧ t.ind.pendingVerdict = s.ind.pendingVerdict ∧
    t.ac.held = s.ac.held
  behind : s.ac.standby = false → ∀ w, s.ind.slot = some (.verdict w) →
    t.ind.slot = s.ind.slot ∧ t.ind.remaining = s.ind.remaining ∧ t.ind.pendingVerdict = some v ∧
    t.ac.held = s.ac.held
  held : s.ac.standby = true →
    t.ind.slot = s.ind.slot ∧ t.ind.remaining = s.ind.remaining ∧ t.ind.pendingVerdict = s.ind.pendingVerdict ∧
    t.ac.held = some v
  rest : t.ind.rest = s.ind.rest

/-- No verdict is given and no ACTIVITY shown: the slot, its count, the pending and the held verdict stay. -/
abbrev State.GivesNone (s t : State) : Prop :=
  t.ind.slot = s.ind.slot ∧ t.ind.remaining = s.ind.remaining ∧ t.ind.pendingVerdict = s.ind.pendingVerdict ∧
  t.ac.held = s.ac.held

/-- Nothing is reported to the AC, and no verdict given. -/
abbrev State.Unreported (s t : State) : Prop := t.ac = s.ac ∧ s.GivesNone t

/-- The entry carries no flag and is this key, shifted or not. -/
abbrev KeyEntry.Is (e : KeyEntry) (k : EntryKey) (shifted : Bool) : Prop :=
  e.key = k ∧ e.shifted = shifted ∧ e.chord = false ∧ e.overrun = false

/-- The dtag's slot holds this operation for this owner. -/
abbrev State.InSlot (s : State) (d : Byte) (op : DOp) (o : Owner) : Prop :=
  d.toNat ≤ 3 ∧ s.dli.slots.find? (fun x => x.dtag == Fin.ofNat 4 d.toNat) =
    some { dtag := Fin.ofNat 4 d.toNat, op := op, owner := o }

/-- The request waits in the list, or stands in a slot. -/
abbrev State.Asked (s : State) (op : DOp) (o : Owner) : Prop :=
  (∃ r ∈ s.dli.requests, r.op = op ∧ r.owner = o) ∨ ∃ x ∈ s.dli.slots, x.op = op ∧ x.owner = o

/-- What a record keeps from one event to the next (R7, R23, R24, R25): its terms, its recorded failure, the sectors
counted, and, once DONE, its phase and outcome. -/
def Txn.Keeps (x y : Txn) : Prop :=
  y.tag = x.tag ∧ y.kind = x.kind ∧ y.volume = x.volume ∧ y.lba = x.lba ∧ y.requested = x.requested ∧
  y.transfer = x.transfer ∧ x.done ≤ y.done ∧ (x.failure.isSome → y.failure = x.failure) ∧
  (x.phase = .done → y.phase = .done ∧ y.outcome = x.outcome ∧ y.failure = x.failure) ∧
  (x.phase = .draining → y.phase ≠ .active)

/-- A record without the two fields that a buffer allocation advances, its next unit and its jobs held (R47): what is left
is untouched by an event that concerns another transaction. -/
def Txn.fixedPart (x : Txn) : Txn := { x with nextUnit := none, jobsHeld := 0 }

/-- Every record but the one of this tag keeps its failure, its phase and its count (R24, R25). -/
def State.OthersKept (s t : State) (tag : Fin 16) : Prop :=
  ∀ x ∈ s.txns, x.tag ≠ tag → ∃ y ∈ t.txns, y.tag = x.tag ∧ y.failure = x.failure ∧ y.phase = x.phase ∧ y.done = x.done

/-- What has joined the write queue behind the requests of `l` is the SWU's (R122). -/
abbrev State.OnlySweepAsks (t : State) (l : List KsReq) : Prop :=
  ∃ more, t.ks.queue = l ++ more ∧ ∀ r ∈ more, r.bySweep = true

/-- The CU asks for no key-store write in this event (R122). -/
abbrev State.NoCuWrite (s t : State) : Prop := t.OnlySweepAsks s.ks.queue

/-- The CU's request of this write stands in the write queue (R122). -/
abbrev State.CuAsks (t : State) (b : KsBody) : Prop := { bySweep := false, body := b } ∈ t.ks.queue

/-- The CU is done: its work is IDLE and the ECP is READY (R106, R125). -/
abbrev State.CuDone (t : State) : Prop := t.cu.work = .idle ∧ t.ecp.ready = true

/-- An unlock is refused under the conditions of R85, with this lock-on-standby policy. -/
abbrev State.UnlockRefused (s : State) (lockOnStandby : Bool) : Prop :=
  s.ac.lossSeen = true ∨ s.dli.media ≠ .ok ∨ (s.ac.standby = true ∧ lockOnStandby = true)

/-- What the emptying of the table leaves of the unit jobs (R39, R40, R63): those abandoned already, those in MEDIA_WRITE and
those whose page read is issued, each abandoned, in its buffer and on its unit. A job of no transaction that the CE works on,
which no run has, is not spoken of. -/
def State.JobsEmptied (s t : State) : Prop :=
  (∀ k ∈ t.ubp.jobs, k.abandoned = true ∧ ∃ j ∈ s.ubp.jobs, j.buf = k.buf ∧ j.unit = k.unit ∧ j.state = k.state ∧
    (j.abandoned = true ∨ j.state = .mediaWrite ∨ (j.state = .mediaRead ∧ ∃ d, j.pageOp = .issued d))) ∧
  ∀ j ∈ s.ubp.jobs, (j.state = .mediaWrite ∨ (j.state = .mediaRead ∧ (j.abandoned = true ∨ ∃ d, j.pageOp = .issued d))) →
    ∃ k ∈ t.ubp.jobs, k.buf = j.buf ∧ k.unit = j.unit ∧ k.state = j.state

/-- The job of a failed transaction that stays with it (R60). -/
def Job.staysAtFailure (j : Job) : Bool := j.state == .mediaWrite || j.state == .delivering

/-- The job of a failed transaction that becomes abandoned (R60): its page read is issued. -/
def Job.isIssuedRead (j : Job) : Bool :=
  j.state == .mediaRead && match j.pageOp with
    | .issued _ => true
    | _ => false

/-- What a failure of the transaction `tag` leaves of the unit jobs (R60): of its own, an issued page read is abandoned, a
job in MEDIA_WRITE or DELIVERING stays with it, and any other has ended, its buffer free or given to another transaction and
no request of it left; and every other job goes on. The page operation of a job left may have been issued since. -/
def State.JobsDisposed (s t : State) (tag : Fin 16) : Prop :=
  (∀ j ∈ s.ubp.jobs, j.isOf tag = true →
    (j.isIssuedRead = true → ∃ k ∈ t.ubp.jobs, { k with pageOp := j.pageOp } = { j with abandoned := true }) ∧
    (j.staysAtFailure = true → ∃ k ∈ t.ubp.jobs, { k with pageOp := j.pageOp } = j) ∧
    (j.isIssuedRead = false → j.staysAtFailure = false → (∀ k ∈ t.ubp.jobs, k.buf = j.buf → k.owner ≠ tag) ∧
      ((∀ k ∈ t.ubp.jobs, k.buf ≠ j.buf) → ∀ r ∈ t.dli.requests, r.owner ≠ .job j.buf))) ∧
  ∀ j ∈ s.ubp.jobs, j.isOf tag = false →
    ∃ k ∈ t.ubp.jobs, k.buf = j.buf ∧ k.owner = j.owner ∧ k.unit = j.unit ∧ k.abandoned = j.abandoned

/-- The transaction has work that a failure leaves it waiting on (R23): a job in MEDIA_WRITE, a SYNC issued and not yet
ended, or a READ_DATA record whose sending has begun. -/
def State.KeepsWork (s : State) (tag : Fin 16) : Prop :=
  (∃ j ∈ s.ubp.jobs, j.owner = tag ∧ j.abandoned = false ∧ j.state = .mediaWrite) ∨
  (∃ z ∈ s.dli.slots, z.owner = .flush tag) ∨ (∃ e ∈ s.dli.errors, e.owner = .flush tag ∧ e.issued = true) ∨
  s.uli.output = .delivery tag ∨ s.uli.output = .overlay tag

/-- Where a failure takes the phase of a record (R23): DRAINING with work kept, else DONE at once with the outcome `o`. -/
def Txn.MovesOn (y : Txn) (keeps : Prop) (o : Result) : Prop :=
  (keeps → y.phase = .draining) ∧ (¬ keeps → y.phase = .done ∧ y.outcome = some o)

/-- The state less what is bound to a buffer, whose job ends. -/
def State.lessBuffer (s : State) (b : Fin 8) : State :=
  { s with ubp := { s.ubp with jobs := s.ubp.jobs.filter (fun k => k.buf != b) } }

/-- The state less the slot of a dtag, whose operation ends. -/
def State.lessSlot (s : State) (d : Byte) : State :=
  { s with dli := { s.dli with slots := s.dli.slots.filter (fun z => z.dtag != Fin.ofNat 4 d.toNat) } }

/-- The state less the holder of the upstream output, whose record has been sent. -/
def State.lessOutput (s : State) : State := { s with uli := { s.uli with output := .free } }

/-- The state less an ERROR completion, which is taken. -/
def State.lessError (s : State) (e : PendingError) : State :=
  { s with dli := { s.dli with errors := s.dli.errors.erase e } }

/-- Each ACTIVE FLUSH whose mark held only the page write of the buffer `b`, which has ended, has asked for its SYNC, or has
the ERROR completion of it where the media is not OK (R66, R75, R76). -/
def State.SyncsAsked (s t : State) (b : Fin 8) : Prop :=
  ∀ z ∈ s.txns, z.kind = .flush → z.phase = .active → ∀ m, z.flushMark = some m → b ∈ m → (∀ c ∈ m, c = b) →
    (s.dli.media = .ok → t.Asked .sync (.flush z.tag)) ∧
    (s.dli.media ≠ .ok → { op := .sync, owner := .flush z.tag, issued := false } ∈ t.dli.errors)

/-- A record without its flush mark and the two fields that a buffer allocation advances: what the end of an abandoned job's
operation leaves of every record (R61, R75). -/
def Txn.unmarkedPart (x : Txn) : Txn := { x.fixedPart with flushMark := none }

/-- The end of an abandoned job in the buffer `b` (R61): its buffer is free or given to another, no record is touched but in
its mark and by a buffer given to it, and no ACTIVITY is requested. -/
def State.EndsAbandoned (s t : State) (b : Fin 8) : Prop :=
  (∀ k ∈ t.ubp.jobs, k.buf = b → k.abandoned = false) ∧ t.txns.map Txn.unmarkedPart = s.txns.map Txn.unmarkedPart ∧
  t.ind.slot = s.ind.slot ∧ t.ind.pendingVerdict = s.ind.pendingVerdict

/-- The request outlives the emptying of the table (R78): the sweep's, or one of a job that is abandoned or in
MEDIA_WRITE. -/
def State.Outlives (s : State) (r : DReq) : Prop :=
  r.owner = .sweep ∨ ∃ b j, r.owner = .job b ∧ s.job? b = some j ∧ (j.abandoned = true ∨ j.state = .mediaWrite)

/-- The owner of an operation issued, after the emptying: none for the SYNC of a removed FLUSH (R65, R78). -/
def ownerAfterEmptying : Owner → Owner
  | .flush _ => .nobody
  | o => o

/-- What the emptying of the table leaves of the downstream link (R65, R78): each slot keeps its dtag and operation, its
owner as the emptying leaves it; the requests that outlive it wait on or are issued at once, and the others are withdrawn; of what is asked
for or issued besides there is only the sweep's DISCARD, which the emptied table may let go. -/
structure State.LinkEmptied (s t : State) : Prop where
  slots : ∃ l, t.dli.slots = s.dli.slots.map (fun z => { z with owner := ownerAfterEmptying z.owner }) ++ l ∧
    ∀ z ∈ l, z.owner = .sweep ∨ ∃ r ∈ s.dli.requests, r.op = z.op ∧ r.owner = z.owner ∧ s.Outlives r
  kept : ∀ r ∈ s.dli.requests, s.Outlives r → t.Asked r.op r.owner
  requests : ∀ q ∈ t.dli.requests, q.owner = .sweep ∨ (q ∈ s.dli.requests ∧ s.Outlives q)

/-- The entry of a shift hold that ends between the keypad of `s` and `k` (R103): a SHIFT_TAP after a clean hold, else none. -/
def State.tapOf (s : State) (k : Kps) : List KeyEntry :=
  if s.kps.hold = some true ∧ downAt s.kps.keys 9 = true ∧ downAt k.keys 9 = false
  then [{ key := .shiftTap, shifted := false, chord := false, overrun := false }] else []

/-- At a loss of the media each operation issued and each request is completed ERROR toward its owner, which takes it as its
own event (R73): each of them where OVERLAY is presented, when no lock event follows; else each but for a request whose job
or FLUSH the lock event of the loss has ended (R60, R77). -/
structure State.LossCompleted (s t : State) : Prop where
  unlocked : s.ac.presentation = .overlay →
    (∀ z ∈ s.dli.slots, z.owner ≠ .nobody → { op := z.op, owner := z.owner, issued := true } ∈ t.dli.errors) ∧
    ∀ r ∈ s.dli.requests, { op := r.op, owner := r.owner, issued := false } ∈ t.dli.errors
  locked : s.TagsOk → s.BuffersOk → s.RequestsOk →
    (∀ z ∈ s.dli.slots, z.owner ≠ .nobody → { op := z.op, owner := z.owner, issued := true } ∈ t.dli.errors) ∧
    ∀ r ∈ s.dli.requests, { op := r.op, owner := r.owner, issued := false } ∈ t.dli.errors ∨
      (∃ b j, r.owner = .job b ∧ s.job? b = some j ∧ j.state = .mediaRead ∧
        ∀ k ∈ t.ubp.jobs, k.buf = b → k.owner ≠ j.owner) ∨
      ∃ f y, r.owner = .flush f ∧ t.txn? f = some y ∧ y.failure = some (.volumeChanged .mediaLost)

/-- No owner of an operation issued or requested in `s` has a slot or a request in `t`: what the link then holds has been
asked for since (R73). -/
def State.LinkFreed (s t : State) : Prop :=
  ∀ o, o ∈ s.dli.slots.map Slot.owner ∨ o ∈ s.dli.requests.map DReq.owner →
    (∀ z ∈ t.dli.slots, z.owner ≠ o) ∧ ∀ r ∈ t.dli.requests, r.owner ≠ o

/-- The window of the sweep at `c` has been made due with U = `u` and the media OK (R141, R147): its DISCARD is asked for
while `c` lies below U; else the cursor is set to U and the NONE write is asked for. -/
def State.WindowDue (t : State) (c u : Nat) : Prop :=
  (c < u → t.swu.cursor = some c ∧ t.swu.discardOut = true ∧ t.Asked (.discard c (min 256 (u - c))) .sweep) ∧
  (u ≤ c → t.swu.cursor = some u ∧ t.swu.writeOut = true ∧
    { bySweep := true, body := .dev { DevUpdate.none with cursor := some none } } ∈ t.ks.queue)

/-- The result of a DISCARD of an earlier pass is dropped (R142, R148): it moves nothing of the sweep, and a new pass that it
held back makes its first window due, or is PAUSED where the media is not OK. -/
structure State.ResultDropped (s t : State) : Prop where
  kept : t.swu.dropResult = false ∧ t.swu.retry = s.swu.retry ∧ t.swu.hold = s.swu.hold
  since : (∀ b u, s.swu.cursor = some b → s.dli.usable = some u → b < u) → t.swu.since = s.swu.since
  nothing : s.swu.state ≠ .issuing → t.swu = { s.swu with discardOut := false, dropResult := false } ∧ t.ks = s.ks
  due : ∀ b u, s.swu.state = .issuing → s.swu.hold = false → s.swu.cursor = some b → s.dli.usable = some u → b < u →
    s.dli.media = .ok → s.userOps = 0 → (∀ x ∈ s.txns, x.volume ≠ .user) →
    t.swu.cursor = some b ∧ t.swu.discardOut = true ∧ t.Asked (.discard b (min 256 (u - b))) .sweep
  paused : s.swu.state = .issuing → s.dli.media ≠ .ok → s.userOps = 0 →
    t.swu = { s.swu with state := .paused, discardOut := false, dropResult := false } ∧ t.ks = s.ks

/-! ## What goes out on the downstream link -/

/-- The frame that carries a slot's operation to the flash controller (R64, R173): a PAGE_WRITE carries the 4096 bytes in
the buffer of the job it is for. -/
def State.frameOf (s : State) (z : Slot) : DownRecord :=
  match z.op, z.owner with
  | .pageRead p, _ => .pageRead z.dtag p
  | .pageWrite p, .job b => .pageWrite z.dtag p ((List.range 4096).map (fun i => Memory.read s.ubp.mem (4096 * b.val + i)))
  | .pageWrite p, _ => .pageWrite z.dtag p []
  | .discard f c, _ => .discard z.dtag f c
  | .sync, _ => .sync z.dtag

/-- Each operation issued between `s` and `t`, where the slots `kept` stayed occupied, has been sent as one frame with its
slot's dtag, in the order of issue (R65, R173), and nothing else has been sent. -/
def State.FramesSent (s t : State) (kept : List Slot) : Prop :=
  ∃ l : List Slot, t.dli.slots = kept ++ l ∧ t.dli.sent = (l.map t.frameOf).reverse ++ s.dli.sent

/-! ## What is served first -/

/-- The transaction a holder of the upstream output sends for. -/
def Output.holder : Output → Option (Fin 16)
  | .free | .refusal => none
  | .complete t | .dataWanted t | .delivery t | .overlay t => some t

/-- A transaction has an item ready for the upstream output (R29): it is DONE, or a WRITE of it waits for data that is not
yet asked for (R30), or a READ job of it may deliver (R54), or it is the oldest ACTIVE overlay READ (R14). -/
def State.HasItem (s : State) (x : Txn) : Prop :=
  x.phase = .done ∨ (x.phase = .active ∧
    ((x.kind = .write ∧ (s.waitingJob x.tag).isSome = true ∧ s.intake? x.tag = none) ∨
      (x.kind = .read ∧ x.volume = .user ∧ (s.deliverable x.tag).isSome = true) ∨
      (x.kind = .read ∧ x.volume = .overlay ∧
        ∀ y ∈ s.older x.tag, ¬ (y.kind = .read ∧ y.volume = .overlay ∧ y.phase = .active))))

/-- The upstream output has just been granted (R29): to the oldest refusal if there is one, else to a transaction older than
which none has an item ready; free only when no item is ready. -/
def State.GrantedInOrder (t : State) : Prop :=
  (t.uli.output = .refusal ↔ t.uli.refusals ≠ []) ∧
  (∀ f, t.uli.output.holder = some f → ∀ y ∈ t.older f, ¬ t.HasItem y) ∧
  (t.uli.output = .free → ∀ y ∈ t.txns, ¬ t.HasItem y)

/-- A transaction waits for a buffer that R46 lets it have: an ACTIVE READ or WRITE on USER with fewer than four jobs, whose
next unit no job holds and no older transaction is yet to finish with (R45, R46). -/
def State.WantsBuffer (s : State) (x : Txn) : Prop :=
  (x.kind = .read ∨ x.kind = .write) ∧ x.volume = .user ∧ x.phase = .active ∧ x.jobsHeld < 4 ∧
  ∃ u, x.next? = some u ∧ (∀ j ∈ s.ubp.jobs, j.unit ≠ u) ∧ ∀ y ∈ s.older x.tag, y.coversLater u = false

/-- The buffers given out between `s` and `t` went to the oldest that wanted one (R46): older than the transaction of a job
that has started, none wants a buffer; and none wants one while a buffer is free. -/
def State.BuffersInOrder (s t : State) : Prop :=
  (∀ k ∈ t.ubp.jobs, (∀ j ∈ s.ubp.jobs, ¬ (j.buf = k.buf ∧ j.owner = k.owner ∧ j.unit = k.unit)) →
    ∀ y ∈ t.older k.owner, ¬ t.WantsBuffer y) ∧
  ((∃ b : Fin 8, ∀ j ∈ t.ubp.jobs, j.buf ≠ b) → ∀ y ∈ t.txns, ¬ t.WantsBuffer y)

/-- The jobs of a transaction in buffers that no job of `kept` holds: those started since, in the order of their start. -/
def State.started (t : State) (kept : List Job) (tag : Fin 16) : List Job :=
  t.ubp.jobs.filter (fun k => k.owner == tag && kept.all (fun j => j.buf != k.buf))

/-- The jobs started for the transaction `y`, the jobs of `kept` being left, are what R47 says: on the units from its next
unit `next` on, which rises by their number as its jobs held does from `held`; each with the first offset, the count and the
kind of the split (R9, R10); a WRITE_FULL in DATA_QUEUE or on to DATA_WAIT, any other in MEDIA_READ with its page read
requested, which is completed ERROR where it cannot be placed (R52, R66). -/
structure State.StartedRight (t : State) (kept : List Job) (y : Txn) (next : Option Nat) (held : Nat) : Prop where
  units : y.nextUnit = next.map (· + (t.started kept y.tag).length)
  holds : y.jobsHeld = held + (t.started kept y.tag).length
  jobs : ∀ i k, (t.started kept y.tag)[i]? = some k → ∀ lba m, y.lba = some lba → y.transfer = some m → 1 ≤ m →
    next = some (k.unit - i) ∧ i ≤ k.unit ∧ k.sent = 0 ∧ k.abandoned = false ∧
    k.first.val = (if k.unit = lba / 8 then lba % 8 else 0) ∧
    k.first.val + k.count = (if k.unit = (lba + m - 1) / 8 then (lba + m - 1) % 8 + 1 else 8) ∧
    k.kind = (if y.kind = .read then .read else if k.count = 8 then .writeFull else .writeMerge) ∧
    (k.kind = .writeFull → k.state = .dataQueue ∨ k.state = .dataWait) ∧
    (k.kind ≠ .writeFull → k.state = .mediaRead ∧
      (t.dli.media = .ok → k.unit < t.dli.usable.getD 0 → t.Asked (.pageRead k.unit) (.job k.buf)) ∧
      (t.dli.media ≠ .ok ∨ t.dli.usable.getD 0 ≤ k.unit →
        { op := .pageRead k.unit, owner := .job k.buf, issued := false } ∈ t.dli.errors))

/-- The jobs that have entered DATA_WAIT between `s` and `t`, no buffer being freed, did so by R51: every lower job of the
transaction has all its data; and none is left in DATA_QUEUE of which that holds. -/
def State.WaitsInOrder (s t : State) : Prop :=
  (∀ k ∈ t.ubp.jobs, k.state = .dataWait → (∀ j ∈ s.ubp.jobs, j.buf = k.buf → j.state ≠ .dataWait) →
    ∀ j ∈ t.ubp.jobs, j.WithOf k → j.unit < k.unit → j.HasAllData) ∧
  ∀ k ∈ t.ubp.jobs, k.state = .dataQueue → k.abandoned = false →
    ∃ j ∈ t.ubp.jobs, j.WithOf k ∧ j.unit < k.unit ∧ ¬ j.HasAllData

/-- The jobs that have entered DELIVERING between `s` and `t` are on the lowest unit their transaction holds (R54). -/
def State.DeliversLowest (s t : State) : Prop :=
  ∀ k ∈ t.ubp.jobs, k.state = .delivering → (∀ j ∈ s.ubp.jobs, j.buf = k.buf → j.state ≠ .delivering) →
    ∀ j ∈ t.ubp.jobs, j.WithOf k → k.unit ≤ j.unit

/-- The job the CE has taken between `s` and `t` was the next of the cipher queue (R57): no job queued is of an older
transaction, or on a lower unit of its own; and with the key loaded and the CE idle no transaction's job is queued. -/
def State.CipherInOrder (s t : State) : Prop :=
  (∀ k ∈ t.ubp.jobs, k.ciphering = true → (∀ j ∈ s.ubp.jobs, j.buf = k.buf → j.ciphering = false) →
    ∀ q ∈ t.cipherQueue, (q.owner = k.owner → k.unit ≤ q.unit) ∧ ∀ y ∈ t.older k.owner, q.owner ≠ y.tag) ∧
  (t.ce.key.isSome = true → (∀ k ∈ t.ubp.jobs, k.ciphering = false) → ∀ q ∈ t.cipherQueue, ∀ y ∈ t.txns, q.owner ≠ y.tag)

/-- The requests issued between `s` and `t` were the slot arbiter's choices (R67, R68): of the page writes of abandoned jobs
the first made; a transaction's request only with none of those waiting, none of an older transaction and none of its own for
a lower unit; the DISCARD only with none of either waiting and no transaction on USER in the table. And with a slot free and
the media OK neither of the first two ranks waits. -/
def State.IssuedInOrder (s t : State) : Prop :=
  (∀ z ∈ t.dli.slots, z ∉ s.dli.slots → ∀ r : DReq, r = { op := z.op, owner := z.owner } →
    (t.isOrphanWrite r = true → ∀ pre post, s.dli.requests = pre ++ r :: post → r ∉ pre →
      ∀ q ∈ pre, q ∈ t.dli.requests → t.isOrphanWrite q = false) ∧
    (t.isOrphanWrite r = false → ∀ q ∈ t.dli.requests, t.isOrphanWrite q = false) ∧
    (∀ x ∈ t.txns, t.requestOf x.tag r = true → ∀ q ∈ t.dli.requests,
      (∀ y ∈ t.older x.tag, t.requestOf y.tag q = false) ∧ (t.requestOf x.tag q = true → r.op.page ≤ q.op.page)) ∧
    (z.owner = .sweep → (∀ x ∈ t.txns, x.volume ≠ .user) ∧
      ∀ q ∈ t.dli.requests, ∀ x ∈ t.txns, t.requestOf x.tag q = false)) ∧
  (t.dli.media = .ok → (∃ d : Fin 4, ∀ z ∈ t.dli.slots, z.dtag ≠ d) → ∀ q ∈ t.dli.requests,
    t.isOrphanWrite q = false ∧ ∀ x ∈ t.txns, t.requestOf x.tag q = false)

/-- The row's event can fail a transaction, count sectors for it or complete it. -/
def movesRecords : Instr → Bool
  | .powerOn | .powerLoss _ | .ksReadingComplete | .linkReset | .suspend | .resume | .refusalSent | .completeSent
  | .abort .. | .readDataSent | .overlayReadDataSent | .dataWaitExpiry _ | .pageReadCompletion ..
  | .pageWriteCompletion .. | .syncCompletion .. | .discardCompletion .. | .ident .. | .mediaLost _
  | .errorCompletionTaken _ | .keyTaken | .idleCounterExpiry | .verifyEnd | .ksWriteComplete => true
  | _ => false

/-- The row's event can take a record out of the table, or take more than one request (R28, R39, R163, R167). -/
def emptiesOrDrains : Instr → Bool
  | .powerOn | .powerLoss _ | .ksReadingComplete | .linkReset | .suspend | .resume | .refusalSent | .completeSent => true
  | _ => false

/-- The row's event can write a unit buffer (R31, R48, R58, R163, R167), or take WRITE_DATA that waits on the link. -/
def writesBuffers : Instr → Bool
  | .writeData .. | .pageReadCompletion .. | .cipherCompletion => true
  | .powerOn | .powerLoss _ | .ksReadingComplete | .linkReset | .suspend | .resume | .refusalSent => true
  | _ => false

/-! ## Blocks, for the frames -/

/-- The pieces the part's state falls into for the frames. -/
inductive Block where
  | power
  | attn
  | refusals
  | intakes
  | output
  | link
  | sentUp
  | table
  | atr
  | jobs
  | memory
  | key
  | downstream
  | media
  | identWait
  | access
  | acTimers
  | idle
  | standby
  | keypad
  | composer
  | credential
  | medium
  | images
  | writeQueue
  | sweep
  | indicator
  | draws
  | pending
deriving DecidableEq, Repr

/-- The block holds in `t` what it holds in `s`. -/
def Block.same (s t : State) : Block → Prop
  | .power => t.power = s.power
  | .attn => t.uli.attn = s.uli.attn
  | .refusals => t.uli.refusals = s.uli.refusals
  | .intakes => t.uli.intakes = s.uli.intakes
  | .output => t.uli.output = s.uli.output
  | .link => t.uli.link = s.uli.link
  | .sentUp => t.uli.sent = s.uli.sent
  | .table => t.txns = s.txns
  | .atr => t.atr = s.atr
  | .jobs => t.ubp.jobs = s.ubp.jobs
  | .memory => t.ubp.mem = s.ubp.mem
  | .key => t.ce = s.ce
  | .downstream => t.dli.slots = s.dli.slots ∧ t.dli.requests = s.dli.requests ∧ t.dli.errors = s.dli.errors ∧
    t.dli.sent = s.dli.sent
  | .media => t.dli.media = s.dli.media ∧ t.dli.reported = s.dli.reported ∧ t.dli.usable = s.dli.usable ∧
    t.dli.clamped = s.dli.clamped
  | .identWait => t.dli.identWait = s.dli.identWait
  | .access => t.ac.access = s.ac.access ∧ t.ac.presentation = s.ac.presentation ∧
    t.ac.sessionSlot = s.ac.sessionSlot ∧ t.ac.scope = s.ac.scope ∧ t.ac.lossSeen = s.ac.lossSeen
  | .acTimers => t.ac.settle = s.ac.settle ∧ t.ac.lockout = s.ac.lockout ∧ t.ac.admin = s.ac.admin
  | .idle => t.ac.idle = s.ac.idle
  | .standby => t.ac.standby = s.ac.standby ∧ t.ac.changed = s.ac.changed ∧ t.ac.held = s.ac.held
  | .keypad => t.kps = s.kps
  | .composer => t.ecp = s.ecp
  | .credential => t.cu = s.cu
  | .medium => t.ks.nvm = s.ks.nvm
  | .images => t.ks.creds = s.ks.creds ∧ t.ks.dev = s.ks.dev
  | .writeQueue => t.ks.queue = s.ks.queue ∧ t.ks.writing = s.ks.writing
  | .sweep => t.swu = s.swu
  | .indicator => t.ind = s.ind
  | .draws => t.draws = s.draws
  | .pending => t.pending = s.pending

/-- What follows inside an event (`settle`) can change. -/
def Block.follow : List Block :=
  [.table, .output, .jobs, .downstream, .sweep, .writeQueue, .indicator]

/-- What a move of the AC can change (R80, R94, R110). -/
def Block.moves : List Block :=
  [.attn, .atr, .key, .access, .acTimers, .idle, .standby, .composer, .credential]

/-- The blocks a command can change. -/
def blocksOf : Instr → List Block
  | .powerOn | .powerLoss _ =>
    [.power, .attn, .refusals, .intakes, .output, .link, .table, .atr, .jobs, .memory, .key, .downstream, .media,
     .identWait, .access, .acTimers, .idle, .standby, .keypad, .composer, .credential, .medium, .images, .writeQueue,
     .sweep, .indicator, .draws]
  | .ksReadingComplete =>
    [.power, .refusals, .intakes, .link, .memory, .keypad, .images] ++ Block.moves ++ Block.follow
  | .tick => [.intakes, .identWait, .acTimers, .idle, .composer, .indicator]
  | .readRequest .. | .writeRequest .. | .flushRequest .. | .sizeRequest .. | .stateRequest .. | .abort ..
  | .unknownKindRequest .. => [.link, .refusals, .intakes, .idle] ++ Block.follow
  | .writeData .. => [.link, .intakes, .memory] ++ Block.follow
  | .linkReset | .suspend | .resume =>
    [.link, .refusals, .intakes, .memory, .keypad] ++ Block.moves ++ Block.follow
  | .refusalSent => [.sentUp, .link, .refusals, .intakes, .memory, .keypad] ++ Block.moves ++ Block.follow
  | .upstreamFrameDropped _ | .downstreamFrameDropped _ => []
  | .completeSent => [.sentUp, .attn] ++ Block.follow
  | .dataWantedSent => [.sentUp, .intakes] ++ Block.follow
  | .readDataSent | .overlayReadDataSent => .sentUp :: Block.follow
  | .dataWaitExpiry _ => .intakes :: Block.follow
  | .pageReadCompletion .. => [.memory, .intakes] ++ Block.follow
  | .pageWriteCompletion .. | .syncCompletion .. | .discardCompletion .. => .intakes :: Block.follow
  | .errorCompletionTaken _ => .intakes :: Block.follow
  | .ident .. | .mediaLost _ => [.media, .identWait, .intakes] ++ Block.moves ++ Block.follow
  | .identWaitExpiry => [.media, .identWait] ++ Block.follow
  | .cipherCompletion => .memory :: Block.follow
  | .keyEntryProduced | .shiftTapProduced => [.keypad, .idle]
  | .digitTaken | .shiftTapTaken | .keyTaken | .shiftedKeyTaken | .shiftedDigitTaken | .flaggedEntryTaken =>
    [.keypad, .intakes] ++ Block.moves ++ Block.follow
  | .entryTimeout | .settleTimerExpiry | .lockoutTimerExpiry | .adminSessionTimerExpiry | .idleCounterExpiry =>
    .intakes :: (Block.moves ++ Block.follow)
  | .verifyEnd => [.intakes, .draws] ++ Block.moves ++ Block.follow
  | .ksWriteComplete => [.intakes, .medium, .images] ++ Block.moves ++ Block.follow
  | .briefPatternRunout => Block.follow
  | .activityRestEnd | .patternClock => [.indicator]
  | .scan _ => [.keypad]

/-- The power-on values, block by block (R2, R5, R40, R56, R63, R65, R66, R79, R101, R106,
R125, R160). -/
structure State.AtPowerOn (s : State) : Prop where
  attn : s.uli.attn = { Attn.none with powerOn := true }
  line : s.attnLine = true
  table : s.txns = [] ∧ s.uli.refusals = [] ∧ s.uli.intakes = [] ∧ s.uli.output = .free
  jobs : s.ubp.jobs = []
  key : s.ce.key = none
  downstream : s.dli.slots = [] ∧ s.dli.requests = []
  media : s.dli.media = .unknown ∧ s.dli.reported = none ∧ s.dli.usable = none ∧ s.dli.clamped = false
  wait : s.dli.identWait = some 50
  presented : s.ac.presentation = .overlay ∧ s.atr = { volume := .overlay, highest := some 2047 }
  access : s.ac.sessionSlot = none ∧ s.ac.scope = none ∧ s.ac.lossSeen = false ∧ s.ac.settle = none ∧
    s.ac.admin = none ∧ s.ac.idle = none ∧ s.ac.standby = false ∧ s.ac.changed = false ∧ s.ac.held = none
  keypad : s.kps.scanning = true ∧ s.kps.keys = List.replicate 12 { down := false, run := 0 } ∧ s.kps.fifo = []
  composer : s.ecp.ready = true ∧ s.ecp.adminTable = false ∧ s.ecp.stack = [] ∧ s.ecp.overlong = false ∧
    s.ecp.copy = none ∧ s.ecp.command = none ∧ s.ecp.timer = none
  credential : s.cu.work = .idle ∧ s.cu.kind = none ∧ s.cu.digits = none ∧ s.cu.target = none ∧
    s.cu.result = none ∧ s.cu.sessionKey = none
  indicator : s.ind.slot = none ∧ s.ind.pendingVerdict = none ∧ s.ind.rest = none ∧ s.leds = Leds.dark

end Sys2Proof.Machine
end

