-- ==== Sys2Proof/Certificates/Slice0/Obligations.lean ====
section
/-! DEFINITION. The statements for the provers. Every statement speaks of every state that meets its hypotheses. -/

open Sys2Proof Sys2Proof.Machine

/-! ## The queue, and the whole machine -/

/-- A step runs the command at the front of the queue on the state with the queue's rest, and idles on an empty queue
(the model's own queue; notes/assumptions/13.md). -/
def Obligations.StepRunsFrontCommand : Prop :=
  (∀ (s : State) (c : Instr) (rest : List Instr),
    step { s with pending := c :: rest } = exec c { s with pending := rest }) ∧
  ∀ s : State, s.pending = [] → step s = .next s

/-- THE MODEL'S CHOICE, no rule of the spec: every command answers a next state in every state, also where its event is not
enabled, where it changes nothing (notes/assumptions/15.md), and without power or before the key-store reading
(notes/assumptions/10.md); and none touches the queue of pending commands, which is the model's own
(notes/assumptions/13.md). -/
def Obligations.EveryCommandCompletes : Prop :=
  ∀ (c : Instr) (s : State), ∃ t, exec c s = .next t ∧ t.pending = s.pending

/-- Before the key-store reading has completed the ULI takes nothing (request records, WRITE_DATA and link signals wait on
the link in the order they came) and the ECP takes no entry (R163, as notes/assumptions/10.md reads it). That without power
every command but POWER_ON leaves the state as it was is THE MODEL'S CHOICE (notes/assumptions/10.md). -/
def Obligations.NothingIsTakenBeforeRunning : Prop :=
  (∀ (c : Instr) (s : State), s.power = .off → c ≠ .powerOn → exec c s = .next s) ∧
  ∀ s : State, s.power = .reading →
    (∀ r : Request, exec (requestOf r.kind r.tag r.lba r.count) s =
      .next (s.setUli { s.uli with link := s.uli.link ++ [.request r] })) ∧
    (∀ tag sector, exec (.writeData tag sector) s =
      .next (s.setUli { s.uli with link := s.uli.link ++ [.writeData tag sector] })) ∧
    exec .linkReset s = .next (s.setUli { s.uli with link := s.uli.link ++ [.linkReset] }) ∧
    exec .suspend s = .next (s.setUli { s.uli with link := s.uli.link ++ [.suspend] }) ∧
    exec .resume s = .next (s.setUli { s.uli with link := s.uli.link ++ [.resume] }) ∧
    exec .digitTaken s = .next s ∧ exec .shiftTapTaken s = .next s ∧ exec .keyTaken s = .next s ∧
    exec .shiftedKeyTaken s = .next s ∧ exec .shiftedDigitTaken s = .next s ∧ exec .flaggedEntryTaken s = .next s

/-! ## Reset and invariants -/

/-- A step keeps the unit buffers in canonical form. -/
def Obligations.StepKeepsBuffersCanonical : Prop :=
  ∀ s t : State, s.MemoryOk → step s = .next t → t.MemoryOk

/-- After every step the presentation is the one the access sub-state gives, and the ATR holds it (R2, R80). -/
def Obligations.StepKeepsPresentation : Prop :=
  ∀ s t : State, s.PresentationOk → step s = .next t → t.PresentationOk

/-- The cipher key register holds a media key only while the access state is UNLOCKED, and the session media key holder
holds one only in ADMIN.SESSION (R56, R89, R124). -/
def Obligations.StepKeepsKeyRules : Prop :=
  ∀ s t : State, step s = .next t → (s.KeyOk → t.KeyOk) ∧ (s.SessionKeyOk → t.SessionKeyOk)

/-- At every moment the shown source requests, and no source of higher priority requests; the slot is SUSPENDED exactly
while a source of higher priority than its brief pattern's requests; and the pattern shown is the shown source's, within its
period (R151, R152, R153, R155). A source or a pattern newly shown starts at its first phase (R153). That FAULT requests only once
the part runs is DEDUCED from R160 and step 4 of R164 (notes/assumptions/23.md). -/
def Obligations.StepKeepsShownSource : Prop :=
  ∀ s t : State, step s = .next t →
    (s.ShownOk → t.ShownOk) ∧ (s.ShownOk → s.PatternOk → t.PatternOk) ∧
    (t.ind.shown ≠ s.ind.shown ∨ t.ind.pattern ≠ s.ind.pattern → t.ind.elapsed = 0)

/-- Each command changes only the blocks of the part that its rules touch (`blocksOf`); every other piece of state is
as before. -/
def Obligations.CommandsChangeOnlyTheirBlocks : Prop :=
  ∀ (c : Instr) (s t : State), exec c s = .next t → ∀ b : Block, b ∉ blocksOf c → b.same s t

/-- The key FIFO never holds more than 6 entries, the refusal queue more than 4 records, the digit stack more than 15
digits (R104, R19, R106). -/
def Obligations.StepKeepsQueueBounds : Prop :=
  ∀ s t : State, step s = .next t →
    (s.FifoOk → t.FifoOk) ∧ (s.RefusalsOk → t.RefusalsOk) ∧ (s.StackOk → t.StackOk)

/-- At most one record per tag, one job per buffer, one job per data unit and one operation per dtag; at most one operation
requested, issued or completed ERROR per owner, each in keeping with its owner's state; and, as long as a record whose
COMPLETE is sent holds no job, at most four jobs not abandoned belong to one transaction, its jobs-held field counting them,
and at most one of them is in DATA_WAIT, every lower one having all its data
(R22, R23, R30, R42, R44, R45, R51, R52, R65, R66). -/
def Obligations.StepKeepsTables : Prop :=
  ∀ s t : State, step s = .next t →
    (s.TagsOk → t.TagsOk) ∧ (s.BuffersOk → t.BuffersOk) ∧ (s.SlotsOk → t.SlotsOk) ∧ (s.UnitsOk → t.UnitsOk) ∧
    (s.TagsOk → s.BuffersOk → s.RequestsOk → t.RequestsOk) ∧
    (s.TagsOk → s.BuffersOk → s.HeldOk →
      (s.pending.head? = some .completeSent → ∀ tag, s.uli.output = .complete tag → s.jobsOf tag = 0) →
      t.HeldOk ∧ (s.UnitsOk → s.RequestsOk → s.WaitsOk → t.WaitsOk))

/-- No ACTIVE record has a failure recorded, and the active table is ADMIN exactly in SESSION, after every step
(R23, R106). -/
def Obligations.StepKeepsActiveAndTable : Prop :=
  ∀ s t : State, step s = .next t →
    (s.TagsOk → s.ActiveOk → t.ActiveOk) ∧ (s.TableOk → t.TableOk)

/-- A record keeps its terms, its first failure, its count of sectors and, once DONE, its outcome, through every well-formed
command but those that take records out of the table; and its failure, phase and count are untouched by every well-formed
command that no rule lets move a record (R7, R23, R24, R25). -/
def Obligations.TransactionsKeepTheirTerms : Prop :=
  ∀ (c : Instr) (s t : State), c.wf = true → s.TagsOk → emptiesOrDrains c = false → exec c s = .next t →
    ∀ x ∈ s.txns, ∃ y ∈ t.txns, Txn.Keeps x y ∧
      (movesRecords c = false → y.failure = x.failure ∧ y.phase = x.phase ∧ y.done = x.done)

/-- The lock event, at the five commands that can raise it in UNLOCKED (KEY taken, the idle counter's expiry, SUSPEND,
MEDIA_LOST and IDENT): where one of them takes the part out of UNLOCKED it clears the key register, presents OVERLAY, enters
LOCKED.IDLE, drops the session slot and the idle counter, and leaves no ACTIVE transaction on the user volume (R94). Shifted
KEY, which asks for a change where KEY would lock, is covered and raises none: the part stays in UNLOCKED, the key register
and every transaction's failure, phase and count as they were (R92, R93, R111). Of the other commands it says nothing. -/
def Obligations.LockEventWithdrawsUserVolume : Prop :=
  (∀ (c : Instr) (s t : State), s.power = .running → s.PresentationOk → s.TableOk → s.TagsOk → s.ActiveOk →
    (c = .keyTaken ∨ c = .shiftedKeyTaken ∨ c = .idleCounterExpiry ∨ c = .suspend ∨ (∃ l, c = .mediaLost l) ∨
      ∃ p l, c = .ident p l) →
    exec c s = .next t → s.ac.access.unlocked = true → t.ac.access.unlocked = false →
    t.ac.access = .lockedIdle ∧ t.ce.key = none ∧ t.ac.presentation = .overlay ∧
    t.atr = { volume := .overlay, highest := some 2047 } ∧ t.ac.sessionSlot = none ∧ t.ac.idle = none ∧
    t.ac.settle = none ∧ t.uli.attn.presentation = true ∧ ∀ x ∈ t.txns, x.volume = .user → x.phase ≠ .active) ∧
  ∀ s t : State, s.TableOk → exec .shiftedKeyTaken s = .next t → s.ac.access.unlocked = true →
    t.ac.access.unlocked = true ∧ t.ce = s.ce ∧ t.txns.map Txn.fixedPart = s.txns.map Txn.fixedPart

/-- The lock event is raised, with its cause, by KEY on an empty stack in PRESENTED, by the idle expiry, and by a loss of
the media while USER or NONE is presented: a MEDIA_LOST, or an IDENT with another U or with P below 32,768. Each ACTIVE
transaction on the user volume fails VOLUME_CHANGED, DRAINING where it has work it may not cancel, else DONE at once
(R23, R24, R72, R92, R93, R94, R95). -/
def Obligations.LockEventIsRaised : Prop :=
  ∀ s : State, s.power = .running → s.TagsOk → s.ActiveOk →
    (∀ e rest, s.TakesEntry e rest → e.Is .key false → s.ecp.adminTable = false → s.ac.access = .presented →
      s.ecp.stack = [] → ∃ t, exec .keyTaken s = .next t ∧ t.ac.access = .lockedIdle ∧ t.ce.key = none ∧
        ∀ x ∈ s.txns, x.volume = .user → x.phase = .active →
          ∃ y, t.txn? x.tag = some y ∧ y.failure = some (.volumeChanged .lockKey) ∧ y.done = x.done ∧
            (s.BuffersOk → y.MovesOn (s.KeepsWork x.tag) .volumeChanged)) ∧
    (s.ac.access = .presented → s.ac.standby = false → s.ac.idle = some 0 →
      ∃ t, exec .idleCounterExpiry s = .next t ∧ t.ac.access = .lockedIdle ∧ t.ce.key = none ∧
        ∀ x ∈ s.txns, x.volume = .user → x.phase = .active →
          ∃ y, t.txn? x.tag = some y ∧ y.failure = some (.volumeChanged .idle) ∧ y.done = x.done ∧
            (s.BuffersOk → y.MovesOn (s.KeepsWork x.tag) .volumeChanged)) ∧
    (s.ac.access.unlocked = true → s.PresentationOk → s.dli.media ≠ .absent →
      ∃ t, exec (.mediaLost []) s = .next t ∧ t.ac.access = .lockedIdle ∧ t.ce.key = none ∧
        ∀ x ∈ s.txns, x.volume = .user → x.phase = .active →
          ∃ y, t.txn? x.tag = some y ∧ y.failure = some (.volumeChanged .mediaLost) ∧ y.done = x.done ∧
            (s.BuffersOk → y.MovesOn (s.KeepsWork x.tag) .volumeChanged)) ∧
    ∀ p : BitVec 32, s.ac.access.unlocked = true → s.PresentationOk → s.dli.media = .ok →
      (p.toNat < 32768 ∨ s.dli.usable ≠ some (min p.toNat 536870912)) →
      ∃ t, exec (.ident p []) s = .next t ∧ t.ac.access = .lockedIdle ∧ t.ce.key = none ∧
        ∀ x ∈ s.txns, x.volume = .user → x.phase = .active →
          ∃ y, t.txn? x.tag = some y ∧ y.failure = some (.volumeChanged .mediaLost) ∧ y.done = x.done ∧
            (s.BuffersOk → y.MovesOn (s.KeepsWork x.tag) .volumeChanged)

/-- The key store's medium and its images change only at the completion of a write, at a power loss, at the release of
NPOR and at the power-on reading (R121, R122,
R123); and after every command the write in flight is the oldest request's, formed from the image and the fields the request
carries (R122). That nothing is asked of the key store before its reading completes is a kept invariant too (R163). -/
def Obligations.KeyStoreChangesOnlyAtItsEvents : Prop :=
  ∀ (c : Instr) (s t : State), exec c s = .next t →
    ((c ≠ .ksWriteComplete ∧ (∀ f, c ≠ .powerLoss f)) → t.ks.nvm = s.ks.nvm) ∧
    ((c ≠ .ksWriteComplete ∧ (∀ f, c ≠ .powerLoss f) ∧ c ≠ .powerOn ∧ c ≠ .ksReadingComplete) →
      t.ks.creds = s.ks.creds ∧ t.ks.dev = s.ks.dev) ∧
    (s.ReadingOk → t.ReadingOk) ∧ (s.ReadingOk → s.WritingOk → t.WritingOk)

/-- Every byte of the unit buffers reads as before after a command that places no sector, page or unit
(R31, R48, R58). -/
def Obligations.BuffersChangeOnlyAtTransfers : Prop :=
  ∀ (c : Instr) (s t : State), writesBuffers c = false → exec c s = .next t →
    ∀ a, Memory.read t.ubp.mem a = Memory.read s.ubp.mem a

/-! ## Power -/

/-- The state right after reset is a part that reads its key store, every block at its power-on value, and it is safe;
POWER_ON gives the same values to a part without power, the key store as the medium holds it (R163). -/
def Obligations.PowerOnValues : Prop :=
  State.reset.power = .reading ∧ State.reset.AtPowerOn ∧ State.reset.pending = [] ∧ State.reset.Safe ∧
  ∀ s : State, s.power = .off →
    ∃ t, exec .powerOn s = .next t ∧ t.power = .reading ∧ t.AtPowerOn ∧ t.ks.nvm = s.ks.nvm

/-- POWER_LOSS: the record being written is left as before, as written or failing its check, the others untouched (R123),
and working memory is lost (R167). That a part WITHOUT power already holds the power-on values of what is lost (standby
AWAKE, no held verdict, U absent, the slot empty) is THE MODEL'S CHOICE: R167 gives them at the next power-on
(notes/assumptions/28.md). -/
def Obligations.PowerLossLeavesKeyStore : Prop :=
  ∀ (s : State) (fate : WriteFate), s.power ≠ .off → s.ks.nvm.creds.length = 8 →
    ∃ t, exec (.powerLoss fate) s = .next t ∧ t.power = .off ∧ t.txns = [] ∧ t.ubp.jobs = [] ∧ t.ce.key = none ∧
      t.cu.sessionKey = none ∧ t.kps.fifo = [] ∧ t.ecp.stack = [] ∧ t.uli.refusals = [] ∧ t.uli.intakes = [] ∧
      t.ac.held = none ∧ t.ac.standby = false ∧ t.dli.usable = none ∧ t.ind.slot = none ∧
      ((s.ks.writing = none ∨ fate = .asBefore) → t.ks.nvm = s.ks.nvm) ∧
      (∀ i r, s.ks.writing = some (.cred i r) →
        t.ks.nvm.dev = s.ks.nvm.dev ∧
        (∀ j : Fin 8, j ≠ i → t.ks.nvm.creds[j.val]? = s.ks.nvm.creds[j.val]?) ∧
        (fate = .asWritten → t.ks.nvm.creds[i.val]? = some r) ∧
        (fate = .failing → ∃ q, t.ks.nvm.creds[i.val]? = some q ∧ q.passes = false)) ∧
      (∀ r, s.ks.writing = some (.dev r) →
        t.ks.nvm.creds = s.ks.nvm.creds ∧
        (fate = .asWritten → t.ks.nvm.dev = r) ∧
        (fate = .failing → t.ks.nvm.dev.passes = false))

/-- KS_READING_COMPLETE: the initial access state is the first of R81's table that applies to the images, in LOCKOUT with
the full throttle delay, in ERASING with the staging begun at the EMPTY write of slot 7 under the erase hold; a device record
that fails its check is rebuilt and its rewrite requested. A credential record that passes its check is taken as read, and one
that fails is DAMAGED in the image; the medium is not written. Where the media has been identified already, a sweep that is owed
and not held makes its window due (R81, R118, R121, R139, R140, R147, R149, R164, R166). -/
def Obligations.InitialAccess : Prop :=
  ∀ (s : State) (d : DevFields) (z : CredStatus), s.power = .reading → s.ks.nvm.creds.length = 8 →
    d = (if s.ks.nvm.dev.passes then s.ks.nvm.dev.fields else DevFields.rebuiltValues) →
    z = (if (s.ks.nvm.creds.getD 0 default).passes then (s.ks.nvm.creds.getD 0 default).fields.status
      else .damaged) →
    ∃ t, exec .ksReadingComplete s = .next t ∧ t.power = .running ∧
      t.ac.access = (if d.erasePending then .erasing else if z = .empty then .blankFirst
        else if 3 ≤ d.failures then .lockout else .lockedIdle) ∧
      (t.ac.access = .lockout → t.ac.lockout = some (throttleTicks d.failures)) ∧
      t.ks.nvm = s.ks.nvm ∧ (∀ (i : Nat) (r : CredRecord), s.ks.nvm.creds[i]? = some r → ∃ q, t.ks.creds[i]? = some q ∧
        (r.check = Config.credCheck r.fields → q = r) ∧
        (r.check ≠ Config.credCheck r.fields → q.fields = CredFields.bare .damaged)) ∧
      t.ac.presentation = .overlay ∧ t.ce.key = none ∧ t.ks.dev.fields = d ∧ (t.swu.state = .idle ↔ d.cursor = none) ∧
      (d.erasePending = true → t.cu.work = .staging ∧ t.cu.task = .stage (.slot 7) ∧
        t.CuAsks (.cred 7 (CredFields.bare .empty)) ∧ t.swu.hold = true) ∧
      (d.erasePending = false → s.swu.hold = false → s.swu.discardOut = false → s.swu.writeOut = false →
        s.dli.media = .ok → ∀ c u, d.cursor = some c → s.dli.usable = some u → t.WindowDue c u) ∧
      (s.ks.nvm.dev.passes = false →
        { bySweep := false, body := .dev (DevUpdate.whole DevFields.rebuiltValues) } ∈ t.ks.queue)

/-- TICK: each timer that its owner's rule lets count falls by one, and nothing else changes (R162). -/
def Obligations.TickCountsTimers : Prop :=
  ∀ s : State, s.power ≠ .off → exec .tick s = .next { s with
    uli := { s.uli with intakes := s.uli.intakes.map (fun i => { i with timer := i.timer.map (· - 1) }) },
    dli := { s.dli with
      identWait := if s.dli.media = .unknown then s.dli.identWait.map (· - 1) else s.dli.identWait },
    ac := { s.ac with
      settle := if s.ac.access = .settling then s.ac.settle.map (· - 1) else s.ac.settle,
      lockout := if s.ac.access = .lockout then s.ac.lockout.map (· - 1) else s.ac.lockout,
      admin := if s.ac.access = .adminSession ∧ s.cu.work = .idle then s.ac.admin.map (· - 1) else s.ac.admin,
      idle := if s.ac.access = .presented ∧ s.ac.standby = false then s.ac.idle.map (· - 1) else s.ac.idle },
    ecp := { s.ecp with
      timer := if s.composing = true ∧ s.ecp.ready = true then s.ecp.timer.map (· - 1) else s.ecp.timer },
    ind := { s.ind with
      remaining := if s.ind.slot.isSome ∧ s.ind.suspended = false then s.ind.remaining - 1 else s.ind.remaining,
      rest := s.ind.rest.map (· - 1) } }

/-! ## Requests -/

/-- READ_REQUEST: admission by the presented volume and the range clamp; its arrival reloads the idle counter that is not
off and changes nothing else of the access state. Of a READ admitted on the user volume the units start from the first on,
while it is the oldest that wants a free buffer (R6, R9, R10, R17, R20, R46, R47, R52, R95). That a transaction of fewer than
four jobs wants one, whichever of its jobs has ended, is THE MODEL'S CHOICE (R46 against R44, notes/assumptions/44.md). -/
def Obligations.ReadAdmission : Prop :=
  ∀ (s : State) (tag : Byte) (lba : BitVec 32) (count : BitVec 16), s.TakesRequests → tag.toNat ≤ 15 →
    1 ≤ count.toNat → count.toNat ≤ 256 → s.txn? (tagOf tag) = none →
    ∃ t y, exec (.readRequest tag lba count) s = .next t ∧ t.txn? (tagOf tag) = some y ∧ y.kind = .read ∧
      y.lba = some lba.toNat ∧ y.requested = some count.toNat ∧ y.done = 0 ∧ y.failure = none ∧
      y.volume = (if s.atr.volume = .overlay then .overlay else .user) ∧
      t.ac = { s.ac with
        idle := if s.ac.access.unlocked ∧ s.ac.idle.isSome then some (s.ks.dev.fields.autoLock * 600) else s.ac.idle } ∧
      t.txns.map Txn.tag = s.txns.map Txn.tag ++ [tagOf tag] ∧
      (s.atr.volume = .nothing → y.phase = .done ∧ y.outcome = some .becomingReady) ∧
      ∀ h, s.atr.volume ≠ .nothing → s.atr.highest = some h →
        (h < lba.toNat → y.phase = .done ∧ y.outcome = some .range ∧ y.transfer = some 0) ∧
        (lba.toNat ≤ h → y.phase = .active ∧
          y.transfer = some (if lba.toNat + count.toNat - 1 ≤ h then count.toNat else h - lba.toNat + 1) ∧
          (s.TagsOk → s.BuffersInOrder t) ∧
          (s.atr.volume = .user → t.StartedRight s.ubp.jobs y (some (lba.toNat / 8)) 0))

/-- WRITE_REQUEST: as READ, but PROTECTED on the overlay and under the read-only policy; its arrival reloads the idle
counter as a READ's does, and its units start as a READ's do (R6, R9, R10, R17, R20, R46, R47, R52, R95). That a transaction of
fewer than four jobs wants a buffer, whichever of its jobs has ended, is THE MODEL'S CHOICE (R46 against R44,
notes/assumptions/44.md). -/
def Obligations.WriteAdmission : Prop :=
  ∀ (s : State) (tag : Byte) (lba : BitVec 32) (count : BitVec 16), s.TakesRequests → tag.toNat ≤ 15 →
    1 ≤ count.toNat → count.toNat ≤ 256 → s.txn? (tagOf tag) = none →
    ∃ t y, exec (.writeRequest tag lba count) s = .next t ∧ t.txn? (tagOf tag) = some y ∧ y.kind = .write ∧
      y.lba = some lba.toNat ∧ y.requested = some count.toNat ∧ y.done = 0 ∧ y.failure = none ∧
      y.volume = (if s.atr.volume = .overlay then .overlay else .user) ∧
      t.ac = { s.ac with
        idle := if s.ac.access.unlocked ∧ s.ac.idle.isSome then some (s.ks.dev.fields.autoLock * 600) else s.ac.idle } ∧
      t.txns.map Txn.tag = s.txns.map Txn.tag ++ [tagOf tag] ∧
      (s.atr.volume = .nothing → y.phase = .done ∧ y.outcome = some .becomingReady) ∧
      (s.atr.volume = .overlay → y.phase = .done ∧ y.outcome = some .writeProtected) ∧
      (s.atr.volume = .user → s.ks.dev.fields.readOnly = true → y.phase = .done ∧ y.outcome = some .writeProtected) ∧
      ∀ h, s.atr.volume = .user → s.ks.dev.fields.readOnly = false → s.atr.highest = some h →
        (h < lba.toNat → y.phase = .done ∧ y.outcome = some .range ∧ y.transfer = some 0) ∧
        (lba.toNat ≤ h → y.phase = .active ∧
          y.transfer = some (if lba.toNat + count.toNat - 1 ≤ h then count.toNat else h - lba.toNat + 1) ∧
          (s.TagsOk → s.BuffersInOrder t) ∧
          (s.atr.volume = .user → t.StartedRight s.ubp.jobs y (some (lba.toNat / 8)) 0))

/-- FLUSH_REQUEST: done at once off the user volume; on it the flush mark is every page write outstanding, and an empty
mark asks for the SYNC at once. Its arrival changes nothing of the access state, its timers or the idle counter
(R20, R75, R76, R95). -/
def Obligations.FlushAdmission : Prop :=
  ∀ (s : State) (tag : Byte) (lba : BitVec 32) (count : BitVec 16), s.TakesRequests → tag.toNat ≤ 15 →
    s.txn? (tagOf tag) = none →
    ∃ t y, exec (.flushRequest tag lba count) s = .next t ∧ t.txn? (tagOf tag) = some y ∧ y.kind = .flush ∧
      y.residue = 0 ∧ t.ac = s.ac ∧
      (s.atr.volume = .nothing → y.phase = .done ∧ y.outcome = some .becomingReady) ∧
      (s.atr.volume = .overlay → y.phase = .done ∧ y.outcome = some .good) ∧
      (s.atr.volume = .user → y.phase = .active ∧
        y.flushMark = some ((s.ubp.jobs.filter (fun j => j.state == .mediaWrite)).map Job.buf) ∧
        ((∀ j ∈ s.ubp.jobs, j.state ≠ .mediaWrite) → s.dli.media = .ok → t.Asked .sync (.flush (tagOf tag))))

/-- SIZE_REQUEST and STATE_REQUEST are DONE from admission, whatever the presentation, and change nothing of the access
state, its timers or the idle counter (R20, R37, R95). -/
def Obligations.SizeAndStateAdmission : Prop :=
  ∀ (s : State) (tag : Byte) (lba : BitVec 32) (count : BitVec 16), s.TakesRequests → tag.toNat ≤ 15 →
    s.txn? (tagOf tag) = none →
    (∃ t y, exec (.sizeRequest tag lba count) s = .next t ∧ t.txn? (tagOf tag) = some y ∧ y.kind = .size ∧
      y.phase = .done ∧ y.outcome = some .good ∧ y.residue = 0 ∧ t.ac = s.ac ∧ t.atr = s.atr) ∧
    ∃ t y, exec (.stateRequest tag lba count) s = .next t ∧ t.txn? (tagOf tag) = some y ∧ y.kind = .state ∧
      y.phase = .done ∧ y.outcome = some .good ∧ y.residue = 0 ∧ t.ac = s.ac ∧ t.atr = s.atr ∧
      t.uli.attn = s.uli.attn

/-- ABORT fails the ACTIVE transaction on its tag, which becomes DRAINING where it keeps a job in MEDIA_WRITE, an issued SYNC
or a READ_DATA record being sent, else DONE at once; it counts no sector and closes the intake; the unit jobs of a READ or
WRITE on the user volume are disposed of each by its state, and each that ends or becomes abandoned lowers the jobs held. An
ABORT that names no record, or one already failed, DRAINING or DONE, changes nothing: what work left undone in the state it
meets then lets follow (a buffer given, a job taken further) is no effect of it (R23, R24, R34, R60). -/
def Obligations.AbortFailsActive : Prop :=
  (∀ (s : State) (tag : Byte) (lba : BitVec 32) (count : BitVec 16) (x : Txn), s.TakesRequests → tag.toNat ≤ 15 →
    s.txn? (tagOf tag) = some x → x.phase = .active → x.failure = none →
    ∃ t y, exec (.abort tag lba count) s = .next t ∧ t.txn? (tagOf tag) = some y ∧ y.failure = some .aborted ∧
      y.done = x.done ∧ y.MovesOn (s.KeepsWork (tagOf tag)) .aborted ∧
      (x.isUserTransfer = true → t.intake? (tagOf tag) = none) ∧
      (x.isUserTransfer = true → s.TagsOk → s.BuffersOk → s.JobsDisposed t (tagOf tag) ∧
        y.jobsHeld = x.jobsHeld -
          (s.ubp.jobs.filter (fun j => j.isOf (tagOf tag) && !j.staysAtFailure)).length)) ∧
  ∀ (s : State) (tag : Byte) (lba : BitVec 32) (count : BitVec 16), s.TakesRequests → tag.toNat ≤ 15 →
    (∀ x, s.txn? (tagOf tag) = some x → x.phase ≠ .active ∨ x.failure ≠ none) →
    (settle s = s → exec (.abort tag lba count) s = .next s) ∧
    ∃ t, exec (.abort tag lba count) s = .next t ∧ t.txns.map Txn.fixedPart = s.txns.map Txn.fixedPart ∧
      t.uli.intakes = s.uli.intakes ∧ t.uli.refusals = s.uli.refusals ∧ t.ac = s.ac ∧ t.ubp.mem = s.ubp.mem ∧
      ∀ j ∈ s.ubp.jobs, ∃ k ∈ t.ubp.jobs, k.buf = j.buf ∧ k.owner = j.owner ∧ k.unit = j.unit ∧ k.sent = j.sent ∧
        k.abandoned = j.abandoned

/-- An ABORT with a tag of 0 to 15 is not answered: no record joins the table or the refusal queue; with a tag above 15,
and for a request of unknown kind, the refusal is REQUEST_FAULT (R33). None of these reloads the idle counter or changes the
access state (R95). -/
def Obligations.AbortIsNotAnswered : Prop :=
  ∀ (s : State) (tag : Byte) (lba : BitVec 32) (count : BitVec 16), s.TakesRequests →
    (tag.toNat ≤ 15 → ∃ t, exec (.abort tag lba count) s = .next t ∧
      t.txns.map Txn.tag = s.txns.map Txn.tag ∧ t.uli.refusals = s.uli.refusals ∧ t.uli.sent = s.uli.sent ∧
      t.ac = s.ac ∧
      (∀ x, s.txn? (tagOf tag) = some x → x.phase = .active → x.failure = none →
        ∃ y, t.txn? (tagOf tag) = some y ∧ y.failure = some .aborted) ∧
      (∀ x ∈ s.txns, x.tag ≠ tagOf tag → ∃ y ∈ t.txns, y.tag = x.tag ∧ y.failure = x.failure ∧ y.phase = x.phase)) ∧
    (15 < tag.toNat → ∃ t, exec (.abort tag lba count) s = .next t ∧
      t.uli.refusals = s.uli.refusals ++
        [{ tag := tag, outcome := .requestFault, detail := 6, residue := 0, payload := .none }] ∧ t.ac = s.ac) ∧
    ∀ kind : Byte, unknownKind kind = true → ∃ t, exec (.unknownKindRequest kind tag lba count) s = .next t ∧
      t.uli.refusals = s.uli.refusals ++
        [{ tag := tag, outcome := .requestFault, detail := kind, residue := 0, payload := .none }] ∧ t.ac = s.ac

/-- The refusals of R18: REQUEST_FAULT for an unknown kind, a tag above 15 or a READ or WRITE count outside 1 to 256, then
TAG_BUSY for a tag in the table; each carries the tag, the kind byte as detail and its residue. No record of the table is
changed, but for the next unit and the jobs held of one that a free buffer waits for; a refused READ or WRITE reloads the
idle counter as an admitted one does, and another kind changes nothing of the access state (R18, R19, R95). -/
def Obligations.RefusedRequests : Prop :=
  ∀ (s : State) (r : Request), s.TakesRequests →
    ((unknownKind r.kind = true ∨ 15 < r.tag.toNat ∨
        ((r.kind = 1 ∨ r.kind = 2) ∧ (r.count.toNat = 0 ∨ 256 < r.count.toNat))) →
      ∃ t, exec (requestOf r.kind r.tag r.lba r.count) s = .next t ∧
        t.uli.refusals = s.uli.refusals ++ [
          { tag := r.tag, outcome := .requestFault, detail := r.kind,
            residue := if (r.kind = 1 ∨ r.kind = 2) ∧ 1 ≤ r.count.toNat ∧ r.count.toNat ≤ 256 then r.count.toNat else 0,
            payload := .none }] ∧
        t.txns.map Txn.fixedPart = s.txns.map Txn.fixedPart ∧
        t.ac = { s.ac with
          idle := if (r.kind = 1 ∨ r.kind = 2) ∧ s.ac.access.unlocked ∧ s.ac.idle.isSome
            then some (s.ks.dev.fields.autoLock * 600) else s.ac.idle }) ∧
    (unknownKind r.kind = false → r.kind ≠ 6 → r.tag.toNat ≤ 15 →
      ((r.kind = 1 ∨ r.kind = 2) → 1 ≤ r.count.toNat ∧ r.count.toNat ≤ 256) → (s.txn? (tagOf r.tag)).isSome = true →
      ∃ t, exec (requestOf r.kind r.tag r.lba r.count) s = .next t ∧
        t.uli.refusals = s.uli.refusals ++ [
          { tag := r.tag, outcome := .tagBusy, detail := r.kind,
            residue := if r.kind = 1 ∨ r.kind = 2 then r.count.toNat else 0, payload := .none }] ∧
        t.txns.map Txn.fixedPart = s.txns.map Txn.fixedPart ∧
        t.ac = { s.ac with
          idle := if (r.kind = 1 ∨ r.kind = 2) ∧ s.ac.access.unlocked ∧ s.ac.idle.isSome
            then some (s.ks.dev.fields.autoLock * 600) else s.ac.idle })

/-- While the refusal queue holds 4 records a request record waits on the link and nothing else changes; REFUSAL_SENT
sends the oldest refusal, and a request that waited is then taken (R19, R29). -/
def Obligations.RefusalQueue : Prop :=
  (∀ (s : State) (r : Request), s.power = .running → 4 ≤ s.uli.refusals.length →
    exec (requestOf r.kind r.tag r.lba r.count) s =
      .next (s.setUli { s.uli with link := s.uli.link ++ [.request r] })) ∧
  ∀ (s : State) (c : Complete) (rest : List Complete), s.power = .running → s.uli.output = .refusal →
    s.uli.refusals = c :: rest →
    (s.uli.link = [] → ∃ t, exec .refusalSent s = .next t ∧ t.uli.refusals = rest ∧
      t.uli.sent = .complete c :: s.uli.sent ∧ (rest ≠ [] → t.uli.output = .refusal) ∧
      t.txns.map (fun x => (x.tag, x.failure, x.phase, x.done)) =
        s.txns.map (fun x => (x.tag, x.failure, x.phase, x.done))) ∧
    (∀ r, s.uli.link = [.request r] → rest.length < 4 → ∃ t, exec .refusalSent s = .next t ∧ t.uli.link = [] ∧
      t.uli.sent = .complete c :: s.uli.sent ∧
      (r.valid = true → r.kind ≠ 6 → s.txn? (tagOf r.tag) = none →
        t.uli.refusals = rest ∧ (t.txn? (tagOf r.tag)).isSome = true))

/-- WRITE_DATA: a sector for an open intake lands at its next offset in the buffer of the job in DATA_WAIT, every other
byte unchanged, and the intake is counted down, the job waiting on, or closed at the last sector owed, the job moving to the
cipher queue, from which an idle CE may take it at once; the transaction's next job may then wait for data, each job that
enters DATA_WAIT having every lower one of its transaction with all its data; a sector with no intake is dropped, and no
record, failure, job, intake or timer changes (R31, R49, R51, R57). What an arrival in a state with work left undone lets
follow (a buffer given, a job taken further) is no effect of the sector: where nothing is left to follow, the state is as it
was. -/
def Obligations.WriteDataPlaced : Prop :=
  ∀ (s : State) (tag : Byte) (sector : List Byte), s.power = .running → sector.length = 512 →
    (∀ i j, tag.toNat ≤ 15 → s.intake? (tagOf tag) = some i → s.waitingJob (tagOf tag) = some j →
      ∃ t, exec (.writeData tag sector) s = .next t ∧
        (∀ a, Memory.read t.ubp.mem a =
          if sectorAddress j.buf i.next ≤ a ∧ a < sectorAddress j.buf i.next + 512
          then sector.getD (a - sectorAddress j.buf i.next) 0 else Memory.read s.ubp.mem a) ∧
        (s.BuffersOk → s.WaitsInOrder t) ∧
        (i.owed ≤ 1 → t.intake? (tagOf tag) = none ∧ (s.BuffersOk → ∃ k, t.job? j.buf = some k ∧ k.owner = j.owner ∧
          k.unit = j.unit ∧ k.count = j.count ∧ (k.state = .encryptWait ∨ k.state = .encrypting))) ∧
        (1 < i.owed → t.intake? (tagOf tag) =
            some { i with owed := i.owed - 1, next := i.next + 1, timer := some 50 } ∧
          (s.BuffersOk → (∃ k ∈ t.ubp.jobs, { k with pageOp := j.pageOp } = j) ∧
            ((∀ r ∈ s.dli.requests, r.owner ≠ .job j.buf) → j ∈ t.ubp.jobs)))) ∧
    ((15 < tag.toNat ∨ s.intake? (tagOf tag) = none) →
      (settle s = s → exec (.writeData tag sector) s = .next s) ∧
      ∃ t, exec (.writeData tag sector) s = .next t ∧ t.uli.intakes = s.uli.intakes ∧
        t.uli.refusals = s.uli.refusals ∧ t.txns.map Txn.fixedPart = s.txns.map Txn.fixedPart ∧ t.ac = s.ac ∧
        (∀ j ∈ s.ubp.jobs, ∃ k ∈ t.ubp.jobs, k.buf = j.buf ∧ k.owner = j.owner ∧ k.unit = j.unit ∧
          k.sent = j.sent ∧ k.abandoned = j.abandoned) ∧
        ∀ a, Memory.read t.ubp.mem a = Memory.read s.ubp.mem a)

/-! ## Link signals and dropped frames -/

/-- LINK_RESET, with nothing waiting on the link: empties the table, the refusal queue and the intakes, frees the output,
abandons what cannot be stopped, keeps what the link has issued and the page writes owed, withdraws the other requests, sets
TABLE_EMPTIED and reloads the idle counter; it leaves every byte of the unit buffers, the access state, the keypad,
the composer, the CU, the records of the key store, the indicator's slot, the media condition and P, U and the flag as
they were, and, but for a sweep that is ISSUING and that the emptied table lets go on, the sweep and the write queue
(R39, R63, R65, R68, R78, R100, R140, R160). -/
def Obligations.LinkResetEmptiesTable : Prop :=
  ∀ s : State, s.power = .running → s.uli.link = [] →
    ∃ t, exec .linkReset s = .next t ∧ t.txns = [] ∧ t.uli.refusals = [] ∧ t.uli.intakes = [] ∧
      t.uli.output = .free ∧ t.uli.attn = { s.uli.attn with tableEmptied := true } ∧ t.uli.sent = s.uli.sent ∧
      t.ubp.mem = s.ubp.mem ∧ s.JobsEmptied t ∧ (s.BuffersOk → s.RequestsOk → s.LinkEmptied t) ∧
      t.ac = { s.ac with
        idle := if s.ac.access.unlocked ∧ s.ac.idle.isSome then some (s.ks.dev.fields.autoLock * 600) else s.ac.idle } ∧
      t.atr = s.atr ∧ t.ce = s.ce ∧ t.kps = s.kps ∧ t.ecp = s.ecp ∧ t.cu = s.cu ∧ t.dli.media = s.dli.media ∧
      t.dli.reported = s.dli.reported ∧ t.dli.usable = s.dli.usable ∧ t.dli.clamped = s.dli.clamped ∧
      t.dli.identWait = s.dli.identWait ∧
      t.ks.nvm = s.ks.nvm ∧ t.ks.creds = s.ks.creds ∧ t.ks.dev = s.ks.dev ∧ s.NoCuWrite t ∧
      t.swu.hold = s.swu.hold ∧ t.swu.retry = s.swu.retry ∧ t.swu.dropResult = s.swu.dropResult ∧
      (s.swu.state ≠ .issuing → t.swu = s.swu ∧ t.ks = s.ks) ∧
      t.ind.slot = s.ind.slot ∧ t.ind.remaining = s.ind.remaining ∧ t.ind.pendingVerdict = s.ind.pendingVerdict ∧
      t.ind.rest = s.ind.rest

/-- SUSPEND, with nothing waiting on the link: it empties the table as LINK_RESET does, the jobs and the downstream link with
it, every byte of the unit buffers as it was; taken AWAKE it locks an unlocked part by the policy, enters STANDBY, stops the keypad, gives the composition up and
darkens the indicators, the idle counter holding its value where no lock event is raised; taken in STANDBY it does nothing further (R40, R63, R65, R78, R98, R159). -/
def Obligations.SuspendEntersStandby : Prop :=
  (∀ (s : State) (lock : Bool), s.power = .running → s.ac.standby = false → s.uli.link = [] → s.PresentationOk →
    s.BuffersOk → lock = (s.ks.dev.fields.lockOnStandby && s.ac.access.unlocked) →
    ∃ t, exec .suspend s = .next t ∧ t.ac.standby = true ∧ t.ac.changed = false ∧ t.txns = [] ∧
      t.uli.refusals = [] ∧ t.uli.intakes = [] ∧ t.uli.output = .free ∧ t.uli.sent = s.uli.sent ∧ t.ubp.mem = s.ubp.mem ∧
      s.JobsEmptied t ∧
      (s.RequestsOk → s.LinkEmptied t) ∧ t.uli.attn.tableEmptied = true ∧ t.kps.scanning = false ∧
      t.kps.fifo = [] ∧ t.kps.due = [] ∧ t.ecp.stack = [] ∧
      t.ecp.copy = none ∧ t.ecp.command = none ∧ t.ecp.timer = none ∧ t.ecp.ready = s.ecp.ready ∧
      t.ac.held = s.ac.held ∧ t.ac.scope = s.ac.scope ∧ t.ac.lossSeen = s.ac.lossSeen ∧
      t.ind.slot = none ∧ t.ind.pendingVerdict = none ∧ t.ind.rest = none ∧
      (lock = true → t.ac.access = .lockedIdle ∧ t.ce.key = none ∧
        t.atr = { volume := .overlay, highest := some 2047 } ∧ t.uli.attn.presentation = true) ∧
      (lock = false → s.ac.access.unlocked = true → t.ce.key = s.ce.key ∧ t.ac.presentation = s.ac.presentation ∧
        t.ac.sessionSlot = s.ac.sessionSlot) ∧
      (lock = false → (s.ac.access.unlocked = false → s.ac.idle = none) → t.ac.idle = s.ac.idle) ∧
      (lock = false → s.ecp.ready = true → t.ac.access = s.ac.access.restingPlace) ∧
      (lock = false → s.ecp.ready = false → t.ac.access = s.ac.access)) ∧
  ∀ s : State, s.power = .running → s.ac.standby = true → s.uli.link = [] →
    ∃ t, exec .suspend s = .next t ∧ t.txns = [] ∧ t.uli.refusals = [] ∧ t.uli.intakes = [] ∧ t.uli.output = .free ∧
      t.uli.sent = s.uli.sent ∧ t.uli.attn = { s.uli.attn with tableEmptied := true } ∧ t.ubp.mem = s.ubp.mem ∧
      s.JobsEmptied t ∧
      (s.BuffersOk → s.RequestsOk → s.LinkEmptied t) ∧
      t.ac = s.ac ∧ t.atr = s.atr ∧ t.ce = s.ce ∧ t.kps = s.kps ∧ t.ecp = s.ecp ∧ t.cu = s.cu ∧
      t.ks.nvm = s.ks.nvm ∧ t.ks.creds = s.ks.creds ∧ t.ks.dev = s.ks.dev ∧ s.GivesNone t

/-- RESUME: taken in STANDBY it ends standby, restarts the keypad, reports a changed presentation and hands over a held
verdict; taken AWAKE it changes none of this, and where no work was left undone nothing at all. Either way the table and its
order, the refusal queue, the intakes, the jobs, the buffers and the key register stay as they were (R40, R63, R100). -/
def Obligations.ResumeLeavesStandby : Prop :=
  ∀ s : State, s.power = .running → s.uli.link = [] →
    (s.ac.standby = true → ∃ t, exec .resume s = .next t ∧ t.txns.map Txn.fixedPart = s.txns.map Txn.fixedPart ∧
      t.uli.refusals = s.uli.refusals ∧ t.uli.intakes = s.uli.intakes ∧ t.ce = s.ce ∧ t.ubp.mem = s.ubp.mem ∧
      (∀ j ∈ s.ubp.jobs, ∃ k ∈ t.ubp.jobs, k.buf = j.buf ∧ k.owner = j.owner ∧ k.unit = j.unit ∧ k.sent = j.sent ∧
        k.abandoned = j.abandoned) ∧
      t.ac = { s.ac with standby := false, changed := false, held := none } ∧ t.kps.scanning = true ∧
      t.kps.keys = Kps.allUp ∧ t.kps.group = none ∧ t.kps.hold = none ∧ t.kps.fifo = s.kps.fifo ∧
      t.uli.attn = { s.uli.attn with resume := s.uli.attn.resume || s.ac.changed } ∧
      (s.ac.held = none → t.ind.slot = s.ind.slot ∧ t.ind.pendingVerdict = s.ind.pendingVerdict) ∧
      (∀ v, s.ac.held = some v → (∀ w, s.ind.slot ≠ some (.verdict w)) →
        t.ind.slot = some (.verdict v) ∧ t.ind.remaining = 15)) ∧
    (s.ac.standby = false → (settle s = s → exec .resume s = .next s) ∧ ∃ t, exec .resume s = .next t ∧
      t.txns.map Txn.fixedPart = s.txns.map Txn.fixedPart ∧
      t.uli.refusals = s.uli.refusals ∧ t.uli.intakes = s.uli.intakes ∧ t.ce = s.ce ∧ t.ubp.mem = s.ubp.mem ∧
      (∀ j ∈ s.ubp.jobs, ∃ k ∈ t.ubp.jobs, k.buf = j.buf ∧ k.owner = j.owner ∧ k.unit = j.unit ∧ k.sent = j.sent ∧
        k.abandoned = j.abandoned) ∧
      t.ac = s.ac ∧ t.kps = s.kps ∧ t.uli.attn = s.uli.attn ∧ s.GivesNone t)

/-- A frame of the layout of its type is read as the record, signal or report it carries; a frame of an unknown type or of
another length, and a COMPLETION with a dtag above 3, is dropped and changes nothing; a COMPLETION whose operation byte or
length is not the one that its slot's operation and its status fix, or whose status is not 0, is the ERROR completion of
that operation. Each record and operation that the part sends is laid out as the tables of the formats give, byte by byte,
its codes, flags and lengths among them (R171, R172, R173). Which row stands for a COMPLETION whose operation byte is no
operation's, or that ends before its status byte, is the model's reading (notes/assumptions/12.md). -/
def Obligations.FramesAreReadOrDropped : Prop :=
  (∀ (kind tag : Byte) (lba : BitVec 32) (count : BitVec 16),
    decodeUpstream ([1, kind, tag] ++ leBytes 4 lba.toNat ++ leBytes 2 count.toNat) = requestOf kind tag lba count) ∧
  (∀ (tag : Byte) (sector : List Byte), sector.length = 512 →
    decodeUpstream (2 :: tag :: sector) = .writeData tag sector) ∧
  decodeUpstream [16] = .linkReset ∧ decodeUpstream [17] = .suspend ∧ decodeUpstream [18] = .resume ∧
  (∀ frame : List Byte, ¬ (frame.head? = some 1 ∧ frame.length = 9) → ¬ (frame.head? = some 2 ∧ frame.length = 514) →
    frame ≠ [16] → frame ≠ [17] → frame ≠ [18] → decodeUpstream frame = .upstreamFrameDropped frame) ∧
  (∀ p : BitVec 32, decodeDownstream (130 :: leBytes 4 p.toNat) = .ident p []) ∧
  decodeDownstream [131] = .mediaLost [] ∧
  (∀ (d status : Byte) (data : List Byte), d.toNat ≤ 3 →
    decodeDownstream (129 :: d :: 1 :: status :: data) = .pageReadCompletion d status data ∧
    decodeDownstream (129 :: d :: 2 :: status :: data) = .pageWriteCompletion d status data ∧
    decodeDownstream (129 :: d :: 3 :: status :: data) = .discardCompletion d status data ∧
    decodeDownstream (129 :: d :: 4 :: status :: data) = .syncCompletion d status data ∧
    (∀ op : Byte, op = 0 ∨ 4 < op.toNat →
      decodeDownstream (129 :: d :: op :: status :: data) = .pageReadCompletion d 255 []) ∧
    decodeDownstream [129, d] = .pageReadCompletion d 255 [] ∧
    ∀ op : Byte, decodeDownstream [129, d, op] = .pageReadCompletion d 255 []) ∧
  (∀ frame : List Byte, ¬ (frame.head? = some 130 ∧ frame.length = 5) → frame ≠ [131] →
    ¬ (frame.head? = some 129 ∧ ∃ d, frame[1]? = some d ∧ d.toNat ≤ 3) →
    decodeDownstream frame = .downstreamFrameDropped frame) ∧
  (∀ (s : State) (x : Slot) (d op status : Byte) (data : List Byte), d.toNat ≤ 3 →
    s.dli.slots.find? (fun y => y.dtag == Fin.ofNat 4 d.toNat) = some x → 1 ≤ op.toNat → op.toNat ≤ 4 →
    (op ≠ x.op.code ∨ status ≠ 0 ∨ data.length ≠ (if op = 1 then 4096 else 0)) →
    exec (completionOf op d status data) s = exec (completionOf x.op.code d 1 []) s) ∧
  (∀ (s : State) (frame : List Byte),
    exec (.upstreamFrameDropped frame) s = .next s ∧ exec (.downstreamFrameDropped frame) s = .next s) ∧
  (∀ (t : Fin 16) (lba k : Nat) (sector : List Byte),
    UpRecord.frame (.readData t lba sector) = [129, BitVec.ofNat 8 t.val, BitVec.ofNat 8 lba, BitVec.ofNat 8 (lba / 256),
      BitVec.ofNat 8 (lba / 65536), BitVec.ofNat 8 (lba / 16777216)] ++ sector ∧
    (sector.length = 512 → (UpRecord.frame (.readData t lba sector)).length = 518) ∧
    UpRecord.frame (.dataWanted t lba k) = [130, BitVec.ofNat 8 t.val, BitVec.ofNat 8 lba, BitVec.ofNat 8 (lba / 256),
      BitVec.ofNat 8 (lba / 65536), BitVec.ofNat 8 (lba / 16777216), BitVec.ofNat 8 k]) ∧
  (∀ c : Complete,
    (c.payload = .none → UpRecord.frame (.complete c) = [131, c.tag, c.outcome.code, c.detail,
      BitVec.ofNat 8 c.residue, BitVec.ofNat 8 (c.residue / 256), 0]) ∧
    (∀ a, c.payload = .size a → UpRecord.frame (.complete c) = [131, c.tag, c.outcome.code, c.detail,
      BitVec.ofNat 8 c.residue, BitVec.ofNat 8 (c.residue / 256), 12,
      (match a.volume with | .overlay => 0 | .nothing => 1 | .user => 2), (if a.capacity = none then 0 else 1), 0, 2] ++
      ([1, 256, 65536, 16777216, 4294967296, 1099511627776, 281474976710656, 72057594037927936].map
        (fun w => BitVec.ofNat 8 (a.capacity.getD 0 / w)))) ∧
    (∀ a, c.payload = .state a → UpRecord.frame (.complete c) = [131, c.tag, c.outcome.code, c.detail,
      BitVec.ofNat 8 c.residue, BitVec.ofNat 8 (c.residue / 256), 10,
      (match a.access with | .blank => 0 | .locked => 1 | .lockout => 2 | .admin => 3 | .unlocked => 4 | .erasing => 5),
      (match a.volume with | .overlay => 0 | .nothing => 1 | .user => 2),
      (match a.media with | .unknown => 0 | .ok => 1 | .unusable => 2 | .absent => 3),
      (if a.clamped then 1 else 0) + (if a.readOnly then 2 else 0) + (if a.rebuilt then 4 else 0) +
        (if a.sweeping then 8 else 0) + (if a.degraded then 16 else 0),
      BitVec.ofNat 8 a.lockoutSeconds, BitVec.ofNat 8 (a.lockoutSeconds / 256), BitVec.ofNat 8 a.percent,
      (if a.reasons.powerOn then 1 else 0) + (if a.reasons.presentation then 2 else 0) +
        (if a.reasons.sweepDone then 4 else 0) + (if a.reasons.tableEmptied then 8 else 0) +
        (if a.reasons.resume then 16 else 0),
      BitVec.ofNat 8 a.eraseCount, BitVec.ofNat 8 (a.eraseCount / 256)])) ∧
  [Result.good, .short, .range, .writeProtected, .becomingReady, .volumeChanged, .mediaFault, .dataTimeout, .aborted,
    .tagBusy, .requestFault].map Result.code = [0, 1, 2, 3, 4, 5, 6, 7, 8, 9, 10] ∧
  [Cause.lockKey, .idle, .standby, .mediaLost, .erase, .unlock].map Cause.code = [1, 2, 3, 4, 5, 6] ∧
  ∀ (d : Fin 4) (p n : Nat) (cipher : List Byte),
    DownRecord.frame (.pageRead d p) = [1, BitVec.ofNat 8 d.val, BitVec.ofNat 8 p, BitVec.ofNat 8 (p / 256),
      BitVec.ofNat 8 (p / 65536), BitVec.ofNat 8 (p / 16777216)] ∧
    DownRecord.frame (.pageWrite d p cipher) = [2, BitVec.ofNat 8 d.val, BitVec.ofNat 8 p, BitVec.ofNat 8 (p / 256),
      BitVec.ofNat 8 (p / 65536), BitVec.ofNat 8 (p / 16777216)] ++ cipher ∧
    (cipher.length = 4096 → (DownRecord.frame (.pageWrite d p cipher)).length = 4102) ∧
    DownRecord.frame (.discard d p n) = [3, BitVec.ofNat 8 d.val, BitVec.ofNat 8 p, BitVec.ofNat 8 (p / 256),
      BitVec.ofNat 8 (p / 65536), BitVec.ofNat 8 (p / 16777216), BitVec.ofNat 8 n, BitVec.ofNat 8 (n / 256)] ∧
    DownRecord.frame (.sync d) = [4, BitVec.ofNat 8 d.val]

/-! ## Records sent upstream -/

/-- COMPLETE_SENT: the record carries tag, outcome, detail and residue, and for SIZE and STATE the answer as the blocks
hold it at the sending; the tag leaves the table, the others keeping their order and all they hold but what a buffer given
to them advances, and a STATE answer clears the ATTN latch.
Its sweep percent is 100 exactly while the sweep is IDLE, else R15's rounding held below 100, and the last one reported
while U is absent (R16, R27, R28, R36, R37, R38; that the last one too is held below 100 is the model's reading,
notes/assumptions/20.md, that a cursor above U reports 99 is the model's choice, notes/assumptions/42.md, and so is that R16's
figure, not the 99 of R146, is reported where U changes while the NONE write is in flight, notes/assumptions/46.md). The output
is then granted: to the oldest refusal, else to the oldest transaction with an item ready (R29). -/
def Obligations.CompleteSent : Prop :=
  ∀ (s : State) (tag : Fin 16) (x : Txn) (o : Result), s.power = .running → s.uli.output = .complete tag →
    s.txn? tag = some x → x.outcome = some o →
    ∃ t c, exec .completeSent s = .next t ∧ t.uli.sent = .complete c :: s.uli.sent ∧
      c.tag = BitVec.ofNat 8 x.tag.val ∧ c.outcome = o ∧ c.residue = x.requested.getD 0 - x.done ∧
      (∀ cause, x.failure = some (.volumeChanged cause) → c.detail = cause.code) ∧
      ((∀ cause, x.failure ≠ some (.volumeChanged cause)) → c.detail = 0) ∧
      (x.kind = .size → c.payload = .size
        { volume := s.atr.volume, capacity := if s.atr.volume = .nothing then none else s.atr.highest.map (· + 1) }) ∧
      (x.kind = .state → ∃ a, c.payload = .state a ∧
        a.access = (match s.ac.access with
          | .blankFirst | .blankRepeat => .blank
          | .lockout => .lockout
          | .adminSession => .admin
          | .settling | .presented | .change => .unlocked
          | .erasing => .erasing
          | _ => .locked) ∧
        (a.percent = 100 ↔ s.swu.state = .idle) ∧ a.percent ≤ 100 ∧
        (∀ u, s.swu.state ≠ .idle → s.dli.usable = some u →
          a.percent = min 99 (roundedPercent (s.swu.cursor.getD 0) u)) ∧
        (s.swu.state ≠ .idle → s.dli.usable = none → a.percent = min 99 (s.swu.lastPercent.getD 0)) ∧
        t.swu.lastPercent = some a.percent ∧
        a.volume = s.ac.presentation ∧ a.media = s.dli.media ∧
        a.clamped = s.dli.clamped ∧ a.readOnly = s.ks.dev.fields.readOnly ∧ a.rebuilt = s.ks.dev.fields.rebuilt ∧
        a.degraded = s.ks.dev.fields.degraded ∧ a.eraseCount = s.ks.dev.fields.eraseCount ∧
        a.reasons = s.uli.attn ∧ (a.sweeping = true ↔ s.swu.state ≠ .idle) ∧
        a.lockoutSeconds = (if s.ac.access = .lockout then (s.ac.lockout.getD 0 + 9) / 10 else 0)) ∧
      (x.kind ≠ .size → x.kind ≠ .state → c.payload = .none) ∧
      t.uli.attn = (if x.kind = .state then Attn.none else s.uli.attn) ∧
      t.txns.map Txn.tag = (s.txns.map Txn.tag).filter (· ≠ tag) ∧
      t.txns.map Txn.fixedPart = (s.txns.filter (fun z => z.tag ≠ tag)).map Txn.fixedPart ∧ t.GrantedInOrder

/-- DATA_WANTED_SENT opens the intake of the job in DATA_WAIT with its timer at 50, and the output
falls free and is granted in order; DATA_WAIT_EXPIRY closes the intake whose
timer has reached 0 and fails the transaction DATA_TIMEOUT, counting no sector; it becomes DRAINING where it keeps work that
may not be cancelled, else DONE at once (R23, R29, R30, R32). That the command changes nothing
while the timer has not reached 0 is THE MODEL'S CHOICE (notes/assumptions/15.md). -/
def Obligations.IntakeOpensAndExpires : Prop :=
  ∀ (s : State) (tag : Fin 16), s.power = .running →
    (∀ j, s.uli.output = .dataWanted tag → s.waitingJob tag = some j → s.intake? tag = none →
      ∃ t, exec .dataWantedSent s = .next t ∧
        t.uli.sent = .dataWanted tag (8 * j.unit + j.first.val) j.count :: s.uli.sent ∧
        t.intake? tag = some { tag := tag, owed := j.count, next := j.first, timer := some 50 } ∧
        t.GrantedInOrder) ∧
    (∀ i x, s.intake? tag = some i → i.timer = some 0 → s.txn? tag = some x → x.phase = .active →
      x.failure = none → ∃ t y, exec (.dataWaitExpiry tag) s = .next t ∧ t.intake? tag = none ∧
        s.OthersKept t tag ∧ t.txn? tag = some y ∧ y.failure = some .dataTimeout ∧ y.done = x.done ∧
        y.MovesOn (s.KeepsWork tag) .dataTimeout) ∧
    (∀ i n, s.intake? tag = some i → i.timer = some (n + 1) → exec (.dataWaitExpiry tag) s = .next s)

/-- READ_DATA_SENT: the sector at the run's place is sent and counted; before the k-th of an ACTIVE READ the run goes on. At
the k-th, and at whatever record the READ had failed by, the job ends and its buffer is freed, and the output falls free and
is granted again, to a delivery run only of the lowest unit that its transaction holds; a READ whose sectors are all done
completes, and none before; and a DRAINING one completes with its failure as this was
the last work it waited on, whatever page writes others have outstanding, and is DRAINING until then (R23, R25, R26, R29, R55, R60). -/
def Obligations.ReadDataSent : Prop :=
  ∀ (s : State) (tag : Fin 16) (j : Job) (x : Txn), s.power = .running → s.TagsOk → s.uli.output = .delivery tag →
    s.deliveringJob tag = some j → s.txn? tag = some x →
    ∃ t y, exec .readDataSent s = .next t ∧
      t.uli.sent = .readData tag (8 * j.unit + (j.first.val + j.sent))
        (Memory.load s.ubp.mem (4096 * j.buf.val + 512 * (j.first.val + j.sent)) 512) :: s.uli.sent ∧
      t.txn? tag = some y ∧ y.done = x.done + 1 ∧ y.failure = x.failure ∧ s.OthersKept t tag ∧
      (j.sent + 1 < j.count → x.phase = .active →
        t.uli.output = .delivery tag ∧ t.deliveringJob tag = some { j with sent := j.sent + 1 } ∧ y.phase = .active) ∧
      (j.count ≤ j.sent + 1 → (∀ k ∈ t.ubp.jobs, k.buf = j.buf → k.state ≠ .delivering) ∧
        (s.ind.slot = none → s.ind.rest = none → s.ac.standby = false → t.ind.slot = some .activity) ∧
        (x.phase = .active → x.failure = none → x.transfer = some (x.done + 1) →
          y.phase = .done ∧ y.outcome = some (if x.transfer = x.requested then .good else .short)) ∧
        (x.phase = .active → x.failure = none → x.transfer ≠ some (x.done + 1) →
          y.phase = .active ∧ y.outcome = x.outcome)) ∧
      (j.count ≤ j.sent + 1 ∨ x.phase ≠ .active → t.GrantedInOrder) ∧ (s.BuffersOk → s.DeliversLowest t) ∧
      (∀ f, x.phase = .draining → x.failure = some f →
        (∀ k ∈ t.ubp.jobs, k.buf = j.buf → k.state ≠ .delivering) ∧ t.uli.output ≠ .delivery tag ∧
        y.MovesOn ((s.lessBuffer j.buf).lessOutput.KeepsWork tag) f.outcome)

/-- OVERLAY_READ_DATA_SENT: the next sector of the overlay image is sent and counted; the run goes on to the last sector of an
ACTIVE READ, a READ whose sectors are all done completes, and a DRAINING one with its failure as this was the last
work it waited on; at the end of the run the output falls free and is granted
in order (R13, R14, R23, R25, R29). -/
def Obligations.OverlayReadDataSent : Prop :=
  ∀ (s : State) (tag : Fin 16) (x : Txn) (lba m : Nat), s.power = .running → s.uli.output = .overlay tag →
    s.txn? tag = some x → x.lba = some lba → x.transfer = some m →
    ∃ t y, exec .overlayReadDataSent s = .next t ∧
      t.uli.sent = .readData tag (lba + x.done)
        ((List.range 512).map (fun i => Config.overlayByte (512 * (lba + x.done) + i))) :: s.uli.sent ∧
      t.txn? tag = some y ∧ y.done = x.done + 1 ∧ y.failure = x.failure ∧ s.OthersKept t tag ∧
      (x.phase = .active → x.done + 1 < m → t.uli.output = .overlay tag ∧ y.phase = .active) ∧
      (x.phase ≠ .active ∨ m ≤ x.done + 1 → t.GrantedInOrder) ∧
      (x.phase = .active → x.failure = none → m = x.done + 1 →
        y.phase = .done ∧ y.outcome = some (if x.requested = some m then .good else .short)) ∧
      (∀ f, x.phase = .draining → x.failure = some f → y.MovesOn (s.lessOutput.KeepsWork tag) f.outcome)

/-! ## Completions -/

/-- PAGE_READ_COMPLETION: an OK completion places the page in the job's buffer, every other byte unchanged, and the job
awaits or begins its decipherment; an ERROR fails the transaction MEDIA_FAULT, DRAINING or DONE by the work it keeps, and
places nothing; a completion for an abandoned job ends it, changes no transaction and requests no ACTIVITY; one that names no
occupied slot changes nothing (R23, R48, R61, R69). -/
def Obligations.PageReadCompletion : Prop :=
  ∀ (s : State) (d : Byte), s.power = .running →
    (∀ p b j, s.InSlot d (.pageRead p) (.job b) → s.job? b = some j → j.abandoned = false →
      (∀ page : List Byte, page.length = 4096 → ∃ t k, exec (.pageReadCompletion d 0 page) s = .next t ∧
        (∀ a, Memory.read t.ubp.mem a =
          if 4096 * b.val ≤ a ∧ a < 4096 * b.val + 4096 then page.getD (a - 4096 * b.val) 0
          else Memory.read s.ubp.mem a) ∧
        t.job? b = some k ∧ k.unit = j.unit ∧ k.owner = j.owner ∧ (k.state = .decryptWait ∨ k.state = .decrypting)) ∧
      (∀ status rest x, status ≠ 0 → s.txn? j.owner = some x → x.phase = .active → x.failure = none → s.TagsOk →
        ∃ t y, exec (.pageReadCompletion d status rest) s = .next t ∧ t.txn? j.owner = some y ∧
          y.failure = some .mediaFault ∧ y.done = x.done ∧ y.phase ≠ .active ∧
          y.MovesOn (((s.lessBuffer b).lessSlot d).KeepsWork j.owner) .mediaFault ∧ t.ubp.mem = s.ubp.mem ∧
          s.OthersKept t j.owner ∧
          ∀ k ∈ t.ubp.jobs, k.buf = b → k.owner ≠ j.owner)) ∧
    (∀ p b j, s.InSlot d (.pageRead p) (.job b) → s.job? b = some j → j.abandoned = true →
      ∀ status rest, ∃ t, exec (.pageReadCompletion d status rest) s = .next t ∧ s.EndsAbandoned t b ∧
        (∀ k ∈ t.ubp.jobs, k.buf = b → k.abandoned = false) ∧
        t.txns.map (fun x => (x.tag, x.failure, x.phase, x.done)) =
          s.txns.map (fun x => (x.tag, x.failure, x.phase, x.done))) ∧
    ((3 < d.toNat ∨ ∀ x ∈ s.dli.slots, x.dtag ≠ Fin.ofNat 4 d.toNat) → ∀ status rest,
      exec (.pageReadCompletion d status rest) s = .next s ∧ exec (.pageWriteCompletion d status rest) s = .next s ∧
      exec (.syncCompletion d status rest) s = .next s ∧ exec (.discardCompletion d status rest) s = .next s)

/-- PAGE_WRITE_COMPLETION: a confirmed page write counts the job's sectors, leaves every flush mark, shows an activity
flicker, and completes an ACTIVE WRITE whose sectors are all done and no other; an ERROR leaves the marks, counts nothing and
fails the transaction, DRAINING or DONE by the work it keeps. Either way a DRAINING WRITE becomes DONE with its recorded
failure as the last work it waits on ends, and is DRAINING until then; the page write of an abandoned job leaves the marks and ends it, counted
for no transaction and showing nothing. A FLUSH whose mark held that page write alone asks for its SYNC. The buffer freed goes
to the oldest transaction that wants one, and each job that starts is its next unit, with the split's first offset, count and
kind (R9, R10, R23, R25, R26, R42, R46, R47, R49, R53, R61, R66, R69, R75, R76). That a transaction of fewer than four jobs wants a
buffer, so that a page write confirmed out of order lets unit i + 4 start before the job on unit i has ended, is THE MODEL'S
CHOICE (R46 against R44, notes/assumptions/44.md). -/
def Obligations.PageWriteCompletion : Prop :=
  (∀ (s : State) (d : Byte) (p : Nat) (b : Fin 8) (j : Job) (x : Txn), s.power = .running → s.TagsOk →
    s.InSlot d (.pageWrite p) (.job b) → s.job? b = some j → j.abandoned = false → s.txn? j.owner = some x →
    (∃ t y, exec (.pageWriteCompletion d 0 []) s = .next t ∧ t.txn? j.owner = some y ∧
      y.done = x.done + j.count ∧ y.failure = x.failure ∧ t.ubp.mem = s.ubp.mem ∧ s.OthersKept t j.owner ∧
      s.BuffersInOrder t ∧
      (∀ z ∈ s.txns, ∃ w ∈ t.txns, w.tag = z.tag ∧ t.StartedRight (s.lessBuffer b).ubp.jobs w z.nextUnit
        (if z.tag = j.owner then z.jobsHeld - 1 else z.jobsHeld)) ∧
      (∀ z ∈ t.txns, z.marks b = false) ∧ s.SyncsAsked t b ∧
      (s.ind.slot = none → s.ind.rest = none → s.ac.standby = false → t.ind.slot = some .activity) ∧
      (x.phase = .active → x.failure = none → x.transfer = some (x.done + j.count) →
        y.phase = .done ∧ y.outcome = some (if x.transfer = x.requested then .good else .short)) ∧
      (x.phase = .active → x.failure = none → x.transfer ≠ some (x.done + j.count) →
        y.phase = .active ∧ y.outcome = x.outcome) ∧
      (∀ f, x.phase = .draining → x.failure = some f →
        y.MovesOn (((s.lessBuffer b).lessSlot d).KeepsWork j.owner) f.outcome)) ∧
    ∀ status rest, status ≠ 0 → ∃ t y, exec (.pageWriteCompletion d status rest) s = .next t ∧
      t.txn? j.owner = some y ∧ y.done = x.done ∧
      (∀ f, x.phase = .draining → x.failure = some f → y.failure = some f ∧
        y.MovesOn (((s.lessBuffer b).lessSlot d).KeepsWork j.owner) f.outcome) ∧ (∀ z ∈ t.txns, z.marks b = false) ∧ t.ind.slot = s.ind.slot ∧
      (x.kind ≠ .flush → s.SyncsAsked t b) ∧
      (x.phase = .active → x.failure = none → y.failure = some .mediaFault ∧ y.phase ≠ .active ∧
        y.MovesOn (((s.lessBuffer b).lessSlot d).KeepsWork j.owner) .mediaFault)) ∧
  ∀ (s : State) (d : Byte) (p : Nat) (b : Fin 8) (j : Job), s.power = .running →
    s.InSlot d (.pageWrite p) (.job b) → s.job? b = some j → j.abandoned = true →
    ∀ status rest, ∃ t, exec (.pageWriteCompletion d status rest) s = .next t ∧ s.EndsAbandoned t b ∧
      t.ubp.mem = s.ubp.mem ∧ (∀ z ∈ t.txns, z.marks b = false) ∧
      (s.TagsOk → s.SyncsAsked t b ∧ s.BuffersInOrder t ∧
        ∀ z ∈ s.txns, ∃ w ∈ t.txns, w.tag = z.tag ∧
          t.StartedRight (s.lessBuffer b).ubp.jobs w z.nextUnit z.jobsHeld)

/-- SYNC_COMPLETION: OK completes the FLUSH GOOD with residue 0, ERROR fails it MEDIA_FAULT, and a DRAINING FLUSH completes
with its recorded failure whatever the result, the SYNC being the last work it waits on, whatever page writes others have
outstanding; the result of a SYNC whose slot has no owner passes to no transaction; the slot freed goes to the slot arbiter's choice, and each operation issued
goes out as one frame with its dtag, a PAGE_WRITE with the 4096 bytes of its job's buffer
(R23, R64, R65, R67, R68, R69, R76, R78, R173). -/
def Obligations.SyncCompletion : Prop :=
  (∀ (s : State) (d : Byte) (f : Fin 16) (x : Txn), s.power = .running → s.dli.requests.Nodup →
    s.InSlot d .sync (.flush f) → s.txn? f = some x → x.kind = .flush → x.requested = none → x.transfer = none →
    (∀ status rest, ∃ t, exec (.syncCompletion d status rest) s = .next t ∧ s.IssuedInOrder t ∧
      s.FramesSent t (s.dli.slots.filter (fun z => z.dtag != Fin.ofNat 4 d.toNat))) ∧
    (x.phase = .active → x.failure = none → ∃ t y, exec (.syncCompletion d 0 []) s = .next t ∧
      t.txn? f = some y ∧ y.phase = .done ∧ y.outcome = some .good ∧ y.residue = 0 ∧ s.OthersKept t f) ∧
    (∀ status rest, status ≠ 0 → x.phase = .active → x.failure = none →
      ∃ t y, exec (.syncCompletion d status rest) s = .next t ∧ t.txn? f = some y ∧
        y.failure = some .mediaFault ∧ y.phase ≠ .active ∧ y.residue = 0 ∧
        y.MovesOn ((s.lessSlot d).KeepsWork f) .mediaFault) ∧
    (∀ status rest g, x.phase = .draining → x.failure = some g →
      ∃ t y, exec (.syncCompletion d status rest) s = .next t ∧ t.txn? f = some y ∧ y.failure = some g ∧
        y.MovesOn ((s.lessSlot d).KeepsWork f) g.outcome)) ∧
  ∀ (s : State) (d : Byte), s.power = .running → s.InSlot d .sync .nobody → ∀ status rest,
    ∃ t, exec (.syncCompletion d status rest) s = .next t ∧ t.txns.map Txn.fixedPart = s.txns.map Txn.fixedPart ∧
      t.ind.slot = s.ind.slot ∧ t.uli.refusals = s.uli.refusals ∧ t.uli.intakes = s.uli.intakes ∧
      t.ubp.mem = s.ubp.mem ∧ (∀ z ∈ t.dli.slots, z.dtag = Fin.ofNat 4 d.toNat → z.owner ≠ .nobody) ∧
      (s.dli.requests.Nodup → s.IssuedInOrder t)

/-- DISCARD_COMPLETION: the sweep's cursor, retry flag and windows since persist by the result, then the next window, the
cursor write at the sixteenth window or at a skip, or the NONE write at the end of the pass; the result of an earlier
pass's DISCARD is dropped, moving nothing of the sweep, and a new pass it held back then makes its first window due
(R142, R143, R144, R145, R146, R148). -/
def Obligations.DiscardCompletion : Prop :=
  (∀ (s : State) (d : Byte) (c n u : Nat), s.power = .running → s.InSlot d (.discard c n) .sweep →
    s.swu.cursor = some c → s.dli.usable = some u → s.dli.media = .ok → c < u → s.swu.dropResult = false →
    s.swu.hold = false → s.swu.writeOut = false →
    (∃ t, exec (.discardCompletion d 0 []) s = .next t ∧ t.swu.cursor = some (c + n) ∧ t.swu.retry = false ∧
      (c + n < u → s.swu.since + 1 < 16 → t.swu.since = s.swu.since + 1 ∧ t.swu.writeOut = false ∧
        t.swu.discardOut = true ∧ t.Asked (.discard (c + n) (min 256 (u - (c + n)))) .sweep) ∧
      (c + n < u → 16 ≤ s.swu.since + 1 → t.swu.since = 0 ∧ t.swu.writeOut = true ∧ t.swu.discardOut = false ∧
        { bySweep := true, body := .dev { DevUpdate.none with cursor := some (some (c + n)) } } ∈ t.ks.queue) ∧
      (u ≤ c + n → t.swu.writeOut = true ∧ t.swu.discardOut = false ∧
        { bySweep := true, body := .dev { DevUpdate.none with cursor := some none } } ∈ t.ks.queue)) ∧
    ∀ status rest, status ≠ 0 → ∃ t, exec (.discardCompletion d status rest) s = .next t ∧
      (s.swu.retry = false → t.swu.cursor = some c ∧ t.swu.retry = true ∧ t.swu.since = s.swu.since ∧
        t.Asked (.discard c (min 256 (u - c))) .sweep) ∧
      (s.swu.retry = true → t.swu.cursor = some (c + n) ∧ t.swu.retry = false ∧ t.swu.since = 0 ∧
        t.swu.writeOut = true ∧
        { bySweep := true, body := .dev { DevUpdate.none with
            cursor := some (if u ≤ c + n then none else some (c + n)), degraded := some true } } ∈ t.ks.queue)) ∧
  ∀ (s : State) (d : Byte) (c n : Nat), s.power = .running → s.InSlot d (.discard c n) .sweep →
    s.swu.dropResult = true → s.swu.writeOut = false → ∀ status rest,
    ∃ t, exec (.discardCompletion d status rest) s = .next t ∧ s.ResultDropped t

/-- ERROR_COMPLETION_TAKEN: a job's or a FLUSH's transaction fails MEDIA_FAULT counting nothing, DRAINING or DONE by the work
it keeps; one that is DRAINING becomes DONE with its recorded failure as the last work it waits on ends; an abandoned job ends, and its completion passes to no transaction; a page write leaves every flush mark, and a
FLUSH whose mark held it alone asks for its SYNC; the sweep takes LOST, which leaves cursor, retry flag and windows as they
were and the sweep PAUSED while the media is not OK or the erase hold is set, and after a new identification makes the window
due again with the new U, or completes the pass; of an earlier pass LOST is dropped
(R23, R26, R61, R69, R73, R75, R76, R77, R141, R142, R144, R147, R148). -/
def Obligations.ErrorCompletionTaken : Prop :=
  ∀ (s : State) (o : Owner) (e : PendingError), s.power = .running →
    s.dli.errors.find? (fun e => e.owner == o) = some e →
    (∀ b j x p, o = .job b → (e.op = .pageRead p ∨ e.op = .pageWrite p) → s.job? b = some j → j.abandoned = false →
      s.txn? j.owner = some x → x.phase = .active → x.failure = none →
      ∃ t y, exec (.errorCompletionTaken o) s = .next t ∧ t.txn? j.owner = some y ∧
        y.failure = some .mediaFault ∧ y.done = x.done ∧ y.phase ≠ .active ∧ t.ind.slot = s.ind.slot ∧
        s.OthersKept t j.owner ∧
        (s.TagsOk → y.MovesOn ((s.lessBuffer b).KeepsWork j.owner) .mediaFault ∧
          (e.op = .pageWrite p → (∀ z ∈ t.txns, z.marks b = false) ∧ (x.kind ≠ .flush → s.SyncsAsked t b)))) ∧
    (∀ b j x p f, o = .job b → (e.op = .pageRead p ∨ e.op = .pageWrite p) → s.job? b = some j → j.abandoned = false →
      s.txn? j.owner = some x → x.phase = .draining → x.failure = some f → s.TagsOk →
      ∃ t y, exec (.errorCompletionTaken o) s = .next t ∧ t.txn? j.owner = some y ∧ y.failure = some f ∧
        y.done = x.done ∧ y.MovesOn ((s.lessBuffer b).KeepsWork j.owner) f.outcome ∧ s.OthersKept t j.owner) ∧
    (∀ b j p, o = .job b → (e.op = .pageRead p ∨ e.op = .pageWrite p) → s.job? b = some j → j.abandoned = true →
      ∃ t, exec (.errorCompletionTaken o) s = .next t ∧ s.EndsAbandoned t b ∧ t.ubp.mem = s.ubp.mem ∧
        (e.op = .pageWrite p → (∀ z ∈ t.txns, z.marks b = false) ∧ (s.TagsOk → s.SyncsAsked t b))) ∧
    (∀ f x, o = .flush f → s.txn? f = some x → x.phase = .active → x.failure = none →
      ∃ t y, exec (.errorCompletionTaken o) s = .next t ∧ t.txn? f = some y ∧ y.failure = some .mediaFault ∧
        y.phase ≠ .active ∧ y.MovesOn ((s.lessError e).KeepsWork f) .mediaFault) ∧
    (∀ f x g, o = .flush f → s.txn? f = some x → x.phase = .draining → x.failure = some g →
      ∃ t y, exec (.errorCompletionTaken o) s = .next t ∧ t.txn? f = some y ∧ y.failure = some g ∧
        y.MovesOn ((s.lessError e).KeepsWork f) g.outcome) ∧
    (∀ c n, o = .sweep → e.op = .discard c n → s.swu.dropResult = false → s.swu.writeOut = false →
      s.dli.media ≠ .ok ∨ s.swu.hold = true → ∃ t, exec (.errorCompletionTaken o) s = .next t ∧
        t.swu = { s.swu with state := .paused, discardOut := false } ∧ t.ks = s.ks) ∧
    (∀ c n b u, o = .sweep → e.op = .discard c n → s.swu.dropResult = false → s.swu.writeOut = false →
      s.dli.media = .ok → s.swu.hold = false → s.swu.cursor = some b → s.dli.usable = some u →
      ∃ t, exec (.errorCompletionTaken o) s = .next t ∧ t.WindowDue b u ∧ t.swu.retry = s.swu.retry ∧
        (b < u → t.swu.since = s.swu.since ∧ t.ks = s.ks)) ∧
    (∀ c n, o = .sweep → e.op = .discard c n → s.swu.dropResult = true → s.swu.writeOut = false →
      ∃ t, exec (.errorCompletionTaken o) s = .next t ∧ s.ResultDropped t)

/-- CIPHER_COMPLETION: the unit in the buffer is replaced by its image under the cipher with the key register's key and the
unit's index as tweak, every other byte unchanged, and the job moves on by its kind; the CE's next job is the
lowest unit queued of the oldest transaction with a job queued; a job enters DATA_WAIT only with every lower one of its
transaction having all its data, and DELIVERING only on the lowest unit its transaction holds; and a page write issued at
once carries the unit as it now stands in the buffer (R12, R48, R49, R50, R51, R54, R57, R58, R64, R173). -/
def Obligations.CipherCompletion : Prop :=
  ∀ (s : State) (j : Job) (k : Key), s.power = .running → s.BuffersOk →
    s.ubp.jobs.find? (fun j => j.ciphering) = some j → s.ce.key = some k →
    ∃ t j', exec .cipherCompletion s = .next t ∧
      (∀ i : Fin 4096, Memory.read t.ubp.mem (4096 * j.buf.val + i.val) =
        (if j.state = .decrypting then (Config.cipher k (BitVec.ofNat 64 j.unit)).symm
          else Config.cipher k (BitVec.ofNat 64 j.unit))
          (fun n => Memory.read s.ubp.mem (4096 * j.buf.val + n.val)) i) ∧
      (∀ a, (a < 4096 * j.buf.val ∨ 4096 * j.buf.val + 4096 ≤ a) →
        Memory.read t.ubp.mem a = Memory.read s.ubp.mem a) ∧
      t.job? j.buf = some j' ∧ j'.unit = j.unit ∧ j'.owner = j.owner ∧
      s.CipherInOrder t ∧ s.WaitsInOrder t ∧ s.DeliversLowest t ∧ s.FramesSent t s.dli.slots ∧
      (j.state = .decrypting → j.kind = .read → j'.state = .deliverWait ∨ j'.state = .delivering) ∧
      (j.state = .decrypting → j.kind ≠ .read → j'.state = .dataQueue ∨ j'.state = .dataWait) ∧
      (j.state = .encrypting → j'.state = .mediaWrite ∧
        (s.dli.media = .ok → j.unit < s.dli.usable.getD 0 → t.Asked (.pageWrite j.unit) (.job j.buf)))

/-! ## The media -/

/-- IDENT gives P, U, the flag and the media condition of R4's table; while the condition is OK and U the same it touches
nothing else of the link's work; where it reports the condition OK anew, a PAUSED sweep that is not held makes its window due
with the new U. MEDIA_LOST makes the condition ABSENT, frees every slot and removes every request, and keeps P, U and the
flag; each operation issued and each request is completed ERROR toward its owner, which takes it as its own event, but for a
request whose job or FLUSH the lock event of the loss has ended; a verify for an unlock marks the loss as seen. An IDENT taken
while OK with another U, or with P below 32,768, is such a loss: what the link then holds has been asked for since
(R4, R5, R70, R72, R73, R74, R86, R141, R147, R149, R166). -/
def Obligations.IdentAndMediaLost : Prop :=
  ∀ (s : State) (early : List Owner), s.power ≠ .off →
    (∀ p : BitVec 32, ∃ t, exec (.ident p early) s = .next t ∧ t.dli.reported = some p ∧
      t.dli.usable = (if p.toNat < 32768 then none else some (min p.toNat 536870912)) ∧
      t.dli.clamped = decide (536870912 < p.toNat) ∧
      t.dli.media = (if p.toNat < 32768 then .unusable else .ok) ∧ t.dli.identWait = none ∧
      (s.dli.media = .ok → 32768 ≤ p.toNat → s.dli.usable = some (min p.toNat 536870912) →
        t.ac = s.ac ∧ t.atr = s.atr ∧ t.uli.attn = s.uli.attn ∧ (∀ x ∈ s.dli.slots, x ∈ t.dli.slots) ∧
        (∀ r ∈ s.dli.requests, t.Asked r.op r.owner) ∧
        t.txns.map (fun x => (x.tag, x.failure, x.phase, x.done)) =
          s.txns.map (fun x => (x.tag, x.failure, x.phase, x.done))) ∧
      (32768 ≤ p.toNat → (s.dli.media ≠ .ok ∨ s.dli.usable ≠ some (min p.toNat 536870912)) → s.power = .running →
        s.swu.state = .paused → s.swu.hold = false → s.swu.discardOut = false → s.swu.writeOut = false →
        .sweep ∉ s.opOwners → ∀ c, s.swu.cursor = some c → t.WindowDue c (min p.toNat 536870912))) ∧
    (s.dli.media ≠ .absent → ∃ t, exec (.mediaLost early) s = .next t ∧ t.dli.media = .absent ∧
      t.dli.slots = [] ∧ t.dli.requests = [] ∧ t.dli.reported = s.dli.reported ∧ t.dli.usable = s.dli.usable ∧
      t.dli.clamped = s.dli.clamped ∧ t.dli.identWait = none ∧
      (s.ac.presentation = .overlay → s.ac.scope = some .unlock →
        t.ac.lossSeen = true ∧ t.ac.access = s.ac.access ∧ t.ac.scope = s.ac.scope)) ∧
    (s.dli.media ≠ .absent → ∃ t, exec (.mediaLost []) s = .next t ∧ s.LossCompleted t) ∧
    (∀ p : BitVec 32, s.dli.media = .ok →
      (p.toNat < 32768 ∨ s.dli.usable ≠ some (min p.toNat 536870912)) →
      (∃ t, exec (.ident p early) s = .next t ∧
        (p.toNat < 32768 → t.dli.slots = [] ∧ t.dli.requests = []) ∧
        (s.ac.presentation = .overlay → s.ac.scope = some .unlock →
          t.ac.lossSeen = true ∧ t.ac.access = s.ac.access ∧ t.ac.scope = s.ac.scope)) ∧
      ∃ t, exec (.ident p []) s = .next t ∧ s.LossCompleted t ∧
        (s.TagsOk → s.BuffersOk → s.RequestsOk → s.ActiveOk → s.LinkFreed t)) ∧
    (s.dli.media = .absent → exec (.mediaLost early) s = .next s)

/-- The IDENT wait: started at 50 ticks at power-on, counted at each tick while UNKNOWN, stopped by an IDENT or a MEDIA_LOST,
ABSENT at its expiry, and restarted by no later event (R71). -/
def Obligations.IdentWait : Prop :=
  (∀ s : State, s.power = .off → ∃ t, exec .powerOn s = .next t ∧ t.dli.identWait = some 50 ∧
    t.dli.media = .unknown) ∧
  (∀ s : State, s.power ≠ .off → ∃ t, exec .tick s = .next t ∧
    t.dli.identWait = (if s.dli.media = .unknown then s.dli.identWait.map (· - 1) else s.dli.identWait)) ∧
  (∀ (s : State) (p : BitVec 32) (early : List Owner), s.power ≠ .off → s.dli.media ≠ .absent →
    (∃ t, exec (.ident p early) s = .next t ∧ t.dli.identWait = none ∧
      (t.dli.media = .ok ∨ t.dli.media = .unusable)) ∧
    ∃ t, exec (.mediaLost early) s = .next t ∧ t.dli.identWait = none) ∧
  (∀ (s : State) (p : BitVec 32) (early : List Owner), s.power ≠ .off → s.dli.media = .unknown →
    s.dli.identWait = some 0 → ∃ t, exec .identWaitExpiry s = .next t ∧ t.dli.media = .absent ∧
      t.dli.identWait = none ∧ t.dli.usable = s.dli.usable ∧
      ∃ r, exec (.ident p early) t = .next r ∧ (r.dli.media = .ok ∨ r.dli.media = .unusable)) ∧
  ∀ (c : Instr) (s t : State), c ≠ .powerOn → exec c s = .next t → s.dli.identWait = none → t.dli.identWait = none

/-! ## Keypad and entries -/

/-- An entry produced is placed at the tail of the FIFO, or over the tail with OVERRUN when 6 are held, the five older
entries untouched; the idle counter is reloaded and nothing else changes (R104, R105). That an entry recognised waits in
Kps.due until it is placed is the model's reading (notes/assumptions/22.md). -/
def Obligations.EntriesPlaced : Prop :=
  ∀ (s : State) (e : KeyEntry) (rest : List KeyEntry), s.power ≠ .off → s.kps.due = e :: rest →
    ∃ fifo, exec (if e.key = .shiftTap then .shiftTapProduced else .keyEntryProduced) s = .next { s with
        kps := { s.kps with due := rest, fifo := fifo },
        ac := { s.ac with
          idle := if s.ac.access.unlocked ∧ s.ac.idle.isSome then some (s.ks.dev.fields.autoLock * 600)
            else s.ac.idle } } ∧
      (s.kps.fifo.length < 6 → fifo = s.kps.fifo ++ [e]) ∧
      (s.kps.fifo.length = 6 → fifo = s.kps.fifo.take 5 ++ [{ e with overrun := true }] ∧ fifo.length = 6)

/-- A full FIFO: a new entry overwrites the tail with OVERRUN set, and the five older entries stay (R105). -/
def Obligations.FullFifoMarksOverrun : Prop :=
  ∀ (s : State) (e : KeyEntry) (rest older : List KeyEntry) (last : KeyEntry), s.power ≠ .off →
    s.kps.due = e :: rest → s.kps.fifo = older ++ [last] → older.length = 5 →
    ∃ t new, exec (if e.key = .shiftTap then .shiftTapProduced else .keyEntryProduced) s = .next t ∧
      t.kps.fifo = older ++ [new] ∧ new.key = e.key ∧ new.shifted = e.shifted ∧ new.chord = e.chord ∧
      new.overrun = true ∧ new.flagged = true ∧ t.kps.fifo.length = 6

/-- SCAN: each key's run count and debounced state; the press group's opening, chorded when two keys are recognised DOWN at
one scan, and the one entry it makes at the close; no key entry where no group closes; a group that stays as it was, and none
opened, where no digit or KEY is recognised DOWN and one is still DOWN; the shift hold's opening, clean or not, what makes it
unclean, and the SHIFT_TAP at the end of a clean hold alone (R101, R102, R103). That the entries wait in Kps.due, the group's
before the SHIFT_TAP, is the model's reading (notes/assumptions/22.md), and so is a hold's cleanness where a group's edge
falls on the same scan as the hold's (notes/assumptions/38.md, 39.md), and that a ghost closure is taken as any other, for the
lead and the shifted flag too where it is recognised at the scan of the lead (notes/assumptions/45.md). -/
def Obligations.ScanRecognises : Prop :=
  ∀ (s : State) (closed : BitVec 12), s.power ≠ .off →
    (s.kps.scanning = false → exec (.scan closed) s = .next s) ∧
    (s.kps.scanning = true → ∃ k, exec (.scan closed) s = .next (s.setKps k) ∧ k.fifo = s.kps.fifo ∧
      (∀ p, p < 12 → ∀ x, s.kps.keys[p]? = some x → k.keys[p]? = some
        (if closed.getLsbD p = x.down then { x with run := 0 }
          else if x.run < 2 then { x with run := x.run + 1 } else { down := closed.getLsbD p, run := 0 })) ∧
      (∀ p ∈ groupPositions, s.kps.group = none → downAt s.kps.keys p = false → downAt k.keys p = true →
        (∀ q ∈ groupPositions, q ≠ p → downAt s.kps.keys q = false ∧ downAt k.keys q = false) →
        k.group = some { lead := p, shifted := downAt k.keys 9, chorded := false }) ∧
      (∀ g, s.kps.group = some g → (∀ q ∈ groupPositions, downAt k.keys q = false) →
        k.group = none ∧ k.due = s.kps.due ++
          [{ key := keyAt g.lead, shifted := g.shifted, chord := g.chorded, overrun := false }] ++ s.tapOf k) ∧
      (s.kps.group = none ∨ (∃ q ∈ groupPositions, downAt k.keys q = true) → k.due = s.kps.due ++ s.tapOf k) ∧
      ((∀ p ∈ groupPositions, downAt s.kps.keys p = false → downAt k.keys p = false) →
        (s.kps.group = none → k.group = none) ∧
        ((∃ q ∈ groupPositions, downAt k.keys q = true) → k.group = s.kps.group)) ∧
      (∀ p q, s.kps.group = none → p ∈ groupPositions → q ∈ groupPositions → p < q →
        (∀ r ∈ groupPositions, downAt s.kps.keys r = false) → downAt k.keys p = true → downAt k.keys q = true →
        (∀ r ∈ groupPositions, r < p → downAt k.keys r = false) →
        k.group = some { lead := p, shifted := downAt k.keys 9, chorded := true }) ∧
      (∀ g p, s.kps.group = some g → p ∈ groupPositions → downAt s.kps.keys p = false → downAt k.keys p = true →
        k.group = some { g with chorded := true }) ∧
      (downAt s.kps.keys 9 = false → downAt k.keys 9 = true →
        k.hold = some (decide (∀ p ∈ groupPositions, downAt k.keys p = false))) ∧
      (∀ clean, s.kps.hold = some clean → downAt s.kps.keys 9 = true → downAt k.keys 9 = true →
        k.hold = some (clean && decide (∀ p ∈ groupPositions, downAt s.kps.keys p = false → downAt k.keys p = false))) ∧
      (downAt s.kps.keys 9 = true → downAt k.keys 9 = false → k.hold = none))

/-- Digits, SHIFT_TAPs and shifted digits taken: what they do to the stack, to OVERLONG and to the pending command, under either
table; and the entry timer, reloaded while the ECP is composing and stopped by the SHIFT_TAP that empties the stack in
BLANK.FIRST or PRESENTED (R89, R106, R107, R108, R111, R113). -/
def Obligations.EntriesEditStack : Prop :=
  ∀ (s : State) (e : KeyEntry) (rest : List KeyEntry), s.TakesEntry e rest →
    (∀ d sh c, e.Is (.digit d) sh → c = (if sh then Instr.shiftedDigitTaken else Instr.digitTaken) →
      s.ecp.adminTable = false → ∃ t, exec c s = .next t ∧ t.kps.fifo = rest ∧
        t.ac.access = s.ac.access ∧ t.ecp.copy = s.ecp.copy ∧
        (s.ac.access.pushes = true → s.ecp.stack.length < 15 → t.ecp.stack = s.ecp.stack ++ [d] ∧
          t.ecp.overlong = s.ecp.overlong ∧ t.ecp.timer = some 100) ∧
        (s.ac.access.pushes = true → 15 ≤ s.ecp.stack.length → t.ecp.stack = s.ecp.stack ∧
          t.ecp.overlong = true ∧ t.ecp.timer = some 100) ∧
        (s.ac.access.pushes = false → t.ecp.stack = s.ecp.stack ∧ t.ecp.overlong = s.ecp.overlong)) ∧
    (∀ d, e.Is (.digit d) false → s.ecp.adminTable = true → ∃ t, exec .digitTaken s = .next t ∧
      t.kps.fifo = rest ∧ t.ac.access = s.ac.access ∧ t.ecp.command = s.ecp.command ∧
      t.ecp.stack = (if s.ecp.command.isSome ∧ s.ecp.stack.length < 15 then s.ecp.stack ++ [d] else s.ecp.stack) ∧
      (t.ecp.overlong = true ↔ s.ecp.overlong = true ∨ (s.ecp.command.isSome = true ∧ 15 ≤ s.ecp.stack.length)) ∧
      (s.ac.access = .adminSession → t.ecp.timer = if s.ecp.command.isSome then some 100 else none) ∧
      (s.ac.access = .adminSession → t.ac.admin = some 300)) ∧
    (e.Is .shiftTap false → ∃ t, exec .shiftTapTaken s = .next t ∧ t.kps.fifo = rest ∧
      t.ac.access = s.ac.access ∧ t.ecp.overlong = s.ecp.overlong ∧
      t.ecp.stack = (if (s.ecp.adminTable = true ∧ s.ecp.command.isSome) ∨
        (s.ecp.adminTable = false ∧ s.ac.access.pushes = true) then s.ecp.stack.dropLast else s.ecp.stack) ∧
      (s.ecp.adminTable = false → s.ac.access = .blankFirst ∨ s.ac.access = .presented →
        t.ecp.timer = if 2 ≤ s.ecp.stack.length then some 100 else none) ∧
      (s.ac.access = .lockedEntry ∨ s.ac.access = .lockedAdminEntry ∨ s.ac.access = .blankRepeat ∨
        s.ac.access = .change → t.ecp.timer = some 100) ∧
      (s.ac.access = .adminSession → t.ac.admin = some 300 ∧
        t.ecp.timer = if s.ecp.command.isSome then some 100 else none)) ∧
    (∀ d, e.Is (.digit d) true → s.ecp.adminTable = true → s.ac.access = .adminSession →
      ∃ t, exec .shiftedDigitTaken s = .next t ∧ t.kps.fifo = rest ∧ t.ac.access = .adminSession ∧
        t.ac.admin = some 300 ∧ t.ecp.command = (if d = 0 then none else some d) ∧
        (d ≠ 0 ∨ s.ecp.command.isSome → t.ecp.stack = [] ∧ t.ecp.copy = none ∧ t.ecp.overlong = false) ∧
        (d ≠ 0 → t.ecp.timer = some 100))

/-- KEY and shifted KEY from the LOCKED sub-states and in PRESENTED and SESSION: an entry begun, the checks of R84 in their
order, the change asked for, and the session ended, the composition cleared by each submission; in SETTLING, LOCKOUT and
ERASING the entry is discarded, the entry timer standing still (R83, R84, R89, R92, R99, R106, R107, R108, R111, R116, R156). -/
def Obligations.KeySubmits : Prop :=
  ∀ (s : State) (e : KeyEntry) (rest : List KeyEntry) (sh : Bool) (c : Instr), s.TakesEntry e rest → e.Is .key sh →
    c = (if sh then .shiftedKeyTaken else .keyTaken) →
    ∃ t, exec c s = .next t ∧ t.kps.fifo = rest ∧
      (s.ecp.adminTable = false → s.ac.access = .lockedIdle →
        t.ac.access = (if sh then .lockedAdminEntry else .lockedEntry) ∧ t.ecp.stack = [] ∧
        t.ecp.overlong = false ∧ t.ecp.timer = some 100 ∧ s.GivesNone t) ∧
      (s.ecp.adminTable = false → s.ac.access = .lockedEntry →
        ((s.ecp.stack.length < 7 ∨ s.ecp.overlong = true) → t.ac.access = .lockedIdle ∧ s.Gives t .format ∧
          t.cu.work = s.cu.work ∧ t.ecp.stack = [] ∧ t.ecp.overlong = false) ∧
        (7 ≤ s.ecp.stack.length → s.ecp.overlong = false →
          (s.swu.state ≠ .idle ∨ s.ks.dev.fields.erasePending = true ∨ s.dli.media ≠ .ok) →
          t.ac.access = .lockedIdle ∧ s.Gives t .refused ∧ t.cu.work = s.cu.work ∧ t.ecp.stack = [] ∧ t.ecp.overlong = false) ∧
        (7 ≤ s.ecp.stack.length → s.ecp.overlong = false → s.swu.state = .idle →
          s.ks.dev.fields.erasePending = false → s.dli.media = .ok →
          t.ac.access = .lockedVerifying ∧ t.ac.scope = some .unlock ∧ t.ac.lossSeen = false ∧
          t.ecp.ready = false ∧ t.ecp.stack = [] ∧ t.ecp.overlong = false ∧ s.GivesNone t ∧
          (s.cu.work = .idle → t.cu.work = .verify ∧ t.cu.kind = some .unlock ∧
            t.cu.digits = some s.ecp.stack))) ∧
      (s.ecp.adminTable = false → s.ac.access = .lockedAdminEntry →
        ((s.ecp.stack.length < 7 ∨ s.ecp.overlong = true) → t.ac.access = .lockedIdle ∧ s.Gives t .format ∧
          t.cu.work = s.cu.work ∧ t.ecp.stack = [] ∧ t.ecp.overlong = false) ∧
        (7 ≤ s.ecp.stack.length → s.ecp.overlong = false →
          t.ac.access = .lockedAdminVerifying ∧ t.ac.scope = some .admin ∧ t.ecp.ready = false ∧ t.ecp.stack = [] ∧
          t.ecp.overlong = false ∧
          (s.cu.work = .idle → t.cu.work = .verify ∧ t.cu.kind = some .admin ∧
            t.cu.digits = some s.ecp.stack))) ∧
      (s.ecp.adminTable = false → s.ac.access = .presented → s.ecp.stack ≠ [] →
        t.ac.access = .presented ∧ t.ecp.stack = [] ∧ t.ecp.overlong = false ∧ s.Gives t .format ∧ t.ce = s.ce) ∧
      (s.ecp.adminTable = false → s.ac.access = .presented → s.ecp.stack = [] → sh = true →
        ∀ i, s.ac.sessionSlot = some i → t.ecp.stack = [] ∧ t.ecp.overlong = false ∧
          (i ≠ 7 → t.ac.access = .change ∧ t.ecp.timer = some 100) ∧
          (i = 7 → t.ac.access = .presented ∧ s.Gives t .refused)) ∧
      (s.ecp.adminTable = false →
        s.ac.access = .settling ∨ s.ac.access = .lockout ∨ s.ac.access = .erasing →
        t.ac = s.ac ∧ t.ecp = { s.ecp with timer := none } ∧ t.cu = s.cu ∧ t.ce = s.ce ∧ s.GivesNone t) ∧
      (s.ecp.adminTable = true → s.ecp.command = none →
        t.ac.access = .lockedIdle ∧ t.cu.sessionKey = none ∧ t.ac.admin = none ∧ t.ecp.stack = [] ∧
          t.ecp.overlong = false)

/-- A PIN taken twice, in BLANK, in CHANGE and for the admin commands 1, 6 and 7: the checks of the first entry in their
order, the copy, and the second entry's match, with the target slot fixed at the hand-over and command 1 refused when no
user slot is EMPTY, or its mismatch (R99, R112, R114, R115, R131, R156). -/
def Obligations.PinTakenTwice : Prop :=
  ∀ (s : State) (e : KeyEntry) (rest : List KeyEntry) (sh : Bool) (c : Instr), s.TakesEntry e rest → e.Is .key sh →
    c = (if sh then .shiftedKeyTaken else .keyTaken) →
    ((s.ecp.adminTable = false ∧
        (s.ac.access = .blankFirst ∨ s.ac.access = .blankRepeat ∨ s.ac.access = .change)) ∨
      (s.ecp.adminTable = true ∧ s.ac.access = .adminSession ∧
        (s.ecp.command = some 1 ∨ s.ecp.command = some 6 ∨ s.ecp.command = some 7))) →
    ∃ t, exec c s = .next t ∧ t.ecp.stack = [] ∧ t.ecp.overlong = false ∧
      (s.ac.access = .adminSession → t.ac.admin = some 300) ∧
      (s.ecp.copy = none →
        ((s.ecp.stack.length < 7 ∨ s.ecp.overlong = true) →
          s.Gives t .format ∧ t.ecp.copy = none ∧ t.ecp.command = none ∧ t.ac.access = s.ac.access.restingPlace) ∧
        (7 ≤ s.ecp.stack.length → s.ecp.overlong = false →
          ((∀ a ∈ s.ecp.stack, ∀ b ∈ s.ecp.stack, a = b) ∨ s.ecp.stack.IsChain (fun a b => b.val = a.val + 1) ∨
            s.ecp.stack.IsChain (fun a b => b.val + 1 = a.val)) →
          s.Gives t .refused ∧ t.ecp.copy = none ∧ t.ecp.command = none ∧ t.ac.access = s.ac.access.restingPlace) ∧
        (7 ≤ s.ecp.stack.length → s.ecp.overlong = false →
          ¬ (∀ a ∈ s.ecp.stack, ∀ b ∈ s.ecp.stack, a = b) →
          ¬ s.ecp.stack.IsChain (fun a b => b.val = a.val + 1) →
          ¬ s.ecp.stack.IsChain (fun a b => b.val + 1 = a.val) →
          t.ecp.copy = some s.ecp.stack ∧ t.ecp.command = s.ecp.command ∧ t.ecp.timer = some 100 ∧
          s.GivesNone t ∧
          t.ac.access = (if s.ac.access = .blankFirst then .blankRepeat else s.ac.access))) ∧
      (∀ p, s.ecp.copy = some p →
        ((s.ecp.overlong = true ∨ s.ecp.stack ≠ p) →
          s.Gives t .refused ∧ t.ecp.copy = none ∧ t.ecp.command = none ∧ t.ac.access = s.ac.access.restingPlace) ∧
        (s.ecp.overlong = false → s.ecp.stack = p → s.cu.work = .idle →
          (s.ac.access = .change → s.ac.sessionSlot.isSome = true) →
          (s.ac.access = .adminSession → s.ecp.command = some 1 →
            ∃ i : Fin 8, 1 ≤ i.val ∧ i.val ≤ 6 ∧ (s.cred i).status = .empty) →
          t.ecp.ready = false ∧ t.ecp.copy = none ∧ t.ecp.command = none ∧ t.ac.access = s.ac.access ∧
          t.cu.work = .verify ∧ t.cu.kind = some .enrol ∧ t.cu.digits = some p ∧
          (s.ac.access = .blankFirst ∨ s.ac.access = .blankRepeat →
            t.cu.target = some 0 ∧ t.cu.purpose = some .blank) ∧
          (s.ac.access = .change → t.cu.target = s.ac.sessionSlot ∧ t.cu.purpose = some .change) ∧
          (s.ac.access = .adminSession →
            (s.ecp.command = some 6 → t.cu.target = some 7 ∧ t.cu.purpose = some .recovery) ∧
            (s.ecp.command = some 7 → t.cu.target = some 0 ∧ t.cu.purpose = some .adminPin) ∧
            (s.ecp.command = some 1 → t.cu.purpose = some .userSlot ∧ ∀ i : Fin 8, 1 ≤ i.val → i.val ≤ 6 →
              (s.cred i).status = .empty →
              (∀ j : Fin 8, 1 ≤ j.val → j.val < i.val → (s.cred j).status ≠ .empty) → t.cu.target = some i))) ∧
        (s.ecp.overlong = false → s.ecp.stack = p → s.cu.work = .idle → s.cu.overtaken = false →
          s.ac.access = .adminSession → s.ecp.command = some 1 →
          (∀ i : Fin 8, 1 ≤ i.val → i.val ≤ 6 → (s.cred i).status ≠ .empty) →
          s.Gives t .refused ∧ t.CuDone ∧ s.NoCuWrite t ∧ t.ac.access = .adminSession ∧ t.ecp.copy = none ∧
          t.ecp.command = none))

/-- The settings commands 2, 3, 4, 5 and 8 and the erase, submitted by KEY or shifted KEY: a value in range is written
clamped, the user slots named that are not EMPTY are cleared from 6 down, a value out of range is REFUSED and a malformed
stack FORMAT, with the session kept; a well-formed PIN for command 9 starts the erase's verify (R99, R114, R115, R132, R156). -/
def Obligations.SettingsCommands : Prop :=
  ∀ (s : State) (e : KeyEntry) (rest : List KeyEntry) (sh : Bool) (c : Instr) (cmd : Fin 10), s.TakesEntry e rest →
    e.Is .key sh → c = (if sh then .shiftedKeyTaken else .keyTaken) → s.ecp.adminTable = true →
    s.ac.access = .adminSession → s.cu.work = .idle → s.ecp.command = some cmd →
    ∃ t, exec c s = .next t ∧ t.ac.access = .adminSession ∧ t.ac.admin = some 300 ∧
      (∀ d : Digit, s.ecp.stack = [d] → s.ecp.overlong = false →
        (cmd = 3 → d.val ≤ 1 → t.CuAsks (.dev { DevUpdate.none with readOnly := some (d.val == 1) })) ∧
        (cmd = 8 → d.val ≤ 1 → t.CuAsks (.dev { DevUpdate.none with lockOnStandby := some (d.val == 1) })) ∧
        (cmd = 4 → t.CuAsks (.dev { DevUpdate.none with autoLock := some d.val })) ∧
        (cmd = 5 → t.CuAsks (.dev { DevUpdate.none with limit := some (max 4 d.val) })) ∧
        ((cmd = 3 ∨ cmd = 8) ∧ d.val ≤ 1 ∨ cmd = 4 ∨ cmd = 5 →
          t.cu.work = .writes ∧ t.cu.task = .setting ∧ t.ecp.ready = false ∧ t.ecp.command = none) ∧
        ((cmd = 3 ∨ cmd = 8) ∧ 2 ≤ d.val ∨ cmd = 2 ∧ 7 ≤ d.val →
          s.Gives t .refused ∧ s.NoCuWrite t ∧ t.ecp.command = none ∧ t.ecp.stack = [] ∧ t.ecp.ready = true) ∧
        (cmd = 2 → d.val ≤ 6 → ∀ slots : List (Fin 8),
          slots = (if d.val = 0 then [6, 5, 4, 3, 2, 1] else [Fin.ofNat 8 d.val]).filter
            (fun i => decide ((s.cred i).status ≠ .empty)) →
          (slots = [] → s.cu.overtaken = false →
            s.Gives t .accept ∧ s.NoCuWrite t ∧ t.CuDone ∧ t.ecp.command = none) ∧
          ∀ i more, slots = i :: more → t.CuAsks (.cred i (CredFields.bare .empty)) ∧ t.cu.work = .writes ∧
            t.cu.task = .clear more ∧ t.ecp.ready = false ∧ t.ecp.command = none)) ∧
      (∀ a b : Digit, s.ecp.stack = [a, b] → s.ecp.overlong = false →
        (cmd = 4 → t.CuAsks (.dev { DevUpdate.none with autoLock := some (min 60 (10 * a.val + b.val)) })) ∧
        (cmd = 5 → t.CuAsks (.dev { DevUpdate.none with limit := some (max 4 (min 20 (10 * a.val + b.val))) })) ∧
        (cmd = 4 ∨ cmd = 5 →
          t.cu.work = .writes ∧ t.cu.task = .setting ∧ t.ecp.ready = false ∧ t.ecp.command = none)) ∧
      ((cmd = 2 ∨ cmd = 3 ∨ cmd = 8) ∧ 2 ≤ s.ecp.stack.length ∨
        (cmd = 2 ∨ cmd = 3 ∨ cmd = 4 ∨ cmd = 5 ∨ cmd = 8) ∧
          (s.ecp.stack = [] ∨ s.ecp.overlong = true ∨ 3 ≤ s.ecp.stack.length) →
        s.Gives t .format ∧ s.NoCuWrite t ∧ t.ecp.command = none ∧ t.ecp.stack = [] ∧ t.ecp.ready = true) ∧
      (cmd = 9 →
        (7 ≤ s.ecp.stack.length → s.ecp.overlong = false →
          t.cu.work = .verify ∧ t.cu.kind = some .eraseConfirm ∧ t.cu.digits = some s.ecp.stack ∧
          t.ecp.ready = false ∧ t.ecp.command = none) ∧
        ((s.ecp.stack.length < 7 ∨ s.ecp.overlong = true) →
          s.Gives t .format ∧ t.cu = s.cu ∧ s.NoCuWrite t ∧ t.ecp.command = none ∧ t.ecp.stack = [] ∧
          t.ecp.ready = true))

/-- A flagged entry gives up the composition with FORMAT, and is discarded where nothing is composed; the entry timer's expiry
gives it up with no verdict. Neither counts a failure nor asks for a write, and neither locks the drive or ends the session
(R99, R107, R108, R109, R156). -/
def Obligations.CompositionGivenUp : Prop :=
  ∀ s : State, s.power = .running →
    (∀ e rest, s.TakesEntry e rest → e.flagged = true → ∃ t, exec .flaggedEntryTaken s = .next t ∧
      t.kps = { s.kps with fifo := rest } ∧ t.ks.dev = s.ks.dev ∧ t.ks.creds = s.ks.creds ∧ s.NoCuWrite t ∧
      ((s.ac.access.pushes = true ∨ s.ac.access = .adminSession) →
        t.ac.access = s.ac.access.restingPlace ∧ s.Gives t .format ∧ t.ecp.stack = [] ∧ t.ecp.overlong = false ∧
        t.ecp.copy = none ∧ t.ecp.command = none ∧ t.ecp.timer = none ∧ t.ecp.ready = true ∧
        t.cu = { s.cu with sessionKey := if s.ac.access = .adminSession then s.cu.sessionKey else none } ∧
        (s.ac.access.unlocked = true →
          t.ce = s.ce ∧ t.ac.sessionSlot = s.ac.sessionSlot ∧ t.ac.idle = s.ac.idle)) ∧
      (s.ac.access = .adminSession → t.ac.admin = some 300) ∧
      ((s.ac.access = .lockedIdle ∨ s.ac.access = .settling ∨ s.ac.access = .lockout ∨ s.ac.access = .erasing) →
        s.Unreported t ∧ t.ecp = { s.ecp with timer := none } ∧ t.cu = s.cu ∧ t.ce = s.ce)) ∧
    (s.ecp.timer = some 0 → s.ecp.ready = true → ∃ t, exec .entryTimeout s = .next t ∧
      t.ac.access = s.ac.access.restingPlace ∧ t.ecp.stack = [] ∧ t.ecp.overlong = false ∧ t.ecp.copy = none ∧
      t.ecp.command = none ∧ t.ecp.timer = none ∧ t.ecp.ready = true ∧ s.GivesNone t ∧
      t.kps = s.kps ∧ t.ks.dev = s.ks.dev ∧ t.ks.creds = s.ks.creds ∧ s.NoCuWrite t ∧
      t.cu = { s.cu with sessionKey := if s.ac.access = .adminSession then s.cu.sessionKey else none } ∧
      (s.ac.access.unlocked = true →
        t.ce = s.ce ∧ t.ac.sessionSlot = s.ac.sessionSlot ∧ t.ac.idle = s.ac.idle) ∧
      (s.ac.access = .adminSession → t.ac.admin = s.ac.admin))

/-! ## Credentials -/

/-- VERIFY_END with no match in the kind's own set of slots, all of them for UNLOCK and slot 0 alone for ADMIN and
ERASE_CONFIRM, whatever other slot the digits would open: one write that raises the failure count, at the attempt limit with
erase pending; the CU's task
carries the count written, and until it is complete no verdict is given and the access state stays (R125, R126, R128). -/
def Obligations.NoMatchIsCounted : Prop :=
  ∀ (s : State) (k : VerifyKind) (digits : List Digit), s.power = .running → s.cu.work = .verify →
    s.cu.kind = some k → k ≠ .enrol → s.cu.digits = some digits →
    (∀ i, k = .unlock ∨ i = 0 → ¬ ((s.cred i).status = .active ∧ (s.cred i).digitCount = digits.length ∧
      Config.verifierOf digits (s.cred i).salt = (s.cred i).verifier)) →
    ∃ t, exec .verifyEnd s = .next t ∧ t.cu.work = .writes ∧ s.Unreported t ∧ t.ecp = s.ecp ∧
      t.cu.task = .failure (min (s.ks.dev.fields.failures + 1) s.ks.dev.fields.limit) ∧
      t.ks.dev = s.ks.dev ∧ t.ks.nvm = s.ks.nvm ∧
      (s.ks.dev.fields.failures + 1 < s.ks.dev.fields.limit →
        { bySweep := false, body := .dev { DevUpdate.none with
            failures := some (s.ks.dev.fields.failures + 1) } } ∈ t.ks.queue) ∧
      (s.ks.dev.fields.limit ≤ s.ks.dev.fields.failures + 1 →
        { bySweep := false, body := .dev { DevUpdate.none with
            failures := some s.ks.dev.fields.limit, erasePending := some true } } ∈ t.ks.queue)

/-- VERIFY_END with a match, and every end of an ENROL verify (R85, R86, R90, R99, R126, R127, R131, R132, R134, R148,
R156). An unlock
allowed with nothing to write enters SETTLING with the unwrapped key loaded and NONE presented, and fails the overlay's
transactions; with slot 7 to spend or a failure count to clear it asks for that write first, the AC staying where it is; an
unlock not allowed is REFUSED with no write. An admin match opens the session, after one write of f = 0 and rebuilt mark 0
where either is not already so. A confirmed erase enters ERASING with the erase hold and asks for the first write of the
staging. An ENROL with no match asks for the new record, with a match it is REFUSED, and overtaken by a lock event it is
dropped; that one count of draws numbers salts and keys is the model's own (notes/assumptions/4.md). -/
def Obligations.MatchIsReported : Prop :=
  (∀ (s : State) (k : VerifyKind) (digits : List Digit) (i : Fin 8) (key : Key), s.power = .running →
    s.PresentationOk → s.TagsOk → s.ActiveOk → s.cu.work = .verify → s.cu.kind = some k →
    s.cu.digits = some digits →
    (s.cred i).status = .active → (s.cred i).digitCount = digits.length →
    Config.verifierOf digits (s.cred i).salt = (s.cred i).verifier →
    (∀ j, j ≠ i → (s.cred j).status ≠ .active ∨ Config.verifierOf digits (s.cred j).salt ≠ (s.cred j).verifier) →
    key = (Config.wrapping (Config.wrappingKeyOf digits (s.cred i).salt)).symm (s.cred i).wrapped →
    (k = .unlock → ¬ s.UnlockRefused s.ks.dev.fields.lockOnStandby →
      (s.ac.access = .lockedVerifying → i ≠ 7 → s.ks.dev.fields.failures = 0 →
        ∃ t, exec .verifyEnd s = .next t ∧ t.ac.access = .settling ∧
          t.ac.sessionSlot = some i ∧ t.ce.key = some key ∧ t.ac.presentation = .nothing ∧
          t.atr = { volume := .nothing, highest := none } ∧ t.ac.settle = some 10 ∧
          t.uli.attn.presentation = true ∧ t.ac.scope = none ∧ t.CuDone ∧ s.Gives t .accept ∧
          ∀ x ∈ s.txns, x.volume = .overlay → x.phase = .active →
            ∃ y, t.txn? x.tag = some y ∧ y.failure = some (.volumeChanged .unlock) ∧ y.done = x.done) ∧
      (i = 7 ∨ s.ks.dev.fields.failures ≠ 0 →
        ∃ t, exec .verifyEnd s = .next t ∧ s.Unreported t ∧ t.ecp = s.ecp ∧ t.ce = s.ce ∧
          t.cu.work = .writes ∧ t.cu.result = some (.hit i key) ∧
          (i = 7 → t.CuAsks (.cred 7 (CredFields.bare .spent)) ∧ t.cu.task = .spendRecovery (s.cred 7)) ∧
          (i ≠ 7 → t.CuAsks (.dev { DevUpdate.none with failures := some 0 }) ∧
            t.cu.task = .zeroFailures s.ks.dev.fields.failures none))) ∧
    (k = .unlock → s.UnlockRefused s.ks.dev.fields.lockOnStandby → ∃ t, exec .verifyEnd s = .next t ∧
      t.ac.access = .lockedIdle ∧ s.Gives t .refused ∧ t.ac.scope = none ∧ t.CuDone ∧
      t.ks.dev = s.ks.dev ∧ t.ks.creds = s.ks.creds ∧ s.NoCuWrite t) ∧
    (k = .admin → i = 0 →
      (s.ks.dev.fields.failures = 0 → s.ks.dev.fields.rebuilt = false →
        ∃ t, exec .verifyEnd s = .next t ∧ t.ac.access = .adminSession ∧ t.ac.admin = some 300 ∧
          t.cu.sessionKey = some key ∧ t.CuDone ∧ t.ecp.adminTable = true ∧ t.ac.scope = none ∧ s.Gives t .accept) ∧
      (s.ks.dev.fields.failures ≠ 0 ∨ s.ks.dev.fields.rebuilt = true →
        ∃ t, exec .verifyEnd s = .next t ∧ s.Unreported t ∧ t.ecp = s.ecp ∧
          t.cu.work = .writes ∧ t.cu.task = .adminMatch ∧ t.cu.result = some (.hit 0 key) ∧
          t.CuAsks (.dev { DevUpdate.none with failures := some 0, rebuilt := some false }))) ∧
    (k = .eraseConfirm → i = 0 →
      ∃ t, exec .verifyEnd s = .next t ∧ t.ac.access = .erasing ∧ s.Gives t .accept ∧ t.ecp.ready = true ∧
        t.ce.key = none ∧ t.cu.sessionKey = none ∧ t.ac.presentation = .overlay ∧
        (∀ x ∈ s.txns, x.volume = .user → x.phase = .active →
          ∃ y, t.txn? x.tag = some y ∧ y.failure = some (.volumeChanged .erase) ∧ y.done = x.done) ∧
        t.cu.work = .staging ∧ t.cu.task = .stage .pending ∧
        t.CuAsks (.dev { DevUpdate.none with erasePending := some true }) ∧
        t.swu.hold = true ∧ t.swu.state = (if s.swu.state = .idle then .idle else .paused) ∧
        t.swu.cursor = s.swu.cursor ∧ t.swu.retry = s.swu.retry ∧ t.swu.since = s.swu.since ∧
        t.swu.writeOut = s.swu.writeOut ∧ (∀ r ∈ t.dli.requests, r.owner ≠ .sweep) ∧
        ((∃ r ∈ s.dli.requests, r.owner = .sweep) → t.swu.discardOut = false) ∧
        ((∀ r ∈ s.dli.requests, r.owner ≠ .sweep) →
          t.swu.discardOut = s.swu.discardOut ∧ t.swu.dropResult = s.swu.discardOut))) ∧
  ∀ (s : State) (digits : List Digit) (i : Fin 8), s.power = .running → s.cu.work = .verify →
    s.cu.kind = some .enrol → s.cu.digits = some digits → s.cu.target = some i →
    (s.cu.overtaken = true → ∃ t, exec .verifyEnd s = .next t ∧ t.CuDone ∧ s.NoCuWrite t ∧ s.Unreported t) ∧
    (s.cu.overtaken = false →
      (∃ j, j ≠ i ∧ (s.cred j).status = .active ∧ (s.cred j).digitCount = digits.length ∧
        Config.verifierOf digits (s.cred j).salt = (s.cred j).verifier) →
      s.ac.access = .blankRepeat ∨ s.ac.access = .change ∨ s.ac.access = .adminSession →
      ∃ t, exec .verifyEnd s = .next t ∧ s.Gives t .refused ∧ t.CuDone ∧ s.NoCuWrite t ∧
        t.ac.access = s.ac.access.restingPlace ∧ (s.ac.access = .adminSession → t.ac.admin = some 300)) ∧
    ∀ key : Key, s.cu.overtaken = false →
      (∀ j, j ≠ i → ¬ ((s.cred j).status = .active ∧ (s.cred j).digitCount = digits.length ∧
        Config.verifierOf digits (s.cred j).salt = (s.cred j).verifier)) →
      ((s.cu.purpose = some .blank ∧ key = Config.randomKey s.draws) ∨
        (s.cu.purpose = some .change ∧ s.ce.key = some key) ∨
        (s.cu.purpose ≠ some .blank ∧ s.cu.purpose ≠ some .change ∧ s.cu.sessionKey = some key)) →
      ∃ t, exec .verifyEnd s = .next t ∧ s.Unreported t ∧ t.ecp = s.ecp ∧
        t.cu.work = .writes ∧ t.cu.task = .enrol ∧ t.draws = s.draws + 1 ∧
        t.CuAsks (.cred i
          { status := .active, digitCount := digits.length, salt := Config.randomSalt s.draws,
            verifier := Config.verifierOf digits (Config.randomSalt s.draws),
            wrapped := Config.wrapping (Config.wrappingKeyOf digits (Config.randomSalt s.draws)) key })

/-- KS_WRITE_COMPLETE: the medium and the image take the content written and no other record changes, and the next
request's write begins, formed from the image of that moment; then what was awaited
follows: the next write or the second query of a matched unlock and its restoration, the match, no-match or command end
reported, the next step of the staged erase, at its end the first window of a new pass that nothing holds back, after the
rebuild write the hand-over that waited for it, the sweep's next window or its end, and nothing of an earlier pass under the
erase hold (R87, R89, R99, R122, R126, R127, R131, R132, R135, R137, R141, R142, R145, R146, R148, R156, R165). That under the hold the end of a NONE
write too leaves the sweep as it was, neither IDLE nor SWEEP_DONE, is THE MODEL'S READING of R146 and R148, which meet there
(notes/assumptions/21.md). -/
def Obligations.WriteCompletion : Prop :=
  ∀ (s : State) (r : KsReq) (rest : List KsReq) (w : KsContent), s.power = .running → s.ks.queue = r :: rest →
    s.ks.writing = some w →
    ∃ t, exec .ksWriteComplete s = .next t ∧ (∃ more, t.ks.queue = rest ++ more) ∧ t.WritingOk ∧
      (∀ i q, w = .cred i q → t.ks.creds = s.ks.creds.set i.val q ∧ t.ks.nvm.creds = s.ks.nvm.creds.set i.val q ∧
        t.ks.dev = s.ks.dev ∧ t.ks.nvm.dev = s.ks.nvm.dev) ∧
      (∀ q, w = .dev q → t.ks.dev = q ∧ t.ks.nvm.dev = q ∧ t.ks.creds = s.ks.creds ∧
        t.ks.nvm.creds = s.ks.nvm.creds) ∧
      (r.bySweep = false →
        (∀ f, s.cu.task = .spendRecovery f → t.ks.dev.fields.failures ≠ 0 →
          t.CuAsks (.dev { DevUpdate.none with failures := some 0 }) ∧ s.Unreported t ∧ t.cu.work = .writes ∧
          t.cu.task = .zeroFailures t.ks.dev.fields.failures (some f)) ∧
        (∀ (count : Option Nat) (former : Option CredFields),
          ((∃ f, s.cu.task = .spendRecovery f ∧ t.ks.dev.fields.failures = 0 ∧ count = none ∧ former = some f) ∨
            ∃ n, s.cu.task = .zeroFailures n former ∧ count = some n) →
          (¬ s.UnlockRefused t.ks.dev.fields.lockOnStandby → ∀ slot key, s.cu.result = some (.hit slot key) →
            t.ac.access = .settling ∧ t.ac.sessionSlot = some slot ∧ t.ce.key = some key ∧
            t.ac.presentation = .nothing ∧ t.ac.settle = some 10 ∧ t.ac.scope = none ∧ t.CuDone ∧ s.Gives t .accept) ∧
          (s.UnlockRefused t.ks.dev.fields.lockOnStandby → s.Unreported t ∧ t.cu.work = .writes ∧
            (∀ n, count = some n → t.CuAsks (.dev { DevUpdate.none with failures := some n }) ∧
              t.cu.task = .restoreFailures former) ∧
            (∀ f, count = none → former = some f → t.CuAsks (.cred 7 f) ∧ t.cu.task = .restoreRecovery))) ∧
        (∀ f, s.cu.task = .restoreFailures (some f) →
          t.CuAsks (.cred 7 f) ∧ s.Unreported t ∧ t.cu.work = .writes ∧ t.cu.task = .restoreRecovery) ∧
        (s.cu.task = .restoreFailures none ∨ s.cu.task = .restoreRecovery →
          t.ac.access = .lockedIdle ∧ s.Gives t .refused ∧ t.ac.scope = none ∧ t.CuDone ∧
          t.OnlySweepAsks rest) ∧
        (s.cu.task = .rebuild → t.cu.waiting = none ∧
          (s.cu.waiting = none → t.cu.work = .idle ∧ s.Unreported t ∧ t.ecp = s.ecp ∧
            t.OnlySweepAsks rest) ∧
          (∀ (k : VerifyKind) (digits : List Digit),
            (k = .unlock ∧ s.cu.waiting = some (.unlock digits)) ∨ (k = .admin ∧ s.cu.waiting = some (.admin digits)) ∨
              (k = .eraseConfirm ∧ s.cu.waiting = some (.eraseConfirm digits)) →
            t.cu.work = .verify ∧ t.cu.kind = some k ∧ t.cu.digits = some digits ∧ s.Unreported t ∧ t.ecp = s.ecp) ∧
          (∀ (p : EnrolFor) (digits : List Digit) (i : Fin 8), s.cu.waiting = some (.enrol p digits) →
            ((p = .blank ∨ p = .adminPin) ∧ i = 0 ∨ p = .recovery ∧ i = 7 ∨ p = .change ∧ s.ac.sessionSlot = some i ∨
              p = .userSlot ∧ 1 ≤ i.val ∧ i.val ≤ 6 ∧ (t.cred i).status = .empty ∧
                ∀ j : Fin 8, 1 ≤ j.val → j.val < i.val → (t.cred j).status ≠ .empty) →
            t.cu.work = .verify ∧ t.cu.kind = some .enrol ∧ t.cu.digits = some digits ∧ t.cu.target = some i ∧
            t.cu.purpose = some p ∧ s.Unreported t ∧ t.ecp = s.ecp) ∧
          (∀ u, s.cu.waiting = some (.setting u) →
            t.CuAsks (.dev u) ∧ t.cu.work = .writes ∧ t.cu.task = .setting ∧ s.Unreported t ∧ t.ecp = s.ecp) ∧
          (∀ (asked : List (Fin 8)) (i : Fin 8) (more : List (Fin 8)), s.cu.waiting = some (.clear asked) →
            asked.filter (fun i => decide ((t.cred i).status ≠ .empty)) = i :: more →
            t.CuAsks (.cred i (CredFields.bare .empty)) ∧ t.cu.work = .writes ∧ t.cu.task = .clear more ∧
            s.Unreported t ∧ t.ecp = s.ecp)) ∧
        (∀ slot key, s.cu.task = .adminMatch → s.cu.result = some (.hit slot key) →
          t.ac.access = .adminSession ∧ t.ac.admin = some 300 ∧ t.cu.sessionKey = some key ∧
          t.ecp.adminTable = true ∧ t.ac.scope = none ∧ t.CuDone ∧ s.Gives t .accept) ∧
        (s.cu.task = .enrol ∨ s.cu.task = .setting ∨ s.cu.task = .clear [] →
          t.CuDone ∧ t.OnlySweepAsks rest ∧
          (s.cu.overtaken = true → s.Unreported t) ∧
          (s.cu.overtaken = false →
            (s.ac.access = .blankRepeat → t.ac.access = .lockedIdle ∧ s.Gives t .accept) ∧
            (s.ac.access = .change → t.ac.access = .presented ∧ s.Gives t .accept) ∧
            (s.ac.access = .adminSession →
              t.ac.access = .adminSession ∧ t.ac.admin = some 300 ∧ s.Gives t .accept))) ∧
        (∀ i more, s.cu.task = .clear (i :: more) →
          t.CuAsks (.cred i (CredFields.bare .empty)) ∧ s.Unreported t ∧ t.cu.work = .writes ∧
          t.cu.task = .clear more) ∧
        (∀ f q, s.cu.task = .failure f → w = .dev q →
          s.Gives t .reject ∧ t.ecp.ready = true ∧ t.ac.scope = none ∧
          t.ac.access = (if q.fields.limit ≤ f then .erasing else if 3 ≤ f then .lockout else .lockedIdle) ∧
          (t.ac.access = .lockout → t.ac.lockout = some (throttleTicks f)) ∧
          (q.fields.limit ≤ f → t.swu.hold = true ∧
            t.swu.state = (if s.swu.state = .idle then .idle else .paused) ∧ t.swu.cursor = s.swu.cursor ∧
            (∀ x ∈ t.dli.requests, x.owner ≠ .sweep) ∧ t.ce.key = none ∧ t.cu.sessionKey = none ∧
            t.cu.work = .staging ∧ t.cu.task = .stage (.slot 7) ∧ t.CuAsks (.cred 7 (CredFields.bare .empty)))) ∧
        (s.cu.task = .stage .pending →
          t.CuAsks (.cred 7 (CredFields.bare .empty)) ∧ s.Unreported t ∧ t.cu.task = .stage (.slot 7)) ∧
        (∀ i : Fin 8, s.cu.task = .stage (.slot i) → i ≠ 0 →
          t.CuAsks (.cred (i - 1) (CredFields.bare .empty)) ∧ s.Unreported t ∧ t.cu.task = .stage (.slot (i - 1))) ∧
        (s.cu.task = .stage (.slot 0) → s.Unreported t ∧ t.cu.task = .stage .final ∧ t.CuAsks (.dev
          { failures := some 0, limit := some 10, autoLock := some 0, readOnly := some false,
            lockOnStandby := some true, eraseCount := some (min 65535 (t.ks.dev.fields.eraseCount + 1)),
            erasePending := some false, cursor := some (some 0), degraded := some false, rebuilt := none })) ∧
        (s.cu.task = .stage .final → t.ac.access = .blankFirst ∧ s.GivesNone t ∧ t.CuDone ∧ t.swu.cursor = some 0 ∧
          t.swu.hold = false ∧ t.swu.state ≠ .idle ∧ t.ce.key = none ∧ t.cu.sessionKey = none ∧
          (s.swu.discardOut = false → s.swu.writeOut = false → s.userOps = 0 → (∀ x ∈ s.txns, x.volume ≠ .user) →
            (s.dli.media ≠ .ok → t.swu.state = .paused) ∧
            ∀ u, s.dli.media = .ok → s.dli.usable = some u → 0 < u → t.WindowDue 0 u))) ∧
      (r.bySweep = true → s.Unreported t ∧ t.cu = s.cu ∧ t.ecp = s.ecp ∧
        (s.swu.hold = true → s.swu.state ≠ .issuing →
          t.ks.queue = rest ∧ t.swu = { s.swu with writeOut := false }) ∧
        (r.body.isNone = true → s.swu.hold = false →
          t.swu.state = .idle ∧ t.swu.cursor = none ∧ t.swu.retry = false ∧ t.swu.since = 0 ∧
          t.swu.writeOut = false ∧ t.uli.attn.sweepDone = true) ∧
        (∀ c u, r.body.isNone = false → s.swu.hold = false → s.swu.discardOut = false → s.swu.cursor = some c →
          s.dli.usable = some u → c < u →
          (s.dli.media = .ok → t.swu.writeOut = false ∧ t.swu.cursor = some c ∧ t.swu.discardOut = true ∧
            t.Asked (.discard c (min 256 (u - c))) .sweep) ∧
          (s.dli.media ≠ .ok → t.swu = { s.swu with writeOut := false, state := .paused })))

/-- The throttle delay, its two loads into the lockout timer, at the failure's report and at power-on, and the timer's count
in standby as when awake (R130). -/
def Obligations.ThrottleDelay : Prop :=
  (∀ f, f ≤ 2 → throttleTicks f = 0) ∧ (∀ f, 3 ≤ f → throttleTicks f = min (10 * 300) (10 * (5 * 2 ^ (f - 3)))) ∧
  (∀ (s : State) (r : KsReq) (rest : List KsReq) (q : DevRecord) (f : Nat), s.power = .running →
    s.ks.queue = r :: rest → s.ks.writing = some (.dev q) → r.bySweep = false → s.cu.task = .failure f →
    (3 ≤ f → f < q.fields.limit → ∃ t, exec .ksWriteComplete s = .next t ∧ t.ac.access = .lockout ∧
      t.ac.lockout = some (throttleTicks f)) ∧
    (f ≤ 2 → f < q.fields.limit → ∃ t, exec .ksWriteComplete s = .next t ∧ t.ac.access = .lockedIdle) ∧
    (q.fields.limit ≤ f → ∃ t, exec .ksWriteComplete s = .next t ∧ t.ac.access = .erasing ∧ t.ac.lockout = none)) ∧
  (∀ (s : State) (n : Nat), s.power = .running → s.ac.access = .lockout → s.ac.lockout = some n →
    ∃ t, exec .tick s = .next t ∧ t.ac.lockout = some (n - 1)) ∧
  ∀ s : State, s.power = .reading → s.uli.link = [] → s.ks.nvm.creds.length = 8 → s.ks.nvm.dev.passes = true →
    s.ks.nvm.dev.fields.erasePending = false → 3 ≤ s.ks.nvm.dev.fields.failures →
    (∀ r, s.ks.nvm.creds[0]? = some r → r.passes = true ∧ r.fields.status ≠ .empty) →
    ∃ t, exec .ksReadingComplete s = .next t ∧ t.ac.access = .lockout ∧
      t.ac.lockout = some (throttleTicks s.ks.nvm.dev.fields.failures)

/-! ## Timers and indicators -/

/-- The settle, lockout and admin session expiries, each taken once its timer has reached 0 (R88, R89, R91). -/
def Obligations.TimerExpiries : Prop :=
  ∀ s : State, s.power = .running → s.PresentationOk →
    (s.ac.access = .settling → s.ac.settle = some 0 → ∃ t, exec .settleTimerExpiry s = .next t ∧
      t.ac.access = .presented ∧ t.ac.presentation = .user ∧
      t.atr = { volume := .user, highest := s.dli.usable.map (fun u => 8 * u - 1) } ∧
      t.uli.attn.presentation = true ∧ t.ac.settle = none ∧ t.ce.key = s.ce.key ∧ t.ac.sessionSlot = s.ac.sessionSlot ∧
      t.ac.idle = (if s.ks.dev.fields.autoLock = 0 then none else some (s.ks.dev.fields.autoLock * 600))) ∧
    (s.ac.access = .lockout → s.ac.lockout = some 0 → ∃ t, exec .lockoutTimerExpiry s = .next t ∧
      t.ac.access = .lockedIdle ∧ t.ac.lockout = none ∧ t.ac.presentation = .overlay ∧ s.GivesNone t) ∧
    (s.ac.access = .adminSession → s.ac.admin = some 0 → ∃ t, exec .adminSessionTimerExpiry s = .next t ∧
      t.ac.access = .lockedIdle ∧ t.ac.admin = none ∧ t.cu.sessionKey = none ∧ t.ecp.adminTable = false ∧
      t.ecp.command = none ∧ t.ecp.stack = [])

/-- The run-out of a brief pattern, the end of the activity rest, and the pattern clock; and the three LED lines, lit as the
tables of the continuous and the brief patterns give for the shown source. A verdict given, here the FORMAT of a flagged entry
and, in STANDBY as when AWAKE, the REFUSED after a restoration: it enters an empty slot, or ACTIVITY's, with 15 ticks, is
pending behind a verdict there, and is held in STANDBY (R99, R151, R153, R154, R156, R157). That the lines
are dark without power is THE MODEL'S CHOICE (notes/assumptions/28.md), and so are that one PATTERN_CLOCK is 1 ms and wraps
at the pattern's period (notes/assumptions/24.md) and that ACTIVITY_REST_END changes nothing while the rest has not reached 0
(notes/assumptions/15.md). -/
def Obligations.BriefPatterns : Prop :=
  (∀ s : State, s.power = .off → s.leds = Leds.dark) ∧
  (∀ s : State, s.power ≠ .off → s.PatternOk →
    (s.ind.shown = .fault → s.leds =
      { red := decide (s.ind.elapsed < 250), green := false, blue := decide (250 ≤ s.ind.elapsed) }) ∧
    (s.ind.shown = .sweep → s.leds = { red := false, green := false, blue := decide (s.ind.elapsed < 500) }) ∧
    (s.ind.shown = .lockout → s.leds = { red := decide (s.ind.elapsed < 125), green := false, blue := false }) ∧
    (s.ind.shown = .entry → s.leds = (if s.ac.access = .adminSession
      then { red := decide (250 ≤ s.ind.elapsed), green := decide (s.ind.elapsed < 250), blue := false }
      else { red := false, green := false, blue := decide (s.ind.elapsed < 250) })) ∧
    (s.ind.shown = .base → s.leds = (if s.ac.standby = true ∨ s.ac.access = .starting then Leds.dark
      else if s.ac.access.unlocked = true then { red := false, green := true, blue := false }
      else if s.ac.access = .blankFirst ∨ s.ac.access = .blankRepeat then { red := false, green := false, blue := true }
      else { red := true, green := false, blue := false })) ∧
    (s.ind.shown = .activity → s.ind.slot = some .activity → s.leds = Leds.dark) ∧
    ∀ v n, s.ind.shown = .verdict → s.ind.slot = some (.verdict v) → s.ind.remaining = n →
      (s.leds.green = true ↔ v = .accept ∧ (n = 15 ∨ n = 14 ∨ n = 11 ∨ n = 10)) ∧
      (s.leds.red = true ↔ v = .reject ∧ (n = 15 ∨ n = 14 ∨ n = 11 ∨ n = 10 ∨ n = 7 ∨ n = 6) ∨
        v = .format ∧ 12 ≤ n ∧ n ≤ 15) ∧
      (s.leds.blue = true ↔ v = .refused ∧ (n = 15 ∨ n = 14 ∨ n = 11 ∨ n = 10 ∨ n = 7 ∨ n = 6))) ∧
  (∀ s : State, s.power ≠ .off →
    (s.ind.remaining = 0 → ∃ t, exec .briefPatternRunout s = .next t ∧
      (∀ v w, s.ind.slot = some (.verdict v) → s.ind.pendingVerdict = some w →
        t.ind.slot = some (.verdict w) ∧ t.ind.remaining = 15 ∧ t.ind.pendingVerdict = none) ∧
      (∀ v, s.ind.slot = some (.verdict v) → s.ind.pendingVerdict = none → t.ind.slot = none) ∧
      (s.ind.slot = some .activity → t.ind.slot = none ∧ t.ind.rest = some 2)) ∧
    (s.ind.rest = some 0 → exec .activityRestEnd s = .next (s.setInd { s.ind with rest := none })) ∧
    (∀ n, s.ind.rest = some (n + 1) → exec .activityRestEnd s = .next s) ∧
    ∃ t, exec .patternClock s = .next t ∧ t = s.setInd { s.ind with elapsed := t.ind.elapsed } ∧
      (0 < s.ind.pattern.period → t.ind.elapsed = (s.ind.elapsed + 1) % s.ind.pattern.period) ∧
      (s.ind.pattern.period = 0 → t = s)) ∧
  (∀ (s : State) (e : KeyEntry) (rest : List KeyEntry), s.TakesEntry e rest → e.flagged = true →
    s.ac.access.pushes = true ∨ s.ac.access = .adminSession →
    ∃ t, exec .flaggedEntryTaken s = .next t ∧ s.Gives t .format) ∧
  ∀ (s : State) (r : KsReq) (rest : List KsReq) (w : KsContent), s.power = .running → s.ks.queue = r :: rest →
    s.ks.writing = some w → r.bySweep = false → s.cu.task = .restoreRecovery →
    ∃ t, exec .ksWriteComplete s = .next t ∧ s.Gives t .refused

/-! ## Arithmetic -/

/-- The unit split: first offset, count and kind of each unit, the counts summing to the transfer count; and the rounding of
the sweep percent, halves to the even integer (R8, R9, R15). -/
def Obligations.UnitSplitAndPercent : Prop :=
  (∀ lba m u, 1 ≤ m → lba / 8 ≤ u → u ≤ (lba + m - 1) / 8 →
    1 ≤ splitCount lba m u ∧ splitCount lba m u ≤ 8 ∧
    splitFirst lba u = (if u = lba / 8 then lba % 8 else 0) ∧
    splitFirst lba u + splitCount lba m u = (if u = (lba + m - 1) / 8 then (lba + m - 1) % 8 + 1 else 8) ∧
    splitKind .read lba m u = .read ∧
    (splitKind .write lba m u = .writeFull ↔ splitCount lba m u = 8) ∧
    (splitCount lba m u ≠ 8 → splitKind .write lba m u = .writeMerge)) ∧
  (∀ lba m, 1 ≤ m →
    ((List.range ((lba + m - 1) / 8 - lba / 8 + 1)).map (fun i => splitCount lba m (lba / 8 + i))).sum = m) ∧
  ∀ c u, 0 < u → c ≤ u → roundedPercent c u ≤ 100 ∧
    (2 * (100 * c % u) < u → roundedPercent c u = 100 * c / u) ∧
    (u < 2 * (100 * c % u) → roundedPercent c u = 100 * c / u + 1) ∧
    (2 * (100 * c % u) = u → roundedPercent c u % 2 = 0 ∧
      (roundedPercent c u = 100 * c / u ∨ roundedPercent c u = 100 * c / u + 1))
end

