-- ==== Sys2Proof/Laws/State.lean ====
section
/-! SUPPORT. One lemma for each block under each block update of Machine/Ops.lean. -/

namespace Sys2Proof.Machine

/-- What `State.setUli` leaves and what it sets. -/
@[simp] theorem State.setUli_fields (s : State) (x : Uli) :
    (s.setUli x).uli = x ∧
    (s.setUli x).power = s.power ∧
    (s.setUli x).txns = s.txns ∧
    (s.setUli x).atr = s.atr ∧
    (s.setUli x).ubp = s.ubp ∧
    (s.setUli x).ce = s.ce ∧
    (s.setUli x).dli = s.dli ∧
    (s.setUli x).ac = s.ac ∧
    (s.setUli x).kps = s.kps ∧
    (s.setUli x).ecp = s.ecp ∧
    (s.setUli x).cu = s.cu ∧
    (s.setUli x).ks = s.ks ∧
    (s.setUli x).swu = s.swu ∧
    (s.setUli x).ind = s.ind ∧
    (s.setUli x).draws = s.draws ∧
    (s.setUli x).pending = s.pending :=
  ⟨rfl, rfl, rfl, rfl, rfl, rfl, rfl, rfl, rfl, rfl, rfl, rfl, rfl, rfl, rfl, rfl⟩

/-- What `State.setTxns` leaves and what it sets. -/
@[simp] theorem State.setTxns_fields (s : State) (x : List Txn) :
    (s.setTxns x).txns = x ∧
    (s.setTxns x).power = s.power ∧
    (s.setTxns x).uli = s.uli ∧
    (s.setTxns x).atr = s.atr ∧
    (s.setTxns x).ubp = s.ubp ∧
    (s.setTxns x).ce = s.ce ∧
    (s.setTxns x).dli = s.dli ∧
    (s.setTxns x).ac = s.ac ∧
    (s.setTxns x).kps = s.kps ∧
    (s.setTxns x).ecp = s.ecp ∧
    (s.setTxns x).cu = s.cu ∧
    (s.setTxns x).ks = s.ks ∧
    (s.setTxns x).swu = s.swu ∧
    (s.setTxns x).ind = s.ind ∧
    (s.setTxns x).draws = s.draws ∧
    (s.setTxns x).pending = s.pending :=
  ⟨rfl, rfl, rfl, rfl, rfl, rfl, rfl, rfl, rfl, rfl, rfl, rfl, rfl, rfl, rfl, rfl⟩

/-- What `State.setAtr` leaves and what it sets. -/
@[simp] theorem State.setAtr_fields (s : State) (x : Atr) :
    (s.setAtr x).atr = x ∧
    (s.setAtr x).power = s.power ∧
    (s.setAtr x).uli = s.uli ∧
    (s.setAtr x).txns = s.txns ∧
    (s.setAtr x).ubp = s.ubp ∧
    (s.setAtr x).ce = s.ce ∧
    (s.setAtr x).dli = s.dli ∧
    (s.setAtr x).ac = s.ac ∧
    (s.setAtr x).kps = s.kps ∧
    (s.setAtr x).ecp = s.ecp ∧
    (s.setAtr x).cu = s.cu ∧
    (s.setAtr x).ks = s.ks ∧
    (s.setAtr x).swu = s.swu ∧
    (s.setAtr x).ind = s.ind ∧
    (s.setAtr x).draws = s.draws ∧
    (s.setAtr x).pending = s.pending :=
  ⟨rfl, rfl, rfl, rfl, rfl, rfl, rfl, rfl, rfl, rfl, rfl, rfl, rfl, rfl, rfl, rfl⟩

/-- What `State.setUbp` leaves and what it sets. -/
@[simp] theorem State.setUbp_fields (s : State) (x : Ubp) :
    (s.setUbp x).ubp = x ∧
    (s.setUbp x).power = s.power ∧
    (s.setUbp x).uli = s.uli ∧
    (s.setUbp x).txns = s.txns ∧
    (s.setUbp x).atr = s.atr ∧
    (s.setUbp x).ce = s.ce ∧
    (s.setUbp x).dli = s.dli ∧
    (s.setUbp x).ac = s.ac ∧
    (s.setUbp x).kps = s.kps ∧
    (s.setUbp x).ecp = s.ecp ∧
    (s.setUbp x).cu = s.cu ∧
    (s.setUbp x).ks = s.ks ∧
    (s.setUbp x).swu = s.swu ∧
    (s.setUbp x).ind = s.ind ∧
    (s.setUbp x).draws = s.draws ∧
    (s.setUbp x).pending = s.pending :=
  ⟨rfl, rfl, rfl, rfl, rfl, rfl, rfl, rfl, rfl, rfl, rfl, rfl, rfl, rfl, rfl, rfl⟩

/-- What `State.setCe` leaves and what it sets. -/
@[simp] theorem State.setCe_fields (s : State) (x : Ce) :
    (s.setCe x).ce = x ∧
    (s.setCe x).power = s.power ∧
    (s.setCe x).uli = s.uli ∧
    (s.setCe x).txns = s.txns ∧
    (s.setCe x).atr = s.atr ∧
    (s.setCe x).ubp = s.ubp ∧
    (s.setCe x).dli = s.dli ∧
    (s.setCe x).ac = s.ac ∧
    (s.setCe x).kps = s.kps ∧
    (s.setCe x).ecp = s.ecp ∧
    (s.setCe x).cu = s.cu ∧
    (s.setCe x).ks = s.ks ∧
    (s.setCe x).swu = s.swu ∧
    (s.setCe x).ind = s.ind ∧
    (s.setCe x).draws = s.draws ∧
    (s.setCe x).pending = s.pending :=
  ⟨rfl, rfl, rfl, rfl, rfl, rfl, rfl, rfl, rfl, rfl, rfl, rfl, rfl, rfl, rfl, rfl⟩

/-- What `State.setDli` leaves and what it sets. -/
@[simp] theorem State.setDli_fields (s : State) (x : Dli) :
    (s.setDli x).dli = x ∧
    (s.setDli x).power = s.power ∧
    (s.setDli x).uli = s.uli ∧
    (s.setDli x).txns = s.txns ∧
    (s.setDli x).atr = s.atr ∧
    (s.setDli x).ubp = s.ubp ∧
    (s.setDli x).ce = s.ce ∧
    (s.setDli x).ac = s.ac ∧
    (s.setDli x).kps = s.kps ∧
    (s.setDli x).ecp = s.ecp ∧
    (s.setDli x).cu = s.cu ∧
    (s.setDli x).ks = s.ks ∧
    (s.setDli x).swu = s.swu ∧
    (s.setDli x).ind = s.ind ∧
    (s.setDli x).draws = s.draws ∧
    (s.setDli x).pending = s.pending :=
  ⟨rfl, rfl, rfl, rfl, rfl, rfl, rfl, rfl, rfl, rfl, rfl, rfl, rfl, rfl, rfl, rfl⟩

/-- What `State.setAc` leaves and what it sets. -/
@[simp] theorem State.setAc_fields (s : State) (x : Ac) :
    (s.setAc x).ac = x ∧
    (s.setAc x).power = s.power ∧
    (s.setAc x).uli = s.uli ∧
    (s.setAc x).txns = s.txns ∧
    (s.setAc x).atr = s.atr ∧
    (s.setAc x).ubp = s.ubp ∧
    (s.setAc x).ce = s.ce ∧
    (s.setAc x).dli = s.dli ∧
    (s.setAc x).kps = s.kps ∧
    (s.setAc x).ecp = s.ecp ∧
    (s.setAc x).cu = s.cu ∧
    (s.setAc x).ks = s.ks ∧
    (s.setAc x).swu = s.swu ∧
    (s.setAc x).ind = s.ind ∧
    (s.setAc x).draws = s.draws ∧
    (s.setAc x).pending = s.pending :=
  ⟨rfl, rfl, rfl, rfl, rfl, rfl, rfl, rfl, rfl, rfl, rfl, rfl, rfl, rfl, rfl, rfl⟩

/-- What `State.setKps` leaves and what it sets. -/
@[simp] theorem State.setKps_fields (s : State) (x : Kps) :
    (s.setKps x).kps = x ∧
    (s.setKps x).power = s.power ∧
    (s.setKps x).uli = s.uli ∧
    (s.setKps x).txns = s.txns ∧
    (s.setKps x).atr = s.atr ∧
    (s.setKps x).ubp = s.ubp ∧
    (s.setKps x).ce = s.ce ∧
    (s.setKps x).dli = s.dli ∧
    (s.setKps x).ac = s.ac ∧
    (s.setKps x).ecp = s.ecp ∧
    (s.setKps x).cu = s.cu ∧
    (s.setKps x).ks = s.ks ∧
    (s.setKps x).swu = s.swu ∧
    (s.setKps x).ind = s.ind ∧
    (s.setKps x).draws = s.draws ∧
    (s.setKps x).pending = s.pending :=
  ⟨rfl, rfl, rfl, rfl, rfl, rfl, rfl, rfl, rfl, rfl, rfl, rfl, rfl, rfl, rfl, rfl⟩

/-- What `State.setEcp` leaves and what it sets. -/
@[simp] theorem State.setEcp_fields (s : State) (x : Ecp) :
    (s.setEcp x).ecp = x ∧
    (s.setEcp x).power = s.power ∧
    (s.setEcp x).uli = s.uli ∧
    (s.setEcp x).txns = s.txns ∧
    (s.setEcp x).atr = s.atr ∧
    (s.setEcp x).ubp = s.ubp ∧
    (s.setEcp x).ce = s.ce ∧
    (s.setEcp x).dli = s.dli ∧
    (s.setEcp x).ac = s.ac ∧
    (s.setEcp x).kps = s.kps ∧
    (s.setEcp x).cu = s.cu ∧
    (s.setEcp x).ks = s.ks ∧
    (s.setEcp x).swu = s.swu ∧
    (s.setEcp x).ind = s.ind ∧
    (s.setEcp x).draws = s.draws ∧
    (s.setEcp x).pending = s.pending :=
  ⟨rfl, rfl, rfl, rfl, rfl, rfl, rfl, rfl, rfl, rfl, rfl, rfl, rfl, rfl, rfl, rfl⟩

/-- What `State.setCu` leaves and what it sets. -/
@[simp] theorem State.setCu_fields (s : State) (x : Cu) :
    (s.setCu x).cu = x ∧
    (s.setCu x).power = s.power ∧
    (s.setCu x).uli = s.uli ∧
    (s.setCu x).txns = s.txns ∧
    (s.setCu x).atr = s.atr ∧
    (s.setCu x).ubp = s.ubp ∧
    (s.setCu x).ce = s.ce ∧
    (s.setCu x).dli = s.dli ∧
    (s.setCu x).ac = s.ac ∧
    (s.setCu x).kps = s.kps ∧
    (s.setCu x).ecp = s.ecp ∧
    (s.setCu x).ks = s.ks ∧
    (s.setCu x).swu = s.swu ∧
    (s.setCu x).ind = s.ind ∧
    (s.setCu x).draws = s.draws ∧
    (s.setCu x).pending = s.pending :=
  ⟨rfl, rfl, rfl, rfl, rfl, rfl, rfl, rfl, rfl, rfl, rfl, rfl, rfl, rfl, rfl, rfl⟩

/-- What `State.setKs` leaves and what it sets. -/
@[simp] theorem State.setKs_fields (s : State) (x : Ks) :
    (s.setKs x).ks = x ∧
    (s.setKs x).power = s.power ∧
    (s.setKs x).uli = s.uli ∧
    (s.setKs x).txns = s.txns ∧
    (s.setKs x).atr = s.atr ∧
    (s.setKs x).ubp = s.ubp ∧
    (s.setKs x).ce = s.ce ∧
    (s.setKs x).dli = s.dli ∧
    (s.setKs x).ac = s.ac ∧
    (s.setKs x).kps = s.kps ∧
    (s.setKs x).ecp = s.ecp ∧
    (s.setKs x).cu = s.cu ∧
    (s.setKs x).swu = s.swu ∧
    (s.setKs x).ind = s.ind ∧
    (s.setKs x).draws = s.draws ∧
    (s.setKs x).pending = s.pending :=
  ⟨rfl, rfl, rfl, rfl, rfl, rfl, rfl, rfl, rfl, rfl, rfl, rfl, rfl, rfl, rfl, rfl⟩

/-- What `State.setSwu` leaves and what it sets. -/
@[simp] theorem State.setSwu_fields (s : State) (x : Swu) :
    (s.setSwu x).swu = x ∧
    (s.setSwu x).power = s.power ∧
    (s.setSwu x).uli = s.uli ∧
    (s.setSwu x).txns = s.txns ∧
    (s.setSwu x).atr = s.atr ∧
    (s.setSwu x).ubp = s.ubp ∧
    (s.setSwu x).ce = s.ce ∧
    (s.setSwu x).dli = s.dli ∧
    (s.setSwu x).ac = s.ac ∧
    (s.setSwu x).kps = s.kps ∧
    (s.setSwu x).ecp = s.ecp ∧
    (s.setSwu x).cu = s.cu ∧
    (s.setSwu x).ks = s.ks ∧
    (s.setSwu x).ind = s.ind ∧
    (s.setSwu x).draws = s.draws ∧
    (s.setSwu x).pending = s.pending :=
  ⟨rfl, rfl, rfl, rfl, rfl, rfl, rfl, rfl, rfl, rfl, rfl, rfl, rfl, rfl, rfl, rfl⟩

/-- What `State.setInd` leaves and what it sets. -/
@[simp] theorem State.setInd_fields (s : State) (x : Ind) :
    (s.setInd x).ind = x ∧
    (s.setInd x).power = s.power ∧
    (s.setInd x).uli = s.uli ∧
    (s.setInd x).txns = s.txns ∧
    (s.setInd x).atr = s.atr ∧
    (s.setInd x).ubp = s.ubp ∧
    (s.setInd x).ce = s.ce ∧
    (s.setInd x).dli = s.dli ∧
    (s.setInd x).ac = s.ac ∧
    (s.setInd x).kps = s.kps ∧
    (s.setInd x).ecp = s.ecp ∧
    (s.setInd x).cu = s.cu ∧
    (s.setInd x).ks = s.ks ∧
    (s.setInd x).swu = s.swu ∧
    (s.setInd x).draws = s.draws ∧
    (s.setInd x).pending = s.pending :=
  ⟨rfl, rfl, rfl, rfl, rfl, rfl, rfl, rfl, rfl, rfl, rfl, rfl, rfl, rfl, rfl, rfl⟩

end Sys2Proof.Machine
end

