-- ==== Sys2Proof/Laws/Frames.lean ====
section
/-! SUPPORT. The frame of each shared operation: the blocks of State it leaves as they were. -/

namespace Sys2Proof.Machine

open Sys2Proof

/-- A value that every step of a fold leaves unchanged is left unchanged by the fold. -/
theorem foldl_keeps {α β : Type} (g : State → β) (f : State → α → State) (h : ∀ s a, g (f s a) = g s)
    (l : List α) : ∀ s, g (l.foldl f s) = g s := by
  induction l with
  | nil => intro s; rfl
  | cons a l ih => intro s; rw [List.foldl_cons, ih, h]

/-- What `placePage` leaves as it was. -/
@[simp] theorem placePage_frame (b : Fin 8) (p : List Byte) (s : State) :
    (placePage b p s).power = s.power ∧ (placePage b p s).uli = s.uli ∧ (placePage b p s).txns = s.txns ∧
    (placePage b p s).atr = s.atr ∧ (placePage b p s).ce = s.ce ∧ (placePage b p s).dli = s.dli ∧
    (placePage b p s).ac = s.ac ∧ (placePage b p s).kps = s.kps ∧ (placePage b p s).ecp = s.ecp ∧
    (placePage b p s).cu = s.cu ∧ (placePage b p s).ks = s.ks ∧ (placePage b p s).swu = s.swu ∧
    (placePage b p s).ind = s.ind ∧ (placePage b p s).draws = s.draws ∧ (placePage b p s).pending = s.pending := by
  dsimp only [placePage]
  (repeat' split) <;> simp

/-- What `placeSector` leaves as it was. -/
@[simp] theorem placeSector_frame (b j : Fin 8) (p : List Byte) (s : State) :
    (placeSector b j p s).power = s.power ∧ (placeSector b j p s).uli = s.uli ∧
    (placeSector b j p s).txns = s.txns ∧ (placeSector b j p s).atr = s.atr ∧ (placeSector b j p s).ce = s.ce ∧
    (placeSector b j p s).dli = s.dli ∧ (placeSector b j p s).ac = s.ac ∧ (placeSector b j p s).kps = s.kps ∧
    (placeSector b j p s).ecp = s.ecp ∧ (placeSector b j p s).cu = s.cu ∧ (placeSector b j p s).ks = s.ks ∧
    (placeSector b j p s).swu = s.swu ∧ (placeSector b j p s).ind = s.ind ∧
    (placeSector b j p s).draws = s.draws ∧ (placeSector b j p s).pending = s.pending := by
  dsimp only [placeSector]
  (repeat' split) <;> simp

/-- What `putUnit` leaves as it was. -/
@[simp] theorem putUnit_frame (b : Fin 8) (u : Fin 4096 → Byte) (s : State) :
    (putUnit b u s).power = s.power ∧ (putUnit b u s).uli = s.uli ∧ (putUnit b u s).txns = s.txns ∧
    (putUnit b u s).atr = s.atr ∧ (putUnit b u s).ce = s.ce ∧ (putUnit b u s).dli = s.dli ∧
    (putUnit b u s).ac = s.ac ∧ (putUnit b u s).kps = s.kps ∧ (putUnit b u s).ecp = s.ecp ∧
    (putUnit b u s).cu = s.cu ∧ (putUnit b u s).ks = s.ks ∧ (putUnit b u s).swu = s.swu ∧
    (putUnit b u s).ind = s.ind ∧ (putUnit b u s).draws = s.draws ∧ (putUnit b u s).pending = s.pending := placePage_frame _ _ _

/-- What `updTxn` leaves as it was. -/
@[simp] theorem updTxn_frame (t : Fin 16) (f : Txn → Txn) (s : State) :
    (updTxn t f s).power = s.power ∧ (updTxn t f s).uli = s.uli ∧ (updTxn t f s).atr = s.atr ∧
    (updTxn t f s).ubp = s.ubp ∧ (updTxn t f s).ce = s.ce ∧ (updTxn t f s).dli = s.dli ∧
    (updTxn t f s).ac = s.ac ∧ (updTxn t f s).kps = s.kps ∧ (updTxn t f s).ecp = s.ecp ∧
    (updTxn t f s).cu = s.cu ∧ (updTxn t f s).ks = s.ks ∧ (updTxn t f s).swu = s.swu ∧
    (updTxn t f s).ind = s.ind ∧ (updTxn t f s).draws = s.draws ∧ (updTxn t f s).pending = s.pending := by
  dsimp only [updTxn]
  (repeat' split) <;> simp

/-- What `dropTxn` leaves as it was. -/
@[simp] theorem dropTxn_frame (t : Fin 16) (s : State) :
    (dropTxn t s).power = s.power ∧ (dropTxn t s).uli = s.uli ∧ (dropTxn t s).atr = s.atr ∧
    (dropTxn t s).ubp = s.ubp ∧ (dropTxn t s).ce = s.ce ∧ (dropTxn t s).dli = s.dli ∧ (dropTxn t s).ac = s.ac ∧
    (dropTxn t s).kps = s.kps ∧ (dropTxn t s).ecp = s.ecp ∧ (dropTxn t s).cu = s.cu ∧ (dropTxn t s).ks = s.ks ∧
    (dropTxn t s).swu = s.swu ∧ (dropTxn t s).ind = s.ind ∧ (dropTxn t s).draws = s.draws ∧
    (dropTxn t s).pending = s.pending := by
  simp [dropTxn]

/-- What `updJob` leaves as it was. -/
@[simp] theorem updJob_frame (b : Fin 8) (f : Job → Job) (s : State) :
    (updJob b f s).power = s.power ∧ (updJob b f s).uli = s.uli ∧ (updJob b f s).txns = s.txns ∧
    (updJob b f s).atr = s.atr ∧ (updJob b f s).ce = s.ce ∧ (updJob b f s).dli = s.dli ∧
    (updJob b f s).ac = s.ac ∧ (updJob b f s).kps = s.kps ∧ (updJob b f s).ecp = s.ecp ∧
    (updJob b f s).cu = s.cu ∧ (updJob b f s).ks = s.ks ∧ (updJob b f s).swu = s.swu ∧
    (updJob b f s).ind = s.ind ∧ (updJob b f s).draws = s.draws ∧ (updJob b f s).pending = s.pending := by
  dsimp only [updJob]
  (repeat' split) <;> simp

/-- What `dropJob` leaves as it was. -/
@[simp] theorem dropJob_frame (b : Fin 8) (s : State) :
    (dropJob b s).power = s.power ∧ (dropJob b s).uli = s.uli ∧ (dropJob b s).txns = s.txns ∧
    (dropJob b s).atr = s.atr ∧ (dropJob b s).ce = s.ce ∧ (dropJob b s).dli = s.dli ∧ (dropJob b s).ac = s.ac ∧
    (dropJob b s).kps = s.kps ∧ (dropJob b s).ecp = s.ecp ∧ (dropJob b s).cu = s.cu ∧ (dropJob b s).ks = s.ks ∧
    (dropJob b s).swu = s.swu ∧ (dropJob b s).ind = s.ind ∧ (dropJob b s).draws = s.draws ∧
    (dropJob b s).pending = s.pending := by
  simp [dropJob]

/-- What `closeIntake` leaves as it was. -/
@[simp] theorem closeIntake_frame (t : Fin 16) (s : State) :
    (closeIntake t s).power = s.power ∧ (closeIntake t s).txns = s.txns ∧ (closeIntake t s).atr = s.atr ∧
    (closeIntake t s).ubp = s.ubp ∧ (closeIntake t s).ce = s.ce ∧ (closeIntake t s).dli = s.dli ∧
    (closeIntake t s).ac = s.ac ∧ (closeIntake t s).kps = s.kps ∧ (closeIntake t s).ecp = s.ecp ∧
    (closeIntake t s).cu = s.cu ∧ (closeIntake t s).ks = s.ks ∧ (closeIntake t s).swu = s.swu ∧
    (closeIntake t s).ind = s.ind ∧ (closeIntake t s).draws = s.draws ∧ (closeIntake t s).pending = s.pending := by
  simp [closeIntake]

/-- What `freeOutput` leaves as it was. -/
@[simp] theorem freeOutput_frame (s : State) :
    (freeOutput s).power = s.power ∧ (freeOutput s).txns = s.txns ∧ (freeOutput s).atr = s.atr ∧
    (freeOutput s).ubp = s.ubp ∧ (freeOutput s).ce = s.ce ∧ (freeOutput s).dli = s.dli ∧
    (freeOutput s).ac = s.ac ∧ (freeOutput s).kps = s.kps ∧ (freeOutput s).ecp = s.ecp ∧
    (freeOutput s).cu = s.cu ∧ (freeOutput s).ks = s.ks ∧ (freeOutput s).swu = s.swu ∧
    (freeOutput s).ind = s.ind ∧ (freeOutput s).draws = s.draws ∧ (freeOutput s).pending = s.pending := by
  simp [freeOutput]

/-- What `sendUp` leaves as it was. -/
@[simp] theorem sendUp_frame (r : UpRecord) (s : State) :
    (sendUp r s).power = s.power ∧ (sendUp r s).txns = s.txns ∧ (sendUp r s).atr = s.atr ∧
    (sendUp r s).ubp = s.ubp ∧ (sendUp r s).ce = s.ce ∧ (sendUp r s).dli = s.dli ∧ (sendUp r s).ac = s.ac ∧
    (sendUp r s).kps = s.kps ∧ (sendUp r s).ecp = s.ecp ∧ (sendUp r s).cu = s.cu ∧ (sendUp r s).ks = s.ks ∧
    (sendUp r s).swu = s.swu ∧ (sendUp r s).ind = s.ind ∧ (sendUp r s).draws = s.draws ∧
    (sendUp r s).pending = s.pending := by
  simp [sendUp]

/-- What `sendDown` leaves as it was. -/
@[simp] theorem sendDown_frame (r : DownRecord) (s : State) :
    (sendDown r s).power = s.power ∧ (sendDown r s).uli = s.uli ∧ (sendDown r s).txns = s.txns ∧
    (sendDown r s).atr = s.atr ∧ (sendDown r s).ubp = s.ubp ∧ (sendDown r s).ce = s.ce ∧
    (sendDown r s).ac = s.ac ∧ (sendDown r s).kps = s.kps ∧ (sendDown r s).ecp = s.ecp ∧
    (sendDown r s).cu = s.cu ∧ (sendDown r s).ks = s.ks ∧ (sendDown r s).swu = s.swu ∧
    (sendDown r s).ind = s.ind ∧ (sendDown r s).draws = s.draws ∧ (sendDown r s).pending = s.pending := by
  simp [sendDown]

/-- What `attention` leaves as it was. -/
@[simp] theorem attention_frame (r : Reason) (s : State) :
    (attention r s).power = s.power ∧ (attention r s).txns = s.txns ∧ (attention r s).atr = s.atr ∧
    (attention r s).ubp = s.ubp ∧ (attention r s).ce = s.ce ∧ (attention r s).dli = s.dli ∧
    (attention r s).ac = s.ac ∧ (attention r s).kps = s.kps ∧ (attention r s).ecp = s.ecp ∧
    (attention r s).cu = s.cu ∧ (attention r s).ks = s.ks ∧ (attention r s).swu = s.swu ∧
    (attention r s).ind = s.ind ∧ (attention r s).draws = s.draws ∧ (attention r s).pending = s.pending := by
  simp [attention]

/-- What `makeRequest` leaves as it was. -/
@[simp] theorem makeRequest_frame (op : DOp) (o : Owner) (s : State) :
    (makeRequest op o s).power = s.power ∧ (makeRequest op o s).uli = s.uli ∧ (makeRequest op o s).txns = s.txns ∧
    (makeRequest op o s).atr = s.atr ∧ (makeRequest op o s).ubp = s.ubp ∧ (makeRequest op o s).ce = s.ce ∧
    (makeRequest op o s).ac = s.ac ∧ (makeRequest op o s).kps = s.kps ∧ (makeRequest op o s).ecp = s.ecp ∧
    (makeRequest op o s).cu = s.cu ∧ (makeRequest op o s).ks = s.ks ∧ (makeRequest op o s).swu = s.swu ∧
    (makeRequest op o s).ind = s.ind ∧ (makeRequest op o s).draws = s.draws ∧
    (makeRequest op o s).pending = s.pending := by
  dsimp only [makeRequest]
  (repeat' split) <;> simp

/-- What `requestRead` leaves as it was. -/
@[simp] theorem requestRead_frame (b : Fin 8) (u : Nat) (s : State) :
    (requestRead b u s).power = s.power ∧ (requestRead b u s).uli = s.uli ∧ (requestRead b u s).txns = s.txns ∧
    (requestRead b u s).atr = s.atr ∧ (requestRead b u s).ce = s.ce ∧ (requestRead b u s).ac = s.ac ∧
    (requestRead b u s).kps = s.kps ∧ (requestRead b u s).ecp = s.ecp ∧ (requestRead b u s).cu = s.cu ∧
    (requestRead b u s).ks = s.ks ∧ (requestRead b u s).swu = s.swu ∧ (requestRead b u s).ind = s.ind ∧
    (requestRead b u s).draws = s.draws ∧ (requestRead b u s).pending = s.pending := by
  simp [requestRead]

/-- What `requestWrite` leaves as it was. -/
@[simp] theorem requestWrite_frame (b : Fin 8) (u : Nat) (s : State) :
    (requestWrite b u s).power = s.power ∧ (requestWrite b u s).uli = s.uli ∧ (requestWrite b u s).txns = s.txns ∧
    (requestWrite b u s).atr = s.atr ∧ (requestWrite b u s).ce = s.ce ∧ (requestWrite b u s).ac = s.ac ∧
    (requestWrite b u s).kps = s.kps ∧ (requestWrite b u s).ecp = s.ecp ∧ (requestWrite b u s).cu = s.cu ∧
    (requestWrite b u s).ks = s.ks ∧ (requestWrite b u s).swu = s.swu ∧ (requestWrite b u s).ind = s.ind ∧
    (requestWrite b u s).draws = s.draws ∧ (requestWrite b u s).pending = s.pending := by
  simp [requestWrite]

/-- What `requestSync` leaves as it was. -/
@[simp] theorem requestSync_frame (t : Fin 16) (s : State) :
    (requestSync t s).power = s.power ∧ (requestSync t s).uli = s.uli ∧ (requestSync t s).txns = s.txns ∧
    (requestSync t s).atr = s.atr ∧ (requestSync t s).ubp = s.ubp ∧ (requestSync t s).ce = s.ce ∧
    (requestSync t s).ac = s.ac ∧ (requestSync t s).kps = s.kps ∧ (requestSync t s).ecp = s.ecp ∧
    (requestSync t s).cu = s.cu ∧ (requestSync t s).ks = s.ks ∧ (requestSync t s).swu = s.swu ∧
    (requestSync t s).ind = s.ind ∧ (requestSync t s).draws = s.draws ∧ (requestSync t s).pending = s.pending := by
  simp [requestSync]

/-- What `withdrawJobs` leaves as it was. -/
@[simp] theorem withdrawJobs_frame (l : List (Fin 8)) (s : State) :
    (withdrawJobs l s).power = s.power ∧ (withdrawJobs l s).uli = s.uli ∧ (withdrawJobs l s).txns = s.txns ∧
    (withdrawJobs l s).atr = s.atr ∧ (withdrawJobs l s).ubp = s.ubp ∧ (withdrawJobs l s).ce = s.ce ∧
    (withdrawJobs l s).ac = s.ac ∧ (withdrawJobs l s).kps = s.kps ∧ (withdrawJobs l s).ecp = s.ecp ∧
    (withdrawJobs l s).cu = s.cu ∧ (withdrawJobs l s).ks = s.ks ∧ (withdrawJobs l s).swu = s.swu ∧
    (withdrawJobs l s).ind = s.ind ∧ (withdrawJobs l s).draws = s.draws ∧ (withdrawJobs l s).pending = s.pending := by
  simp [withdrawJobs]

/-- What `withdrawSync` leaves as it was. -/
@[simp] theorem withdrawSync_frame (t : Fin 16) (s : State) :
    (withdrawSync t s).power = s.power ∧ (withdrawSync t s).uli = s.uli ∧ (withdrawSync t s).txns = s.txns ∧
    (withdrawSync t s).atr = s.atr ∧ (withdrawSync t s).ubp = s.ubp ∧ (withdrawSync t s).ce = s.ce ∧
    (withdrawSync t s).ac = s.ac ∧ (withdrawSync t s).kps = s.kps ∧ (withdrawSync t s).ecp = s.ecp ∧
    (withdrawSync t s).cu = s.cu ∧ (withdrawSync t s).ks = s.ks ∧ (withdrawSync t s).swu = s.swu ∧
    (withdrawSync t s).ind = s.ind ∧ (withdrawSync t s).draws = s.draws ∧ (withdrawSync t s).pending = s.pending := by
  simp [withdrawSync]

/-- What `tellIssued` leaves as it was. -/
@[simp] theorem tellIssued_frame (d : Fin 4) (o : Owner) (s : State) :
    (tellIssued d o s).power = s.power ∧ (tellIssued d o s).uli = s.uli ∧ (tellIssued d o s).txns = s.txns ∧
    (tellIssued d o s).atr = s.atr ∧ (tellIssued d o s).ce = s.ce ∧ (tellIssued d o s).dli = s.dli ∧
    (tellIssued d o s).ac = s.ac ∧ (tellIssued d o s).kps = s.kps ∧ (tellIssued d o s).ecp = s.ecp ∧
    (tellIssued d o s).cu = s.cu ∧ (tellIssued d o s).ks = s.ks ∧ (tellIssued d o s).ind = s.ind ∧
    (tellIssued d o s).draws = s.draws ∧ (tellIssued d o s).pending = s.pending := by
  cases o <;> simp [tellIssued]

/-- What `issue` leaves as it was. -/
@[simp] theorem issue_frame (d : Fin 4) (r : DReq) (s : State) :
    (issue d r s).power = s.power ∧ (issue d r s).uli = s.uli ∧ (issue d r s).txns = s.txns ∧
    (issue d r s).atr = s.atr ∧ (issue d r s).ce = s.ce ∧ (issue d r s).ac = s.ac ∧ (issue d r s).kps = s.kps ∧
    (issue d r s).ecp = s.ecp ∧ (issue d r s).cu = s.cu ∧ (issue d r s).ks = s.ks ∧ (issue d r s).ind = s.ind ∧
    (issue d r s).draws = s.draws ∧ (issue d r s).pending = s.pending := by
  simp [issue]

/-- What `issueAll` leaves as it was. -/
@[simp] theorem issueAll_frame (n : Nat) (s : State) :
    (issueAll n s).power = s.power ∧ (issueAll n s).uli = s.uli ∧ (issueAll n s).txns = s.txns ∧
    (issueAll n s).atr = s.atr ∧ (issueAll n s).ce = s.ce ∧ (issueAll n s).ac = s.ac ∧
    (issueAll n s).kps = s.kps ∧ (issueAll n s).ecp = s.ecp ∧ (issueAll n s).cu = s.cu ∧
    (issueAll n s).ks = s.ks ∧ (issueAll n s).ind = s.ind ∧ (issueAll n s).draws = s.draws ∧
    (issueAll n s).pending = s.pending := by
  induction n generalizing s with
  | zero => simp [issueAll]
  | succ n ih => unfold issueAll; split <;> simp [ih]

/-- What `loseMedia` leaves as it was. -/
@[simp] theorem loseMedia_frame (s : State) :
    (loseMedia s).power = s.power ∧ (loseMedia s).uli = s.uli ∧ (loseMedia s).txns = s.txns ∧
    (loseMedia s).atr = s.atr ∧ (loseMedia s).ubp = s.ubp ∧ (loseMedia s).ce = s.ce ∧ (loseMedia s).ac = s.ac ∧
    (loseMedia s).kps = s.kps ∧ (loseMedia s).ecp = s.ecp ∧ (loseMedia s).cu = s.cu ∧ (loseMedia s).ks = s.ks ∧
    (loseMedia s).swu = s.swu ∧ (loseMedia s).ind = s.ind ∧ (loseMedia s).draws = s.draws ∧
    (loseMedia s).pending = s.pending := by
  simp [loseMedia]

/-- What `identify` leaves as it was. -/
@[simp] theorem identify_frame (p : BitVec 32) (s : State) :
    (identify p s).power = s.power ∧ (identify p s).uli = s.uli ∧ (identify p s).txns = s.txns ∧
    (identify p s).atr = s.atr ∧ (identify p s).ubp = s.ubp ∧ (identify p s).ce = s.ce ∧
    (identify p s).ac = s.ac ∧ (identify p s).kps = s.kps ∧ (identify p s).ecp = s.ecp ∧
    (identify p s).cu = s.cu ∧ (identify p s).ks = s.ks ∧ (identify p s).swu = s.swu ∧
    (identify p s).ind = s.ind ∧ (identify p s).draws = s.draws ∧ (identify p s).pending = s.pending := by
  simp [identify]

/-- What `judge` leaves as it was. -/
@[simp] theorem judge_frame (s : State) :
    (judge s).power = s.power ∧ (judge s).uli = s.uli ∧ (judge s).txns = s.txns ∧ (judge s).atr = s.atr ∧
    (judge s).ubp = s.ubp ∧ (judge s).ce = s.ce ∧ (judge s).dli = s.dli ∧ (judge s).ac = s.ac ∧
    (judge s).kps = s.kps ∧ (judge s).ecp = s.ecp ∧ (judge s).cu = s.cu ∧ (judge s).ks = s.ks ∧
    (judge s).swu = s.swu ∧ (judge s).draws = s.draws ∧ (judge s).pending = s.pending := by
  simp [judge]

/-- What `verdictRequest` leaves as it was. -/
@[simp] theorem verdictRequest_frame (v : Verdict) (s : State) :
    (verdictRequest v s).power = s.power ∧ (verdictRequest v s).uli = s.uli ∧ (verdictRequest v s).txns = s.txns ∧
    (verdictRequest v s).atr = s.atr ∧ (verdictRequest v s).ubp = s.ubp ∧ (verdictRequest v s).ce = s.ce ∧
    (verdictRequest v s).dli = s.dli ∧ (verdictRequest v s).ac = s.ac ∧ (verdictRequest v s).kps = s.kps ∧
    (verdictRequest v s).ecp = s.ecp ∧ (verdictRequest v s).cu = s.cu ∧ (verdictRequest v s).ks = s.ks ∧
    (verdictRequest v s).swu = s.swu ∧ (verdictRequest v s).draws = s.draws ∧
    (verdictRequest v s).pending = s.pending := by
  dsimp only [verdictRequest]
  (repeat' split) <;> simp

/-- What `activityRequest` leaves as it was. -/
@[simp] theorem activityRequest_frame (s : State) :
    (activityRequest s).power = s.power ∧ (activityRequest s).uli = s.uli ∧ (activityRequest s).txns = s.txns ∧
    (activityRequest s).atr = s.atr ∧ (activityRequest s).ubp = s.ubp ∧ (activityRequest s).ce = s.ce ∧
    (activityRequest s).dli = s.dli ∧ (activityRequest s).ac = s.ac ∧ (activityRequest s).kps = s.kps ∧
    (activityRequest s).ecp = s.ecp ∧ (activityRequest s).cu = s.cu ∧ (activityRequest s).ks = s.ks ∧
    (activityRequest s).swu = s.swu ∧ (activityRequest s).draws = s.draws ∧
    (activityRequest s).pending = s.pending := by
  dsimp only [activityRequest]
  (repeat' split) <;> simp

/-- What `briefRunout` leaves as it was. -/
@[simp] theorem briefRunout_frame (s : State) :
    (briefRunout s).power = s.power ∧ (briefRunout s).uli = s.uli ∧ (briefRunout s).txns = s.txns ∧
    (briefRunout s).atr = s.atr ∧ (briefRunout s).ubp = s.ubp ∧ (briefRunout s).ce = s.ce ∧
    (briefRunout s).dli = s.dli ∧ (briefRunout s).ac = s.ac ∧ (briefRunout s).kps = s.kps ∧
    (briefRunout s).ecp = s.ecp ∧ (briefRunout s).cu = s.cu ∧ (briefRunout s).ks = s.ks ∧
    (briefRunout s).swu = s.swu ∧ (briefRunout s).draws = s.draws ∧ (briefRunout s).pending = s.pending := by
  dsimp only [briefRunout]
  (repeat' split) <;> simp

/-- What `darken` leaves as it was. -/
@[simp] theorem darken_frame (s : State) :
    (darken s).power = s.power ∧ (darken s).uli = s.uli ∧ (darken s).txns = s.txns ∧ (darken s).atr = s.atr ∧
    (darken s).ubp = s.ubp ∧ (darken s).ce = s.ce ∧ (darken s).dli = s.dli ∧ (darken s).ac = s.ac ∧
    (darken s).kps = s.kps ∧ (darken s).ecp = s.ecp ∧ (darken s).cu = s.cu ∧ (darken s).ks = s.ks ∧
    (darken s).swu = s.swu ∧ (darken s).draws = s.draws ∧ (darken s).pending = s.pending := by
  simp [darken]

/-- What `ksRequest` leaves as it was. -/
@[simp] theorem ksRequest_frame (r : KsReq) (s : State) :
    (ksRequest r s).power = s.power ∧ (ksRequest r s).uli = s.uli ∧ (ksRequest r s).txns = s.txns ∧
    (ksRequest r s).atr = s.atr ∧ (ksRequest r s).ubp = s.ubp ∧ (ksRequest r s).ce = s.ce ∧
    (ksRequest r s).dli = s.dli ∧ (ksRequest r s).ac = s.ac ∧ (ksRequest r s).kps = s.kps ∧
    (ksRequest r s).ecp = s.ecp ∧ (ksRequest r s).cu = s.cu ∧ (ksRequest r s).swu = s.swu ∧
    (ksRequest r s).ind = s.ind ∧ (ksRequest r s).draws = s.draws ∧ (ksRequest r s).pending = s.pending := by
  simp [ksRequest]

/-- What `readImages` leaves as it was. -/
@[simp] theorem readImages_frame (s : State) :
    (readImages s).power = s.power ∧ (readImages s).uli = s.uli ∧ (readImages s).txns = s.txns ∧
    (readImages s).atr = s.atr ∧ (readImages s).ubp = s.ubp ∧ (readImages s).ce = s.ce ∧
    (readImages s).dli = s.dli ∧ (readImages s).ac = s.ac ∧ (readImages s).kps = s.kps ∧
    (readImages s).ecp = s.ecp ∧ (readImages s).cu = s.cu ∧ (readImages s).swu = s.swu ∧
    (readImages s).ind = s.ind ∧ (readImages s).draws = s.draws ∧ (readImages s).pending = s.pending := by
  simp [readImages]

/-- What `setDone` leaves as it was. -/
@[simp] theorem setDone_frame (t : Fin 16) (s : State) :
    (setDone t s).power = s.power ∧ (setDone t s).uli = s.uli ∧ (setDone t s).atr = s.atr ∧
    (setDone t s).ubp = s.ubp ∧ (setDone t s).ce = s.ce ∧ (setDone t s).dli = s.dli ∧ (setDone t s).ac = s.ac ∧
    (setDone t s).kps = s.kps ∧ (setDone t s).ecp = s.ecp ∧ (setDone t s).cu = s.cu ∧ (setDone t s).ks = s.ks ∧
    (setDone t s).swu = s.swu ∧ (setDone t s).ind = s.ind ∧ (setDone t s).draws = s.draws ∧
    (setDone t s).pending = s.pending := by
  simp [setDone]

/-- What `progress` leaves as it was. -/
@[simp] theorem progress_frame (t : Fin 16) (s : State) :
    (progress t s).power = s.power ∧ (progress t s).uli = s.uli ∧ (progress t s).atr = s.atr ∧
    (progress t s).ubp = s.ubp ∧ (progress t s).ce = s.ce ∧ (progress t s).dli = s.dli ∧
    (progress t s).ac = s.ac ∧ (progress t s).kps = s.kps ∧ (progress t s).ecp = s.ecp ∧
    (progress t s).cu = s.cu ∧ (progress t s).ks = s.ks ∧ (progress t s).swu = s.swu ∧
    (progress t s).ind = s.ind ∧ (progress t s).draws = s.draws ∧ (progress t s).pending = s.pending := by
  dsimp only [progress]
  (repeat' split) <;> simp

/-- What `addDone` leaves as it was. -/
@[simp] theorem addDone_frame (t : Fin 16) (k : Nat) (s : State) :
    (addDone t k s).power = s.power ∧ (addDone t k s).uli = s.uli ∧ (addDone t k s).atr = s.atr ∧
    (addDone t k s).ubp = s.ubp ∧ (addDone t k s).ce = s.ce ∧ (addDone t k s).dli = s.dli ∧
    (addDone t k s).ac = s.ac ∧ (addDone t k s).kps = s.kps ∧ (addDone t k s).ecp = s.ecp ∧
    (addDone t k s).cu = s.cu ∧ (addDone t k s).ks = s.ks ∧ (addDone t k s).swu = s.swu ∧
    (addDone t k s).ind = s.ind ∧ (addDone t k s).draws = s.draws ∧ (addDone t k s).pending = s.pending := by
  simp [addDone]

/-- What `releaseHeld` leaves as it was. -/
@[simp] theorem releaseHeld_frame (t : Fin 16) (n : Nat) (s : State) :
    (releaseHeld t n s).power = s.power ∧ (releaseHeld t n s).uli = s.uli ∧ (releaseHeld t n s).atr = s.atr ∧
    (releaseHeld t n s).ubp = s.ubp ∧ (releaseHeld t n s).ce = s.ce ∧ (releaseHeld t n s).dli = s.dli ∧
    (releaseHeld t n s).ac = s.ac ∧ (releaseHeld t n s).kps = s.kps ∧ (releaseHeld t n s).ecp = s.ecp ∧
    (releaseHeld t n s).cu = s.cu ∧ (releaseHeld t n s).ks = s.ks ∧ (releaseHeld t n s).swu = s.swu ∧
    (releaseHeld t n s).ind = s.ind ∧ (releaseHeld t n s).draws = s.draws ∧
    (releaseHeld t n s).pending = s.pending := by
  simp [releaseHeld]

/-- What `endJob` leaves as it was. -/
@[simp] theorem endJob_frame (j : Job) (s : State) :
    (endJob j s).power = s.power ∧ (endJob j s).uli = s.uli ∧ (endJob j s).atr = s.atr ∧ (endJob j s).ce = s.ce ∧
    (endJob j s).dli = s.dli ∧ (endJob j s).ac = s.ac ∧ (endJob j s).kps = s.kps ∧ (endJob j s).ecp = s.ecp ∧
    (endJob j s).cu = s.cu ∧ (endJob j s).ks = s.ks ∧ (endJob j s).swu = s.swu ∧ (endJob j s).ind = s.ind ∧
    (endJob j s).draws = s.draws ∧ (endJob j s).pending = s.pending := by
  dsimp only [endJob]
  (repeat' split) <;> simp

/-- What `disposeJobs` leaves as it was. -/
@[simp] theorem disposeJobs_frame (t : Fin 16) (s : State) :
    (disposeJobs t s).power = s.power ∧ (disposeJobs t s).uli = s.uli ∧ (disposeJobs t s).atr = s.atr ∧
    (disposeJobs t s).ce = s.ce ∧ (disposeJobs t s).ac = s.ac ∧ (disposeJobs t s).kps = s.kps ∧
    (disposeJobs t s).ecp = s.ecp ∧ (disposeJobs t s).cu = s.cu ∧ (disposeJobs t s).ks = s.ks ∧
    (disposeJobs t s).swu = s.swu ∧ (disposeJobs t s).ind = s.ind ∧ (disposeJobs t s).draws = s.draws ∧
    (disposeJobs t s).pending = s.pending := by
  dsimp only [disposeJobs]
  (repeat' split) <;> simp

/-- What `withdrawWanted` leaves as it was. -/
@[simp] theorem withdrawWanted_frame (t : Fin 16) (s : State) :
    (withdrawWanted t s).power = s.power ∧ (withdrawWanted t s).txns = s.txns ∧ (withdrawWanted t s).atr = s.atr ∧
    (withdrawWanted t s).ubp = s.ubp ∧ (withdrawWanted t s).ce = s.ce ∧ (withdrawWanted t s).dli = s.dli ∧
    (withdrawWanted t s).ac = s.ac ∧ (withdrawWanted t s).kps = s.kps ∧ (withdrawWanted t s).ecp = s.ecp ∧
    (withdrawWanted t s).cu = s.cu ∧ (withdrawWanted t s).ks = s.ks ∧ (withdrawWanted t s).swu = s.swu ∧
    (withdrawWanted t s).ind = s.ind ∧ (withdrawWanted t s).draws = s.draws ∧
    (withdrawWanted t s).pending = s.pending := by
  dsimp only [withdrawWanted]
  (repeat' split) <;> simp

/-- What `disposeWork` leaves as it was. -/
@[simp] theorem disposeWork_frame (x : Txn) (s : State) :
    (disposeWork x s).power = s.power ∧ (disposeWork x s).atr = s.atr ∧ (disposeWork x s).ce = s.ce ∧
    (disposeWork x s).ac = s.ac ∧ (disposeWork x s).kps = s.kps ∧ (disposeWork x s).ecp = s.ecp ∧
    (disposeWork x s).cu = s.cu ∧ (disposeWork x s).ks = s.ks ∧ (disposeWork x s).swu = s.swu ∧
    (disposeWork x s).ind = s.ind ∧ (disposeWork x s).draws = s.draws ∧ (disposeWork x s).pending = s.pending := by
  dsimp only [disposeWork]
  (repeat' split) <;> simp

/-- What `failTxn` leaves as it was. -/
@[simp] theorem failTxn_frame (t : Fin 16) (f : Failure) (s : State) :
    (failTxn t f s).power = s.power ∧ (failTxn t f s).atr = s.atr ∧ (failTxn t f s).ce = s.ce ∧
    (failTxn t f s).ac = s.ac ∧ (failTxn t f s).kps = s.kps ∧ (failTxn t f s).ecp = s.ecp ∧
    (failTxn t f s).cu = s.cu ∧ (failTxn t f s).ks = s.ks ∧ (failTxn t f s).swu = s.swu ∧
    (failTxn t f s).ind = s.ind ∧ (failTxn t f s).draws = s.draws ∧ (failTxn t f s).pending = s.pending := by
  dsimp only [failTxn]
  (repeat' split) <;> simp

/-- What `failVolume` leaves as it was. -/
@[simp] theorem failVolume_frame (v : TxVolume) (f : Failure) (s : State) :
    (failVolume v f s).power = s.power ∧ (failVolume v f s).atr = s.atr ∧ (failVolume v f s).ce = s.ce ∧
    (failVolume v f s).ac = s.ac ∧ (failVolume v f s).kps = s.kps ∧ (failVolume v f s).ecp = s.ecp ∧
    (failVolume v f s).cu = s.cu ∧ (failVolume v f s).ks = s.ks ∧ (failVolume v f s).swu = s.swu ∧
    (failVolume v f s).ind = s.ind ∧ (failVolume v f s).draws = s.draws ∧ (failVolume v f s).pending = s.pending := by
  unfold failVolume
  exact ⟨(foldl_keeps State.power _ (fun s a => by simp) _ _).trans (by simp),
    (foldl_keeps State.atr _ (fun s a => by simp) _ _).trans (by simp),
    (foldl_keeps State.ce _ (fun s a => by simp) _ _).trans (by simp),
    (foldl_keeps State.ac _ (fun s a => by simp) _ _).trans (by simp),
    (foldl_keeps State.kps _ (fun s a => by simp) _ _).trans (by simp),
    (foldl_keeps State.ecp _ (fun s a => by simp) _ _).trans (by simp),
    (foldl_keeps State.cu _ (fun s a => by simp) _ _).trans (by simp),
    (foldl_keeps State.ks _ (fun s a => by simp) _ _).trans (by simp),
    (foldl_keeps State.swu _ (fun s a => by simp) _ _).trans (by simp),
    (foldl_keeps State.ind _ (fun s a => by simp) _ _).trans (by simp),
    (foldl_keeps State.draws _ (fun s a => by simp) _ _).trans (by simp),
    (foldl_keeps State.pending _ (fun s a => by simp) _ _).trans (by simp)⟩

/-- What `syncIfUnmarked` leaves as it was. -/
@[simp] theorem syncIfUnmarked_frame (t : Fin 16) (s : State) :
    (syncIfUnmarked t s).power = s.power ∧ (syncIfUnmarked t s).uli = s.uli ∧ (syncIfUnmarked t s).txns = s.txns ∧
    (syncIfUnmarked t s).atr = s.atr ∧ (syncIfUnmarked t s).ubp = s.ubp ∧ (syncIfUnmarked t s).ce = s.ce ∧
    (syncIfUnmarked t s).ac = s.ac ∧ (syncIfUnmarked t s).kps = s.kps ∧ (syncIfUnmarked t s).ecp = s.ecp ∧
    (syncIfUnmarked t s).cu = s.cu ∧ (syncIfUnmarked t s).ks = s.ks ∧ (syncIfUnmarked t s).swu = s.swu ∧
    (syncIfUnmarked t s).ind = s.ind ∧ (syncIfUnmarked t s).draws = s.draws ∧
    (syncIfUnmarked t s).pending = s.pending := by
  dsimp only [syncIfUnmarked]
  (repeat' split) <;> simp

/-- What `leaveMarks` leaves as it was. -/
@[simp] theorem leaveMarks_frame (b : Fin 8) (s : State) :
    (leaveMarks b s).power = s.power ∧ (leaveMarks b s).uli = s.uli ∧ (leaveMarks b s).atr = s.atr ∧
    (leaveMarks b s).ubp = s.ubp ∧ (leaveMarks b s).ce = s.ce ∧ (leaveMarks b s).ac = s.ac ∧
    (leaveMarks b s).kps = s.kps ∧ (leaveMarks b s).ecp = s.ecp ∧ (leaveMarks b s).cu = s.cu ∧
    (leaveMarks b s).ks = s.ks ∧ (leaveMarks b s).swu = s.swu ∧ (leaveMarks b s).ind = s.ind ∧
    (leaveMarks b s).draws = s.draws ∧ (leaveMarks b s).pending = s.pending := by
  unfold leaveMarks
  exact ⟨(foldl_keeps State.power _ (fun s a => by simp) _ _).trans (by simp),
    (foldl_keeps State.uli _ (fun s a => by simp) _ _).trans (by simp),
    (foldl_keeps State.atr _ (fun s a => by simp) _ _).trans (by simp),
    (foldl_keeps State.ubp _ (fun s a => by simp) _ _).trans (by simp),
    (foldl_keeps State.ce _ (fun s a => by simp) _ _).trans (by simp),
    (foldl_keeps State.ac _ (fun s a => by simp) _ _).trans (by simp),
    (foldl_keeps State.kps _ (fun s a => by simp) _ _).trans (by simp),
    (foldl_keeps State.ecp _ (fun s a => by simp) _ _).trans (by simp),
    (foldl_keeps State.cu _ (fun s a => by simp) _ _).trans (by simp),
    (foldl_keeps State.ks _ (fun s a => by simp) _ _).trans (by simp),
    (foldl_keeps State.swu _ (fun s a => by simp) _ _).trans (by simp),
    (foldl_keeps State.ind _ (fun s a => by simp) _ _).trans (by simp),
    (foldl_keeps State.draws _ (fun s a => by simp) _ _).trans (by simp),
    (foldl_keeps State.pending _ (fun s a => by simp) _ _).trans (by simp)⟩

/-- What `syncEnd` leaves as it was. -/
@[simp] theorem syncEnd_frame (t : Fin 16) (ok : Bool) (s : State) :
    (syncEnd t ok s).power = s.power ∧ (syncEnd t ok s).atr = s.atr ∧ (syncEnd t ok s).ce = s.ce ∧
    (syncEnd t ok s).ac = s.ac ∧ (syncEnd t ok s).kps = s.kps ∧ (syncEnd t ok s).ecp = s.ecp ∧
    (syncEnd t ok s).cu = s.cu ∧ (syncEnd t ok s).ks = s.ks ∧ (syncEnd t ok s).swu = s.swu ∧
    (syncEnd t ok s).ind = s.ind ∧ (syncEnd t ok s).draws = s.draws ∧ (syncEnd t ok s).pending = s.pending := by
  dsimp only [syncEnd]
  (repeat' split) <;> simp

/-- What `endAbandoned` leaves as it was. -/
@[simp] theorem endAbandoned_frame (j : Job) (op : DOp) (s : State) :
    (endAbandoned j op s).power = s.power ∧ (endAbandoned j op s).uli = s.uli ∧
    (endAbandoned j op s).atr = s.atr ∧ (endAbandoned j op s).ce = s.ce ∧ (endAbandoned j op s).ac = s.ac ∧
    (endAbandoned j op s).kps = s.kps ∧ (endAbandoned j op s).ecp = s.ecp ∧ (endAbandoned j op s).cu = s.cu ∧
    (endAbandoned j op s).ks = s.ks ∧ (endAbandoned j op s).swu = s.swu ∧ (endAbandoned j op s).ind = s.ind ∧
    (endAbandoned j op s).draws = s.draws ∧ (endAbandoned j op s).pending = s.pending := by
  dsimp only [endAbandoned]
  (repeat' split) <;> simp

/-- What `readEnd` leaves as it was. -/
@[simp] theorem readEnd_frame (j : Job) (ok : Bool) (p : List Byte) (s : State) :
    (readEnd j ok p s).power = s.power ∧ (readEnd j ok p s).atr = s.atr ∧ (readEnd j ok p s).ce = s.ce ∧
    (readEnd j ok p s).ac = s.ac ∧ (readEnd j ok p s).kps = s.kps ∧ (readEnd j ok p s).ecp = s.ecp ∧
    (readEnd j ok p s).cu = s.cu ∧ (readEnd j ok p s).ks = s.ks ∧ (readEnd j ok p s).swu = s.swu ∧
    (readEnd j ok p s).ind = s.ind ∧ (readEnd j ok p s).draws = s.draws ∧ (readEnd j ok p s).pending = s.pending := by
  dsimp only [readEnd]
  (repeat' split) <;> simp

/-- What `writeEnd` leaves as it was. -/
@[simp] theorem writeEnd_frame (j : Job) (ok : Bool) (s : State) :
    (writeEnd j ok s).power = s.power ∧ (writeEnd j ok s).atr = s.atr ∧ (writeEnd j ok s).ce = s.ce ∧
    (writeEnd j ok s).ac = s.ac ∧ (writeEnd j ok s).kps = s.kps ∧ (writeEnd j ok s).ecp = s.ecp ∧
    (writeEnd j ok s).cu = s.cu ∧ (writeEnd j ok s).ks = s.ks ∧ (writeEnd j ok s).swu = s.swu ∧
    (writeEnd j ok s).draws = s.draws ∧ (writeEnd j ok s).pending = s.pending := by
  dsimp only [writeEnd]
  (repeat' split) <;> simp

/-- What `jobCompletion` leaves as it was. -/
@[simp] theorem jobCompletion_frame (b : Fin 8) (op : DOp) (ok : Bool) (p : List Byte) (s : State) :
    (jobCompletion b op ok p s).power = s.power ∧ (jobCompletion b op ok p s).atr = s.atr ∧
    (jobCompletion b op ok p s).ce = s.ce ∧ (jobCompletion b op ok p s).ac = s.ac ∧
    (jobCompletion b op ok p s).kps = s.kps ∧ (jobCompletion b op ok p s).ecp = s.ecp ∧
    (jobCompletion b op ok p s).cu = s.cu ∧ (jobCompletion b op ok p s).ks = s.ks ∧
    (jobCompletion b op ok p s).swu = s.swu ∧ (jobCompletion b op ok p s).draws = s.draws ∧
    (jobCompletion b op ok p s).pending = s.pending := by
  dsimp only [jobCompletion]
  (repeat' split) <;> simp

/-- What `emptyTable` leaves as it was. -/
@[simp] theorem emptyTable_frame (s : State) :
    (emptyTable s).power = s.power ∧ (emptyTable s).atr = s.atr ∧ (emptyTable s).ce = s.ce ∧
    (emptyTable s).ac = s.ac ∧ (emptyTable s).kps = s.kps ∧ (emptyTable s).ecp = s.ecp ∧
    (emptyTable s).cu = s.cu ∧ (emptyTable s).ks = s.ks ∧ (emptyTable s).swu = s.swu ∧
    (emptyTable s).ind = s.ind ∧ (emptyTable s).draws = s.draws ∧ (emptyTable s).pending = s.pending := by
  simp [emptyTable]

/-- What `cipherTake` leaves as it was. -/
@[simp] theorem cipherTake_frame (s : State) :
    (cipherTake s).power = s.power ∧ (cipherTake s).uli = s.uli ∧ (cipherTake s).txns = s.txns ∧
    (cipherTake s).atr = s.atr ∧ (cipherTake s).ce = s.ce ∧ (cipherTake s).dli = s.dli ∧
    (cipherTake s).ac = s.ac ∧ (cipherTake s).kps = s.kps ∧ (cipherTake s).ecp = s.ecp ∧
    (cipherTake s).cu = s.cu ∧ (cipherTake s).ks = s.ks ∧ (cipherTake s).swu = s.swu ∧
    (cipherTake s).ind = s.ind ∧ (cipherTake s).draws = s.draws ∧ (cipherTake s).pending = s.pending := by
  dsimp only [cipherTake]
  (repeat' split) <;> simp

/-- What `stopCipher` leaves as it was. -/
@[simp] theorem stopCipher_frame (s : State) :
    (stopCipher s).power = s.power ∧ (stopCipher s).uli = s.uli ∧ (stopCipher s).atr = s.atr ∧
    (stopCipher s).ce = s.ce ∧ (stopCipher s).dli = s.dli ∧ (stopCipher s).ac = s.ac ∧
    (stopCipher s).kps = s.kps ∧ (stopCipher s).ecp = s.ecp ∧ (stopCipher s).cu = s.cu ∧
    (stopCipher s).ks = s.ks ∧ (stopCipher s).swu = s.swu ∧ (stopCipher s).ind = s.ind ∧
    (stopCipher s).draws = s.draws ∧ (stopCipher s).pending = s.pending := by
  unfold stopCipher
  exact ⟨(foldl_keeps State.power _ (fun s a => by simp) _ _).trans (by simp),
    (foldl_keeps State.uli _ (fun s a => by simp) _ _).trans (by simp),
    (foldl_keeps State.atr _ (fun s a => by simp) _ _).trans (by simp),
    (foldl_keeps State.ce _ (fun s a => by simp) _ _).trans (by simp),
    (foldl_keeps State.dli _ (fun s a => by simp) _ _).trans (by simp),
    (foldl_keeps State.ac _ (fun s a => by simp) _ _).trans (by simp),
    (foldl_keeps State.kps _ (fun s a => by simp) _ _).trans (by simp),
    (foldl_keeps State.ecp _ (fun s a => by simp) _ _).trans (by simp),
    (foldl_keeps State.cu _ (fun s a => by simp) _ _).trans (by simp),
    (foldl_keeps State.ks _ (fun s a => by simp) _ _).trans (by simp),
    (foldl_keeps State.swu _ (fun s a => by simp) _ _).trans (by simp),
    (foldl_keeps State.ind _ (fun s a => by simp) _ _).trans (by simp),
    (foldl_keeps State.draws _ (fun s a => by simp) _ _).trans (by simp),
    (foldl_keeps State.pending _ (fun s a => by simp) _ _).trans (by simp)⟩

/-- What `cipherEnd` leaves as it was. -/
@[simp] theorem cipherEnd_frame (s : State) :
    (cipherEnd s).power = s.power ∧ (cipherEnd s).uli = s.uli ∧ (cipherEnd s).txns = s.txns ∧
    (cipherEnd s).atr = s.atr ∧ (cipherEnd s).ce = s.ce ∧ (cipherEnd s).ac = s.ac ∧ (cipherEnd s).kps = s.kps ∧
    (cipherEnd s).ecp = s.ecp ∧ (cipherEnd s).cu = s.cu ∧ (cipherEnd s).ks = s.ks ∧ (cipherEnd s).swu = s.swu ∧
    (cipherEnd s).ind = s.ind ∧ (cipherEnd s).draws = s.draws ∧ (cipherEnd s).pending = s.pending := by
  dsimp only [cipherEnd]
  (repeat' split) <;> simp

/-- What `dataWaits` leaves as it was. -/
@[simp] theorem dataWaits_frame (s : State) :
    (dataWaits s).power = s.power ∧ (dataWaits s).uli = s.uli ∧ (dataWaits s).txns = s.txns ∧
    (dataWaits s).atr = s.atr ∧ (dataWaits s).ce = s.ce ∧ (dataWaits s).dli = s.dli ∧ (dataWaits s).ac = s.ac ∧
    (dataWaits s).kps = s.kps ∧ (dataWaits s).ecp = s.ecp ∧ (dataWaits s).cu = s.cu ∧ (dataWaits s).ks = s.ks ∧
    (dataWaits s).swu = s.swu ∧ (dataWaits s).ind = s.ind ∧ (dataWaits s).draws = s.draws ∧
    (dataWaits s).pending = s.pending := by
  dsimp only [dataWaits]
  (repeat' split) <;> simp

/-- What `startJob` leaves as it was. -/
@[simp] theorem startJob_frame (b : Fin 8) (x : Txn) (u : Nat) (s : State) :
    (startJob b x u s).power = s.power ∧ (startJob b x u s).uli = s.uli ∧ (startJob b x u s).atr = s.atr ∧
    (startJob b x u s).ce = s.ce ∧ (startJob b x u s).ac = s.ac ∧ (startJob b x u s).kps = s.kps ∧
    (startJob b x u s).ecp = s.ecp ∧ (startJob b x u s).cu = s.cu ∧ (startJob b x u s).ks = s.ks ∧
    (startJob b x u s).swu = s.swu ∧ (startJob b x u s).ind = s.ind ∧ (startJob b x u s).draws = s.draws ∧
    (startJob b x u s).pending = s.pending := by
  dsimp only [startJob]
  (repeat' split) <;> simp

/-- What `allocate` leaves as it was. -/
@[simp] theorem allocate_frame (n : Nat) (s : State) :
    (allocate n s).power = s.power ∧ (allocate n s).uli = s.uli ∧ (allocate n s).atr = s.atr ∧
    (allocate n s).ce = s.ce ∧ (allocate n s).ac = s.ac ∧ (allocate n s).kps = s.kps ∧
    (allocate n s).ecp = s.ecp ∧ (allocate n s).cu = s.cu ∧ (allocate n s).ks = s.ks ∧
    (allocate n s).swu = s.swu ∧ (allocate n s).ind = s.ind ∧ (allocate n s).draws = s.draws ∧
    (allocate n s).pending = s.pending := by
  induction n generalizing s with
  | zero => simp [allocate]
  | succ n ih => unfold allocate; split <;> simp [ih]

/-- What `startRun` leaves as it was. -/
@[simp] theorem startRun_frame (o : Output) (s : State) :
    (startRun o s).power = s.power ∧ (startRun o s).uli = s.uli ∧ (startRun o s).txns = s.txns ∧
    (startRun o s).atr = s.atr ∧ (startRun o s).ce = s.ce ∧ (startRun o s).dli = s.dli ∧
    (startRun o s).ac = s.ac ∧ (startRun o s).kps = s.kps ∧ (startRun o s).ecp = s.ecp ∧
    (startRun o s).cu = s.cu ∧ (startRun o s).ks = s.ks ∧ (startRun o s).swu = s.swu ∧
    (startRun o s).ind = s.ind ∧ (startRun o s).draws = s.draws ∧ (startRun o s).pending = s.pending := by
  dsimp only [startRun]
  (repeat' split) <;> simp

/-- What `grant` leaves as it was. -/
@[simp] theorem grant_frame (s : State) :
    (grant s).power = s.power ∧ (grant s).txns = s.txns ∧ (grant s).atr = s.atr ∧ (grant s).ce = s.ce ∧
    (grant s).dli = s.dli ∧ (grant s).ac = s.ac ∧ (grant s).kps = s.kps ∧ (grant s).ecp = s.ecp ∧
    (grant s).cu = s.cu ∧ (grant s).ks = s.ks ∧ (grant s).swu = s.swu ∧ (grant s).ind = s.ind ∧
    (grant s).draws = s.draws ∧ (grant s).pending = s.pending := by
  dsimp only [grant]
  (repeat' split) <;> simp

/-- What `requestWindow` leaves as it was. -/
@[simp] theorem requestWindow_frame (c u : Nat) (s : State) :
    (requestWindow c u s).power = s.power ∧ (requestWindow c u s).uli = s.uli ∧
    (requestWindow c u s).txns = s.txns ∧ (requestWindow c u s).atr = s.atr ∧ (requestWindow c u s).ubp = s.ubp ∧
    (requestWindow c u s).ce = s.ce ∧ (requestWindow c u s).ac = s.ac ∧ (requestWindow c u s).kps = s.kps ∧
    (requestWindow c u s).ecp = s.ecp ∧ (requestWindow c u s).cu = s.cu ∧ (requestWindow c u s).ks = s.ks ∧
    (requestWindow c u s).ind = s.ind ∧ (requestWindow c u s).draws = s.draws ∧
    (requestWindow c u s).pending = s.pending := by
  simp [requestWindow]

/-- What `requestCursor` leaves as it was. -/
@[simp] theorem requestCursor_frame (c : Option Nat) (k : Bool) (s : State) :
    (requestCursor c k s).power = s.power ∧ (requestCursor c k s).uli = s.uli ∧
    (requestCursor c k s).txns = s.txns ∧ (requestCursor c k s).atr = s.atr ∧ (requestCursor c k s).ubp = s.ubp ∧
    (requestCursor c k s).ce = s.ce ∧ (requestCursor c k s).dli = s.dli ∧ (requestCursor c k s).ac = s.ac ∧
    (requestCursor c k s).kps = s.kps ∧ (requestCursor c k s).ecp = s.ecp ∧ (requestCursor c k s).cu = s.cu ∧
    (requestCursor c k s).ind = s.ind ∧ (requestCursor c k s).draws = s.draws ∧
    (requestCursor c k s).pending = s.pending := by
  dsimp only [requestCursor]
  (repeat' split) <;> simp

/-- What `makeDue` leaves as it was. -/
@[simp] theorem makeDue_frame (s : State) :
    (makeDue s).power = s.power ∧ (makeDue s).uli = s.uli ∧ (makeDue s).txns = s.txns ∧ (makeDue s).atr = s.atr ∧
    (makeDue s).ubp = s.ubp ∧ (makeDue s).ce = s.ce ∧ (makeDue s).ac = s.ac ∧ (makeDue s).kps = s.kps ∧
    (makeDue s).ecp = s.ecp ∧ (makeDue s).cu = s.cu ∧ (makeDue s).ind = s.ind ∧ (makeDue s).draws = s.draws ∧
    (makeDue s).pending = s.pending := by
  dsimp only [makeDue]
  (repeat' split) <;> simp

/-- What `afterAdvance` leaves as it was. -/
@[simp] theorem afterAdvance_frame (c : Nat) (k : Bool) (s : State) :
    (afterAdvance c k s).power = s.power ∧ (afterAdvance c k s).uli = s.uli ∧ (afterAdvance c k s).txns = s.txns ∧
    (afterAdvance c k s).atr = s.atr ∧ (afterAdvance c k s).ubp = s.ubp ∧ (afterAdvance c k s).ce = s.ce ∧
    (afterAdvance c k s).ac = s.ac ∧ (afterAdvance c k s).kps = s.kps ∧ (afterAdvance c k s).ecp = s.ecp ∧
    (afterAdvance c k s).cu = s.cu ∧ (afterAdvance c k s).ind = s.ind ∧ (afterAdvance c k s).draws = s.draws ∧
    (afterAdvance c k s).pending = s.pending := by
  dsimp only [afterAdvance]
  (repeat' split) <;> simp

/-- What `windowResult` leaves as it was. -/
@[simp] theorem windowResult_frame (r : WindowResult) (n : Nat) (s : State) :
    (windowResult r n s).power = s.power ∧ (windowResult r n s).uli = s.uli ∧ (windowResult r n s).txns = s.txns ∧
    (windowResult r n s).atr = s.atr ∧ (windowResult r n s).ubp = s.ubp ∧ (windowResult r n s).ce = s.ce ∧
    (windowResult r n s).ac = s.ac ∧ (windowResult r n s).kps = s.kps ∧ (windowResult r n s).ecp = s.ecp ∧
    (windowResult r n s).cu = s.cu ∧ (windowResult r n s).ind = s.ind ∧ (windowResult r n s).draws = s.draws ∧
    (windowResult r n s).pending = s.pending := by
  dsimp only [windowResult]
  (repeat' split) <;> simp

/-- What `cursorWritten` leaves as it was. -/
@[simp] theorem cursorWritten_frame (n : Bool) (s : State) :
    (cursorWritten n s).power = s.power ∧ (cursorWritten n s).txns = s.txns ∧ (cursorWritten n s).atr = s.atr ∧
    (cursorWritten n s).ubp = s.ubp ∧ (cursorWritten n s).ce = s.ce ∧ (cursorWritten n s).ac = s.ac ∧
    (cursorWritten n s).kps = s.kps ∧ (cursorWritten n s).ecp = s.ecp ∧ (cursorWritten n s).cu = s.cu ∧
    (cursorWritten n s).ind = s.ind ∧ (cursorWritten n s).draws = s.draws ∧
    (cursorWritten n s).pending = s.pending := by
  dsimp only [cursorWritten]
  (repeat' split) <;> simp

/-- What `eraseHold` leaves as it was. -/
@[simp] theorem eraseHold_frame (s : State) :
    (eraseHold s).power = s.power ∧ (eraseHold s).uli = s.uli ∧ (eraseHold s).txns = s.txns ∧
    (eraseHold s).atr = s.atr ∧ (eraseHold s).ubp = s.ubp ∧ (eraseHold s).ce = s.ce ∧ (eraseHold s).ac = s.ac ∧
    (eraseHold s).kps = s.kps ∧ (eraseHold s).ecp = s.ecp ∧ (eraseHold s).cu = s.cu ∧ (eraseHold s).ks = s.ks ∧
    (eraseHold s).ind = s.ind ∧ (eraseHold s).draws = s.draws ∧ (eraseHold s).pending = s.pending := by
  dsimp only [eraseHold]
  (repeat' split) <;> simp

/-- What `sweepStart` leaves as it was. -/
@[simp] theorem sweepStart_frame (s : State) :
    (sweepStart s).power = s.power ∧ (sweepStart s).uli = s.uli ∧ (sweepStart s).txns = s.txns ∧
    (sweepStart s).atr = s.atr ∧ (sweepStart s).ubp = s.ubp ∧ (sweepStart s).ce = s.ce ∧
    (sweepStart s).dli = s.dli ∧ (sweepStart s).ac = s.ac ∧ (sweepStart s).kps = s.kps ∧
    (sweepStart s).ecp = s.ecp ∧ (sweepStart s).cu = s.cu ∧ (sweepStart s).ks = s.ks ∧
    (sweepStart s).ind = s.ind ∧ (sweepStart s).draws = s.draws ∧ (sweepStart s).pending = s.pending := by
  simp [sweepStart]

/-- What `releaseHold` leaves as it was. -/
@[simp] theorem releaseHold_frame (s : State) :
    (releaseHold s).power = s.power ∧ (releaseHold s).uli = s.uli ∧ (releaseHold s).txns = s.txns ∧
    (releaseHold s).atr = s.atr ∧ (releaseHold s).ubp = s.ubp ∧ (releaseHold s).ce = s.ce ∧
    (releaseHold s).ac = s.ac ∧ (releaseHold s).kps = s.kps ∧ (releaseHold s).ecp = s.ecp ∧
    (releaseHold s).cu = s.cu ∧ (releaseHold s).ind = s.ind ∧ (releaseHold s).draws = s.draws ∧
    (releaseHold s).pending = s.pending := by
  dsimp only [releaseHold]
  (repeat' split) <;> simp

/-- What `sweepReportOk` leaves as it was. -/
@[simp] theorem sweepReportOk_frame (s : State) :
    (sweepReportOk s).power = s.power ∧ (sweepReportOk s).uli = s.uli ∧ (sweepReportOk s).txns = s.txns ∧
    (sweepReportOk s).atr = s.atr ∧ (sweepReportOk s).ubp = s.ubp ∧ (sweepReportOk s).ce = s.ce ∧
    (sweepReportOk s).ac = s.ac ∧ (sweepReportOk s).kps = s.kps ∧ (sweepReportOk s).ecp = s.ecp ∧
    (sweepReportOk s).cu = s.cu ∧ (sweepReportOk s).ind = s.ind ∧ (sweepReportOk s).draws = s.draws ∧
    (sweepReportOk s).pending = s.pending := by
  dsimp only [sweepReportOk]
  (repeat' split) <;> simp

/-- What `sweepAtStart` leaves as it was. -/
@[simp] theorem sweepAtStart_frame (s : State) :
    (sweepAtStart s).power = s.power ∧ (sweepAtStart s).uli = s.uli ∧ (sweepAtStart s).txns = s.txns ∧
    (sweepAtStart s).atr = s.atr ∧ (sweepAtStart s).ubp = s.ubp ∧ (sweepAtStart s).ce = s.ce ∧
    (sweepAtStart s).dli = s.dli ∧ (sweepAtStart s).ac = s.ac ∧ (sweepAtStart s).kps = s.kps ∧
    (sweepAtStart s).ecp = s.ecp ∧ (sweepAtStart s).cu = s.cu ∧ (sweepAtStart s).ks = s.ks ∧
    (sweepAtStart s).ind = s.ind ∧ (sweepAtStart s).draws = s.draws ∧ (sweepAtStart s).pending = s.pending := by
  dsimp only [sweepAtStart]
  (repeat' split) <;> simp

/-- What `present` leaves as it was. -/
@[simp] theorem present_frame (v : Volume) (s : State) :
    (present v s).power = s.power ∧ (present v s).txns = s.txns ∧ (present v s).ubp = s.ubp ∧
    (present v s).ce = s.ce ∧ (present v s).dli = s.dli ∧ (present v s).kps = s.kps ∧ (present v s).ecp = s.ecp ∧
    (present v s).cu = s.cu ∧ (present v s).ks = s.ks ∧ (present v s).swu = s.swu ∧ (present v s).ind = s.ind ∧
    (present v s).draws = s.draws ∧ (present v s).pending = s.pending := by
  dsimp only [present]
  (repeat' split) <;> simp

/-- What `enter` leaves as it was. -/
@[simp] theorem enter_frame (a : Access) (s : State) :
    (enter a s).power = s.power ∧ (enter a s).txns = s.txns ∧ (enter a s).ubp = s.ubp ∧ (enter a s).dli = s.dli ∧
    (enter a s).kps = s.kps ∧ (enter a s).ks = s.ks ∧ (enter a s).swu = s.swu ∧ (enter a s).ind = s.ind ∧
    (enter a s).draws = s.draws ∧ (enter a s).pending = s.pending := by
  dsimp only [enter]
  (repeat' split) <;> simp

/-- What `clearComposition` leaves as it was. -/
@[simp] theorem clearComposition_frame (s : State) :
    (clearComposition s).power = s.power ∧ (clearComposition s).uli = s.uli ∧ (clearComposition s).txns = s.txns ∧
    (clearComposition s).atr = s.atr ∧ (clearComposition s).ubp = s.ubp ∧ (clearComposition s).ce = s.ce ∧
    (clearComposition s).dli = s.dli ∧ (clearComposition s).ac = s.ac ∧ (clearComposition s).kps = s.kps ∧
    (clearComposition s).cu = s.cu ∧ (clearComposition s).ks = s.ks ∧ (clearComposition s).swu = s.swu ∧
    (clearComposition s).ind = s.ind ∧ (clearComposition s).draws = s.draws ∧
    (clearComposition s).pending = s.pending := by
  simp [clearComposition]

/-- What `moveTo` leaves as it was. -/
@[simp] theorem moveTo_frame (a : Access) (s : State) :
    (moveTo a s).power = s.power ∧ (moveTo a s).txns = s.txns ∧ (moveTo a s).ubp = s.ubp ∧
    (moveTo a s).dli = s.dli ∧ (moveTo a s).kps = s.kps ∧ (moveTo a s).ks = s.ks ∧ (moveTo a s).swu = s.swu ∧
    (moveTo a s).ind = s.ind ∧ (moveTo a s).draws = s.draws ∧ (moveTo a s).pending = s.pending := by
  simp [moveTo]

/-- What `showVerdict` leaves as it was. -/
@[simp] theorem showVerdict_frame (v : Verdict) (s : State) :
    (showVerdict v s).power = s.power ∧ (showVerdict v s).uli = s.uli ∧ (showVerdict v s).txns = s.txns ∧
    (showVerdict v s).atr = s.atr ∧ (showVerdict v s).ubp = s.ubp ∧ (showVerdict v s).ce = s.ce ∧
    (showVerdict v s).dli = s.dli ∧ (showVerdict v s).kps = s.kps ∧ (showVerdict v s).ecp = s.ecp ∧
    (showVerdict v s).cu = s.cu ∧ (showVerdict v s).ks = s.ks ∧ (showVerdict v s).swu = s.swu ∧
    (showVerdict v s).draws = s.draws ∧ (showVerdict v s).pending = s.pending := by
  dsimp only [showVerdict]
  (repeat' split) <;> simp

/-- What `reloadIdle` leaves as it was. -/
@[simp] theorem reloadIdle_frame (s : State) :
    (reloadIdle s).power = s.power ∧ (reloadIdle s).uli = s.uli ∧ (reloadIdle s).txns = s.txns ∧
    (reloadIdle s).atr = s.atr ∧ (reloadIdle s).ubp = s.ubp ∧ (reloadIdle s).ce = s.ce ∧
    (reloadIdle s).dli = s.dli ∧ (reloadIdle s).kps = s.kps ∧ (reloadIdle s).ecp = s.ecp ∧
    (reloadIdle s).cu = s.cu ∧ (reloadIdle s).ks = s.ks ∧ (reloadIdle s).swu = s.swu ∧
    (reloadIdle s).ind = s.ind ∧ (reloadIdle s).draws = s.draws ∧ (reloadIdle s).pending = s.pending := by
  dsimp only [reloadIdle]
  (repeat' split) <;> simp

/-- What `loadIdle` leaves as it was. -/
@[simp] theorem loadIdle_frame (s : State) :
    (loadIdle s).power = s.power ∧ (loadIdle s).uli = s.uli ∧ (loadIdle s).txns = s.txns ∧
    (loadIdle s).atr = s.atr ∧ (loadIdle s).ubp = s.ubp ∧ (loadIdle s).ce = s.ce ∧ (loadIdle s).dli = s.dli ∧
    (loadIdle s).kps = s.kps ∧ (loadIdle s).ecp = s.ecp ∧ (loadIdle s).cu = s.cu ∧ (loadIdle s).ks = s.ks ∧
    (loadIdle s).swu = s.swu ∧ (loadIdle s).ind = s.ind ∧ (loadIdle s).draws = s.draws ∧
    (loadIdle s).pending = s.pending := by
  dsimp only [loadIdle]
  (repeat' split) <;> simp

/-- What `overtake` leaves as it was. -/
@[simp] theorem overtake_frame (s : State) :
    (overtake s).power = s.power ∧ (overtake s).uli = s.uli ∧ (overtake s).txns = s.txns ∧
    (overtake s).atr = s.atr ∧ (overtake s).ubp = s.ubp ∧ (overtake s).ce = s.ce ∧ (overtake s).dli = s.dli ∧
    (overtake s).ac = s.ac ∧ (overtake s).kps = s.kps ∧ (overtake s).ecp = s.ecp ∧ (overtake s).ks = s.ks ∧
    (overtake s).swu = s.swu ∧ (overtake s).ind = s.ind ∧ (overtake s).draws = s.draws ∧
    (overtake s).pending = s.pending := by
  dsimp only [overtake]
  (repeat' split) <;> simp

/-- What `lockEvent` leaves as it was. -/
@[simp] theorem lockEvent_frame (c : Cause) (s : State) :
    (lockEvent c s).power = s.power ∧ (lockEvent c s).kps = s.kps ∧ (lockEvent c s).ks = s.ks ∧
    (lockEvent c s).swu = s.swu ∧ (lockEvent c s).ind = s.ind ∧ (lockEvent c s).draws = s.draws ∧
    (lockEvent c s).pending = s.pending := by
  dsimp only [lockEvent]
  (repeat' split) <;> simp

/-- What `ecpReady` leaves as it was. -/
@[simp] theorem ecpReady_frame (s : State) :
    (ecpReady s).power = s.power ∧ (ecpReady s).uli = s.uli ∧ (ecpReady s).txns = s.txns ∧
    (ecpReady s).atr = s.atr ∧ (ecpReady s).ubp = s.ubp ∧ (ecpReady s).ce = s.ce ∧ (ecpReady s).dli = s.dli ∧
    (ecpReady s).ac = s.ac ∧ (ecpReady s).kps = s.kps ∧ (ecpReady s).cu = s.cu ∧ (ecpReady s).ks = s.ks ∧
    (ecpReady s).swu = s.swu ∧ (ecpReady s).ind = s.ind ∧ (ecpReady s).draws = s.draws ∧
    (ecpReady s).pending = s.pending := by
  simp [ecpReady]

/-- What `cuIdle` leaves as it was. -/
@[simp] theorem cuIdle_frame (s : State) :
    (cuIdle s).power = s.power ∧ (cuIdle s).uli = s.uli ∧ (cuIdle s).txns = s.txns ∧ (cuIdle s).atr = s.atr ∧
    (cuIdle s).ubp = s.ubp ∧ (cuIdle s).ce = s.ce ∧ (cuIdle s).dli = s.dli ∧ (cuIdle s).ac = s.ac ∧
    (cuIdle s).kps = s.kps ∧ (cuIdle s).ecp = s.ecp ∧ (cuIdle s).ks = s.ks ∧ (cuIdle s).swu = s.swu ∧
    (cuIdle s).ind = s.ind ∧ (cuIdle s).draws = s.draws ∧ (cuIdle s).pending = s.pending := by
  simp [cuIdle]

/-- What `enterSettling` leaves as it was. -/
@[simp] theorem enterSettling_frame (i : Fin 8) (k : Key) (s : State) :
    (enterSettling i k s).power = s.power ∧ (enterSettling i k s).kps = s.kps ∧ (enterSettling i k s).ks = s.ks ∧
    (enterSettling i k s).swu = s.swu ∧ (enterSettling i k s).ind = s.ind ∧
    (enterSettling i k s).draws = s.draws ∧ (enterSettling i k s).pending = s.pending := by
  simp [enterSettling]

/-- What `enterPresented` leaves as it was. -/
@[simp] theorem enterPresented_frame (s : State) :
    (enterPresented s).power = s.power ∧ (enterPresented s).txns = s.txns ∧ (enterPresented s).ubp = s.ubp ∧
    (enterPresented s).dli = s.dli ∧ (enterPresented s).kps = s.kps ∧ (enterPresented s).ks = s.ks ∧
    (enterPresented s).swu = s.swu ∧ (enterPresented s).ind = s.ind ∧ (enterPresented s).draws = s.draws ∧
    (enterPresented s).pending = s.pending := by
  simp [enterPresented]

/-- What `clearScope` leaves as it was. -/
@[simp] theorem clearScope_frame (s : State) :
    (clearScope s).power = s.power ∧ (clearScope s).uli = s.uli ∧ (clearScope s).txns = s.txns ∧
    (clearScope s).atr = s.atr ∧ (clearScope s).ubp = s.ubp ∧ (clearScope s).ce = s.ce ∧
    (clearScope s).dli = s.dli ∧ (clearScope s).kps = s.kps ∧ (clearScope s).ecp = s.ecp ∧
    (clearScope s).cu = s.cu ∧ (clearScope s).ks = s.ks ∧ (clearScope s).swu = s.swu ∧
    (clearScope s).ind = s.ind ∧ (clearScope s).draws = s.draws ∧ (clearScope s).pending = s.pending := by
  simp [clearScope]

/-- What `reportUnlock` leaves as it was. -/
@[simp] theorem reportUnlock_frame (i : Fin 8) (k : Key) (s : State) :
    (reportUnlock i k s).power = s.power ∧ (reportUnlock i k s).kps = s.kps ∧ (reportUnlock i k s).ks = s.ks ∧
    (reportUnlock i k s).swu = s.swu ∧ (reportUnlock i k s).draws = s.draws ∧
    (reportUnlock i k s).pending = s.pending := by
  simp [reportUnlock]

/-- What `reportRefused` leaves as it was. -/
@[simp] theorem reportRefused_frame (s : State) :
    (reportRefused s).power = s.power ∧ (reportRefused s).txns = s.txns ∧ (reportRefused s).ubp = s.ubp ∧
    (reportRefused s).dli = s.dli ∧ (reportRefused s).kps = s.kps ∧ (reportRefused s).ks = s.ks ∧
    (reportRefused s).swu = s.swu ∧ (reportRefused s).draws = s.draws ∧ (reportRefused s).pending = s.pending := by
  simp [reportRefused]

/-- What `reportAdmin` leaves as it was. -/
@[simp] theorem reportAdmin_frame (k : Key) (s : State) :
    (reportAdmin k s).power = s.power ∧ (reportAdmin k s).txns = s.txns ∧ (reportAdmin k s).ubp = s.ubp ∧
    (reportAdmin k s).dli = s.dli ∧ (reportAdmin k s).kps = s.kps ∧ (reportAdmin k s).ks = s.ks ∧
    (reportAdmin k s).swu = s.swu ∧ (reportAdmin k s).draws = s.draws ∧ (reportAdmin k s).pending = s.pending := by
  simp [reportAdmin]

/-- What `reportEnd` leaves as it was. -/
@[simp] theorem reportEnd_frame (v : Verdict) (s : State) :
    (reportEnd v s).power = s.power ∧ (reportEnd v s).txns = s.txns ∧ (reportEnd v s).ubp = s.ubp ∧
    (reportEnd v s).dli = s.dli ∧ (reportEnd v s).kps = s.kps ∧ (reportEnd v s).ks = s.ks ∧
    (reportEnd v s).swu = s.swu ∧ (reportEnd v s).draws = s.draws ∧ (reportEnd v s).pending = s.pending := by
  dsimp only [reportEnd]
  (repeat' split) <;> simp

/-- What `stage` leaves as it was. -/
@[simp] theorem stage_frame (p : StageStep) (s : State) :
    (stage p s).power = s.power ∧ (stage p s).uli = s.uli ∧ (stage p s).txns = s.txns ∧ (stage p s).atr = s.atr ∧
    (stage p s).ubp = s.ubp ∧ (stage p s).ce = s.ce ∧ (stage p s).dli = s.dli ∧ (stage p s).ac = s.ac ∧
    (stage p s).kps = s.kps ∧ (stage p s).ecp = s.ecp ∧ (stage p s).swu = s.swu ∧ (stage p s).ind = s.ind ∧
    (stage p s).draws = s.draws ∧ (stage p s).pending = s.pending := by
  simp [stage]

/-- What `enterErasing` leaves as it was. -/
@[simp] theorem enterErasing_frame (p : StageStep) (s : State) :
    (enterErasing p s).power = s.power ∧ (enterErasing p s).kps = s.kps ∧ (enterErasing p s).ind = s.ind ∧
    (enterErasing p s).draws = s.draws ∧ (enterErasing p s).pending = s.pending := by
  simp [enterErasing]

/-- What `reportNoMatch` leaves as it was. -/
@[simp] theorem reportNoMatch_frame (f : Nat) (s : State) :
    (reportNoMatch f s).power = s.power ∧ (reportNoMatch f s).kps = s.kps ∧ (reportNoMatch f s).draws = s.draws ∧
    (reportNoMatch f s).pending = s.pending := by
  dsimp only [reportNoMatch]
  (repeat' split) <;> simp

/-- What `reportErase` leaves as it was. -/
@[simp] theorem reportErase_frame (s : State) :
    (reportErase s).power = s.power ∧ (reportErase s).kps = s.kps ∧ (reportErase s).draws = s.draws ∧
    (reportErase s).pending = s.pending := by
  simp [reportErase]

/-- What `eraseDone` leaves as it was. -/
@[simp] theorem eraseDone_frame (s : State) :
    (eraseDone s).power = s.power ∧ (eraseDone s).txns = s.txns ∧ (eraseDone s).ubp = s.ubp ∧
    (eraseDone s).dli = s.dli ∧ (eraseDone s).kps = s.kps ∧ (eraseDone s).ks = s.ks ∧ (eraseDone s).ind = s.ind ∧
    (eraseDone s).draws = s.draws ∧ (eraseDone s).pending = s.pending := by
  simp [eraseDone]

/-- What `acLoss` leaves as it was. -/
@[simp] theorem acLoss_frame (s : State) :
    (acLoss s).power = s.power ∧ (acLoss s).kps = s.kps ∧ (acLoss s).ks = s.ks ∧ (acLoss s).swu = s.swu ∧
    (acLoss s).ind = s.ind ∧ (acLoss s).draws = s.draws ∧ (acLoss s).pending = s.pending := by
  dsimp only [acLoss]
  (repeat' split) <;> simp

/-- What `startVerify` leaves as it was. -/
@[simp] theorem startVerify_frame (k : VerifyKind) (d : List Digit) (t : Option (Fin 8)) (p : Option EnrolFor) (s : State) :
    (startVerify k d t p s).power = s.power ∧ (startVerify k d t p s).uli = s.uli ∧
    (startVerify k d t p s).txns = s.txns ∧ (startVerify k d t p s).atr = s.atr ∧
    (startVerify k d t p s).ubp = s.ubp ∧ (startVerify k d t p s).ce = s.ce ∧
    (startVerify k d t p s).dli = s.dli ∧ (startVerify k d t p s).ac = s.ac ∧
    (startVerify k d t p s).kps = s.kps ∧ (startVerify k d t p s).ecp = s.ecp ∧
    (startVerify k d t p s).ks = s.ks ∧ (startVerify k d t p s).swu = s.swu ∧
    (startVerify k d t p s).ind = s.ind ∧ (startVerify k d t p s).draws = s.draws ∧
    (startVerify k d t p s).pending = s.pending := by
  simp [startVerify]

/-- What `cuWrite` leaves as it was. -/
@[simp] theorem cuWrite_frame (t : CuTask) (b : KsBody) (s : State) :
    (cuWrite t b s).power = s.power ∧ (cuWrite t b s).uli = s.uli ∧ (cuWrite t b s).txns = s.txns ∧
    (cuWrite t b s).atr = s.atr ∧ (cuWrite t b s).ubp = s.ubp ∧ (cuWrite t b s).ce = s.ce ∧
    (cuWrite t b s).dli = s.dli ∧ (cuWrite t b s).ac = s.ac ∧ (cuWrite t b s).kps = s.kps ∧
    (cuWrite t b s).ecp = s.ecp ∧ (cuWrite t b s).swu = s.swu ∧ (cuWrite t b s).ind = s.ind ∧
    (cuWrite t b s).draws = s.draws ∧ (cuWrite t b s).pending = s.pending := by
  simp [cuWrite]

/-- What `enrolWrite` leaves as it was. -/
@[simp] theorem enrolWrite_frame (s : State) :
    (enrolWrite s).power = s.power ∧ (enrolWrite s).uli = s.uli ∧ (enrolWrite s).txns = s.txns ∧
    (enrolWrite s).atr = s.atr ∧ (enrolWrite s).ubp = s.ubp ∧ (enrolWrite s).ce = s.ce ∧
    (enrolWrite s).dli = s.dli ∧ (enrolWrite s).ac = s.ac ∧ (enrolWrite s).kps = s.kps ∧
    (enrolWrite s).swu = s.swu ∧ (enrolWrite s).ind = s.ind ∧ (enrolWrite s).pending = s.pending := by
  dsimp only [enrolWrite]
  (repeat' split) <;> simp

/-- What `failureWrite` leaves as it was. -/
@[simp] theorem failureWrite_frame (s : State) :
    (failureWrite s).power = s.power ∧ (failureWrite s).uli = s.uli ∧ (failureWrite s).txns = s.txns ∧
    (failureWrite s).atr = s.atr ∧ (failureWrite s).ubp = s.ubp ∧ (failureWrite s).ce = s.ce ∧
    (failureWrite s).dli = s.dli ∧ (failureWrite s).ac = s.ac ∧ (failureWrite s).kps = s.kps ∧
    (failureWrite s).ecp = s.ecp ∧ (failureWrite s).swu = s.swu ∧ (failureWrite s).ind = s.ind ∧
    (failureWrite s).draws = s.draws ∧ (failureWrite s).pending = s.pending := by
  dsimp only [failureWrite]
  (repeat' split) <;> simp

/-- What `reportMatch` leaves as it was. -/
@[simp] theorem reportMatch_frame (s : State) :
    (reportMatch s).power = s.power ∧ (reportMatch s).kps = s.kps ∧ (reportMatch s).ks = s.ks ∧
    (reportMatch s).swu = s.swu ∧ (reportMatch s).draws = s.draws ∧ (reportMatch s).pending = s.pending := by
  dsimp only [reportMatch]
  (repeat' split) <;> simp

/-- What `restore` leaves as it was. -/
@[simp] theorem restore_frame (c : Option Nat) (f : Option CredFields) (s : State) :
    (restore c f s).power = s.power ∧ (restore c f s).txns = s.txns ∧ (restore c f s).ubp = s.ubp ∧
    (restore c f s).dli = s.dli ∧ (restore c f s).kps = s.kps ∧ (restore c f s).swu = s.swu ∧
    (restore c f s).draws = s.draws ∧ (restore c f s).pending = s.pending := by
  dsimp only [restore]
  (repeat' split) <;> simp

/-- What `secondQuery` leaves as it was. -/
@[simp] theorem secondQuery_frame (c : Option Nat) (f : Option CredFields) (s : State) :
    (secondQuery c f s).power = s.power ∧ (secondQuery c f s).kps = s.kps ∧ (secondQuery c f s).swu = s.swu ∧
    (secondQuery c f s).draws = s.draws ∧ (secondQuery c f s).pending = s.pending := by
  dsimp only [secondQuery]
  (repeat' split) <;> simp

/-- What `zeroFailures` leaves as it was. -/
@[simp] theorem zeroFailures_frame (f : Option CredFields) (s : State) :
    (zeroFailures f s).power = s.power ∧ (zeroFailures f s).kps = s.kps ∧ (zeroFailures f s).swu = s.swu ∧
    (zeroFailures f s).draws = s.draws ∧ (zeroFailures f s).pending = s.pending := by
  dsimp only [zeroFailures]
  (repeat' split) <;> simp

/-- What `unlockWrites` leaves as it was. -/
@[simp] theorem unlockWrites_frame (i : Fin 8) (s : State) :
    (unlockWrites i s).power = s.power ∧ (unlockWrites i s).kps = s.kps ∧ (unlockWrites i s).swu = s.swu ∧
    (unlockWrites i s).draws = s.draws ∧ (unlockWrites i s).pending = s.pending := by
  dsimp only [unlockWrites]
  (repeat' split) <;> simp

/-- What `adminMatch` leaves as it was. -/
@[simp] theorem adminMatch_frame (s : State) :
    (adminMatch s).power = s.power ∧ (adminMatch s).txns = s.txns ∧ (adminMatch s).ubp = s.ubp ∧
    (adminMatch s).dli = s.dli ∧ (adminMatch s).kps = s.kps ∧ (adminMatch s).swu = s.swu ∧
    (adminMatch s).draws = s.draws ∧ (adminMatch s).pending = s.pending := by
  dsimp only [adminMatch]
  (repeat' split) <;> simp

/-- What `verifyEnded` leaves as it was. -/
@[simp] theorem verifyEnded_frame (s : State) :
    (verifyEnded s).power = s.power ∧ (verifyEnded s).kps = s.kps ∧ (verifyEnded s).pending = s.pending := by
  dsimp only [verifyEnded]
  (repeat' split) <;> simp

/-- What `clearNext` leaves as it was. -/
@[simp] theorem clearNext_frame (l : List (Fin 8)) (s : State) :
    (clearNext l s).power = s.power ∧ (clearNext l s).txns = s.txns ∧ (clearNext l s).ubp = s.ubp ∧
    (clearNext l s).dli = s.dli ∧ (clearNext l s).kps = s.kps ∧ (clearNext l s).swu = s.swu ∧
    (clearNext l s).draws = s.draws ∧ (clearNext l s).pending = s.pending := by
  cases l <;> simp [clearNext]

/-- What `takeHandover` leaves as it was. -/
@[simp] theorem takeHandover_frame (h : Handover) (s : State) :
    (takeHandover h s).power = s.power ∧ (takeHandover h s).txns = s.txns ∧ (takeHandover h s).ubp = s.ubp ∧
    (takeHandover h s).dli = s.dli ∧ (takeHandover h s).kps = s.kps ∧ (takeHandover h s).swu = s.swu ∧
    (takeHandover h s).draws = s.draws ∧ (takeHandover h s).pending = s.pending := by
  dsimp only [takeHandover]
  (repeat' split) <;> simp

/-- What `handOver` leaves as it was. -/
@[simp] theorem handOver_frame (h : Handover) (s : State) :
    (handOver h s).power = s.power ∧ (handOver h s).txns = s.txns ∧ (handOver h s).ubp = s.ubp ∧
    (handOver h s).dli = s.dli ∧ (handOver h s).kps = s.kps ∧ (handOver h s).swu = s.swu ∧
    (handOver h s).draws = s.draws ∧ (handOver h s).pending = s.pending := by
  dsimp only [handOver]
  (repeat' split) <;> simp

/-- What `nextStage` leaves as it was. -/
@[simp] theorem nextStage_frame (p : StageStep) (s : State) :
    (nextStage p s).power = s.power ∧ (nextStage p s).txns = s.txns ∧ (nextStage p s).ubp = s.ubp ∧
    (nextStage p s).dli = s.dli ∧ (nextStage p s).kps = s.kps ∧ (nextStage p s).ind = s.ind ∧
    (nextStage p s).draws = s.draws ∧ (nextStage p s).pending = s.pending := by
  dsimp only [nextStage]
  (repeat' split) <;> simp

/-- What `cuWritten` leaves as it was. -/
@[simp] theorem cuWritten_frame (s : State) :
    (cuWritten s).power = s.power ∧ (cuWritten s).kps = s.kps ∧ (cuWritten s).draws = s.draws ∧
    (cuWritten s).pending = s.pending := by
  dsimp only [cuWritten]
  (repeat' split) <;> simp

/-- What `ksWritten` leaves as it was. -/
@[simp] theorem ksWritten_frame (s : State) :
    (ksWritten s).power = s.power ∧ (ksWritten s).kps = s.kps ∧ (ksWritten s).draws = s.draws ∧
    (ksWritten s).pending = s.pending := by
  dsimp only [ksWritten]
  (repeat' split) <;> simp

/-- What `settle` leaves as it was. -/
@[simp] theorem settle_frame (s : State) :
    (settle s).power = s.power ∧ (settle s).atr = s.atr ∧ (settle s).ce = s.ce ∧ (settle s).ac = s.ac ∧
    (settle s).kps = s.kps ∧ (settle s).ecp = s.ecp ∧ (settle s).cu = s.cu ∧ (settle s).draws = s.draws ∧
    (settle s).pending = s.pending := by
  simp [settle]

/-- What `produce` leaves as it was. -/
@[simp] theorem produce_frame (p : EntryKey → Bool) (s : State) :
    (produce p s).power = s.power ∧ (produce p s).uli = s.uli ∧ (produce p s).txns = s.txns ∧
    (produce p s).atr = s.atr ∧ (produce p s).ubp = s.ubp ∧ (produce p s).ce = s.ce ∧ (produce p s).dli = s.dli ∧
    (produce p s).ecp = s.ecp ∧ (produce p s).cu = s.cu ∧ (produce p s).ks = s.ks ∧ (produce p s).swu = s.swu ∧
    (produce p s).ind = s.ind ∧ (produce p s).draws = s.draws ∧ (produce p s).pending = s.pending := by
  dsimp only [produce]
  (repeat' split) <;> simp

/-- What `push` leaves as it was. -/
@[simp] theorem push_frame (d : Digit) (s : State) :
    (push d s).power = s.power ∧ (push d s).uli = s.uli ∧ (push d s).txns = s.txns ∧ (push d s).atr = s.atr ∧
    (push d s).ubp = s.ubp ∧ (push d s).ce = s.ce ∧ (push d s).dli = s.dli ∧ (push d s).ac = s.ac ∧
    (push d s).kps = s.kps ∧ (push d s).cu = s.cu ∧ (push d s).ks = s.ks ∧ (push d s).swu = s.swu ∧
    (push d s).ind = s.ind ∧ (push d s).draws = s.draws ∧ (push d s).pending = s.pending := by
  dsimp only [push]
  (repeat' split) <;> simp

/-- What `pop` leaves as it was. -/
@[simp] theorem pop_frame (s : State) :
    (pop s).power = s.power ∧ (pop s).uli = s.uli ∧ (pop s).txns = s.txns ∧ (pop s).atr = s.atr ∧
    (pop s).ubp = s.ubp ∧ (pop s).ce = s.ce ∧ (pop s).dli = s.dli ∧ (pop s).ac = s.ac ∧ (pop s).kps = s.kps ∧
    (pop s).cu = s.cu ∧ (pop s).ks = s.ks ∧ (pop s).swu = s.swu ∧ (pop s).ind = s.ind ∧ (pop s).draws = s.draws ∧
    (pop s).pending = s.pending := by
  simp [pop]

/-- What `cancel` leaves as it was. -/
@[simp] theorem cancel_frame (s : State) :
    (cancel s).power = s.power ∧ (cancel s).txns = s.txns ∧ (cancel s).ubp = s.ubp ∧ (cancel s).dli = s.dli ∧
    (cancel s).kps = s.kps ∧ (cancel s).ks = s.ks ∧ (cancel s).swu = s.swu ∧ (cancel s).ind = s.ind ∧
    (cancel s).draws = s.draws ∧ (cancel s).pending = s.pending := by
  simp [cancel]

/-- What `cancelWith` leaves as it was. -/
@[simp] theorem cancelWith_frame (v : Verdict) (s : State) :
    (cancelWith v s).power = s.power ∧ (cancelWith v s).txns = s.txns ∧ (cancelWith v s).ubp = s.ubp ∧
    (cancelWith v s).dli = s.dli ∧ (cancelWith v s).kps = s.kps ∧ (cancelWith v s).ks = s.ks ∧
    (cancelWith v s).swu = s.swu ∧ (cancelWith v s).draws = s.draws ∧ (cancelWith v s).pending = s.pending := by
  simp [cancelWith]

/-- What `submit` leaves as it was. -/
@[simp] theorem submit_frame (a : Bool) (s : State) :
    (submit a s).power = s.power ∧ (submit a s).txns = s.txns ∧ (submit a s).ubp = s.ubp ∧
    (submit a s).dli = s.dli ∧ (submit a s).kps = s.kps ∧ (submit a s).swu = s.swu ∧
    (submit a s).draws = s.draws ∧ (submit a s).pending = s.pending := by
  dsimp only [submit]
  (repeat' split) <;> simp

/-- What `changeRequest` leaves as it was. -/
@[simp] theorem changeRequest_frame (s : State) :
    (changeRequest s).power = s.power ∧ (changeRequest s).txns = s.txns ∧ (changeRequest s).ubp = s.ubp ∧
    (changeRequest s).dli = s.dli ∧ (changeRequest s).kps = s.kps ∧ (changeRequest s).ks = s.ks ∧
    (changeRequest s).swu = s.swu ∧ (changeRequest s).draws = s.draws ∧ (changeRequest s).pending = s.pending := by
  dsimp only [changeRequest]
  (repeat' split) <;> simp

/-- What `firstEntry` leaves as it was. -/
@[simp] theorem firstEntry_frame (s : State) :
    (firstEntry s).power = s.power ∧ (firstEntry s).txns = s.txns ∧ (firstEntry s).ubp = s.ubp ∧
    (firstEntry s).dli = s.dli ∧ (firstEntry s).kps = s.kps ∧ (firstEntry s).ks = s.ks ∧
    (firstEntry s).swu = s.swu ∧ (firstEntry s).draws = s.draws ∧ (firstEntry s).pending = s.pending := by
  dsimp only [firstEntry]
  (repeat' split) <;> simp

/-- What `pinEntry` leaves as it was. -/
@[simp] theorem pinEntry_frame (p : EnrolFor) (s : State) :
    (pinEntry p s).power = s.power ∧ (pinEntry p s).txns = s.txns ∧ (pinEntry p s).ubp = s.ubp ∧
    (pinEntry p s).dli = s.dli ∧ (pinEntry p s).kps = s.kps ∧ (pinEntry p s).swu = s.swu ∧
    (pinEntry p s).draws = s.draws ∧ (pinEntry p s).pending = s.pending := by
  dsimp only [pinEntry]
  (repeat' split) <;> simp

/-- What `submitCommand` leaves as it was. -/
@[simp] theorem submitCommand_frame (c : Fin 10) (s : State) :
    (submitCommand c s).power = s.power ∧ (submitCommand c s).txns = s.txns ∧ (submitCommand c s).ubp = s.ubp ∧
    (submitCommand c s).dli = s.dli ∧ (submitCommand c s).kps = s.kps ∧ (submitCommand c s).swu = s.swu ∧
    (submitCommand c s).draws = s.draws ∧ (submitCommand c s).pending = s.pending := by
  dsimp only [submitCommand, oneDigit, oneOrTwoDigits]
  (repeat' split) <;> (try dsimp only) <;> (repeat' split) <;> simp

/-- What `keyEntry` leaves as it was. -/
@[simp] theorem keyEntry_frame (b : Bool) (s : State) :
    (keyEntry b s).power = s.power ∧ (keyEntry b s).kps = s.kps ∧ (keyEntry b s).swu = s.swu ∧
    (keyEntry b s).draws = s.draws ∧ (keyEntry b s).pending = s.pending := by
  unfold keyEntry adminKey baseKey
  (repeat' split) <;> simp

/-- What `digitEntry` leaves as it was. -/
@[simp] theorem digitEntry_frame (d : Digit) (s : State) :
    (digitEntry d s).power = s.power ∧ (digitEntry d s).uli = s.uli ∧ (digitEntry d s).txns = s.txns ∧
    (digitEntry d s).atr = s.atr ∧ (digitEntry d s).ubp = s.ubp ∧ (digitEntry d s).ce = s.ce ∧
    (digitEntry d s).dli = s.dli ∧ (digitEntry d s).ac = s.ac ∧ (digitEntry d s).kps = s.kps ∧
    (digitEntry d s).cu = s.cu ∧ (digitEntry d s).ks = s.ks ∧ (digitEntry d s).swu = s.swu ∧
    (digitEntry d s).ind = s.ind ∧ (digitEntry d s).draws = s.draws ∧ (digitEntry d s).pending = s.pending := by
  dsimp only [digitEntry]
  (repeat' split) <;> simp

/-- What `tapTaken` leaves as it was. -/
@[simp] theorem tapTaken_frame (s : State) :
    (tapTaken s).power = s.power ∧ (tapTaken s).uli = s.uli ∧ (tapTaken s).txns = s.txns ∧
    (tapTaken s).atr = s.atr ∧ (tapTaken s).ubp = s.ubp ∧ (tapTaken s).ce = s.ce ∧ (tapTaken s).dli = s.dli ∧
    (tapTaken s).ac = s.ac ∧ (tapTaken s).kps = s.kps ∧ (tapTaken s).cu = s.cu ∧ (tapTaken s).ks = s.ks ∧
    (tapTaken s).swu = s.swu ∧ (tapTaken s).ind = s.ind ∧ (tapTaken s).draws = s.draws ∧
    (tapTaken s).pending = s.pending := by
  dsimp only [tapTaken]
  (repeat' split) <;> simp

/-- What `selectCommand` leaves as it was. -/
@[simp] theorem selectCommand_frame (d : Digit) (s : State) :
    (selectCommand d s).power = s.power ∧ (selectCommand d s).uli = s.uli ∧ (selectCommand d s).txns = s.txns ∧
    (selectCommand d s).atr = s.atr ∧ (selectCommand d s).ubp = s.ubp ∧ (selectCommand d s).ce = s.ce ∧
    (selectCommand d s).dli = s.dli ∧ (selectCommand d s).ac = s.ac ∧ (selectCommand d s).kps = s.kps ∧
    (selectCommand d s).cu = s.cu ∧ (selectCommand d s).ks = s.ks ∧ (selectCommand d s).swu = s.swu ∧
    (selectCommand d s).ind = s.ind ∧ (selectCommand d s).draws = s.draws ∧
    (selectCommand d s).pending = s.pending := by
  dsimp only [selectCommand]
  (repeat' split) <;> simp

/-- What `flaggedEntry` leaves as it was. -/
@[simp] theorem flaggedEntry_frame (s : State) :
    (flaggedEntry s).power = s.power ∧ (flaggedEntry s).txns = s.txns ∧ (flaggedEntry s).ubp = s.ubp ∧
    (flaggedEntry s).dli = s.dli ∧ (flaggedEntry s).kps = s.kps ∧ (flaggedEntry s).ks = s.ks ∧
    (flaggedEntry s).swu = s.swu ∧ (flaggedEntry s).draws = s.draws ∧ (flaggedEntry s).pending = s.pending := by
  dsimp only [flaggedEntry]
  (repeat' split) <;> simp

/-- What `afterTake` leaves as it was. -/
@[simp] theorem afterTake_frame (s : State) :
    (afterTake s).power = s.power ∧ (afterTake s).uli = s.uli ∧ (afterTake s).txns = s.txns ∧
    (afterTake s).atr = s.atr ∧ (afterTake s).ubp = s.ubp ∧ (afterTake s).ce = s.ce ∧ (afterTake s).dli = s.dli ∧
    (afterTake s).kps = s.kps ∧ (afterTake s).cu = s.cu ∧ (afterTake s).ks = s.ks ∧ (afterTake s).swu = s.swu ∧
    (afterTake s).ind = s.ind ∧ (afterTake s).draws = s.draws ∧ (afterTake s).pending = s.pending := by
  dsimp only [afterTake]
  (repeat' split) <;> simp

/-- What `refuse` leaves as it was. -/
@[simp] theorem refuse_frame (r : Request) (o : Result) (s : State) :
    (refuse r o s).power = s.power ∧ (refuse r o s).txns = s.txns ∧ (refuse r o s).atr = s.atr ∧
    (refuse r o s).ubp = s.ubp ∧ (refuse r o s).ce = s.ce ∧ (refuse r o s).dli = s.dli ∧
    (refuse r o s).ac = s.ac ∧ (refuse r o s).kps = s.kps ∧ (refuse r o s).ecp = s.ecp ∧
    (refuse r o s).cu = s.cu ∧ (refuse r o s).ks = s.ks ∧ (refuse r o s).swu = s.swu ∧
    (refuse r o s).ind = s.ind ∧ (refuse r o s).draws = s.draws ∧ (refuse r o s).pending = s.pending := by
  simp [refuse]

/-- What `admitRequest` leaves as it was. -/
@[simp] theorem admitRequest_frame (k : TxKind) (t : Fin 16) (r : Request) (s : State) :
    (admitRequest k t r s).power = s.power ∧ (admitRequest k t r s).uli = s.uli ∧ (admitRequest k t r s).atr = s.atr ∧
    (admitRequest k t r s).ubp = s.ubp ∧ (admitRequest k t r s).ce = s.ce ∧ (admitRequest k t r s).ac = s.ac ∧
    (admitRequest k t r s).kps = s.kps ∧ (admitRequest k t r s).ecp = s.ecp ∧ (admitRequest k t r s).cu = s.cu ∧
    (admitRequest k t r s).ks = s.ks ∧ (admitRequest k t r s).swu = s.swu ∧ (admitRequest k t r s).ind = s.ind ∧
    (admitRequest k t r s).draws = s.draws ∧ (admitRequest k t r s).pending = s.pending := by
  simp [admitRequest]

/-- What `takeRequest` leaves as it was. -/
@[simp] theorem takeRequest_frame (r : Request) (s : State) :
    (takeRequest r s).power = s.power ∧ (takeRequest r s).atr = s.atr ∧ (takeRequest r s).ce = s.ce ∧
    (takeRequest r s).kps = s.kps ∧ (takeRequest r s).ecp = s.ecp ∧ (takeRequest r s).cu = s.cu ∧
    (takeRequest r s).ks = s.ks ∧ (takeRequest r s).swu = s.swu ∧ (takeRequest r s).ind = s.ind ∧
    (takeRequest r s).draws = s.draws ∧ (takeRequest r s).pending = s.pending := by
  dsimp only [takeRequest]
  (repeat' split) <;> simp

/-- What `takeSector` leaves as it was. -/
@[simp] theorem takeSector_frame (i : Intake) (j : Job) (l : List Byte) (s : State) :
    (takeSector i j l s).power = s.power ∧ (takeSector i j l s).txns = s.txns ∧ (takeSector i j l s).atr = s.atr ∧
    (takeSector i j l s).ce = s.ce ∧ (takeSector i j l s).dli = s.dli ∧ (takeSector i j l s).ac = s.ac ∧
    (takeSector i j l s).kps = s.kps ∧ (takeSector i j l s).ecp = s.ecp ∧ (takeSector i j l s).cu = s.cu ∧
    (takeSector i j l s).ks = s.ks ∧ (takeSector i j l s).swu = s.swu ∧ (takeSector i j l s).ind = s.ind ∧
    (takeSector i j l s).draws = s.draws ∧ (takeSector i j l s).pending = s.pending := by
  dsimp only [takeSector]
  (repeat' split) <;> simp

/-- What `takeWriteData` leaves as it was. -/
@[simp] theorem takeWriteData_frame (t : Byte) (l : List Byte) (s : State) :
    (takeWriteData t l s).power = s.power ∧ (takeWriteData t l s).txns = s.txns ∧
    (takeWriteData t l s).atr = s.atr ∧ (takeWriteData t l s).ce = s.ce ∧ (takeWriteData t l s).dli = s.dli ∧
    (takeWriteData t l s).ac = s.ac ∧ (takeWriteData t l s).kps = s.kps ∧ (takeWriteData t l s).ecp = s.ecp ∧
    (takeWriteData t l s).cu = s.cu ∧ (takeWriteData t l s).ks = s.ks ∧ (takeWriteData t l s).swu = s.swu ∧
    (takeWriteData t l s).ind = s.ind ∧ (takeWriteData t l s).draws = s.draws ∧
    (takeWriteData t l s).pending = s.pending := by
  dsimp only [takeWriteData]
  (repeat' split) <;> simp

/-- What `waitOnLink` leaves as it was. -/
@[simp] theorem waitOnLink_frame (i : LinkItem) (s : State) :
    (waitOnLink i s).power = s.power ∧ (waitOnLink i s).txns = s.txns ∧ (waitOnLink i s).atr = s.atr ∧
    (waitOnLink i s).ubp = s.ubp ∧ (waitOnLink i s).ce = s.ce ∧ (waitOnLink i s).dli = s.dli ∧
    (waitOnLink i s).ac = s.ac ∧ (waitOnLink i s).kps = s.kps ∧ (waitOnLink i s).ecp = s.ecp ∧
    (waitOnLink i s).cu = s.cu ∧ (waitOnLink i s).ks = s.ks ∧ (waitOnLink i s).swu = s.swu ∧
    (waitOnLink i s).ind = s.ind ∧ (waitOnLink i s).draws = s.draws ∧ (waitOnLink i s).pending = s.pending := by
  simp [waitOnLink]

/-- What `requestArrives` leaves as it was. -/
@[simp] theorem requestArrives_frame (r : Request) (s : State) :
    (requestArrives r s).power = s.power ∧ (requestArrives r s).atr = s.atr ∧ (requestArrives r s).ce = s.ce ∧
    (requestArrives r s).kps = s.kps ∧ (requestArrives r s).ecp = s.ecp ∧ (requestArrives r s).cu = s.cu ∧
    (requestArrives r s).draws = s.draws ∧ (requestArrives r s).pending = s.pending := by
  dsimp only [requestArrives]
  (repeat' split) <;> simp

/-- What `takeLinkReset` leaves as it was. -/
@[simp] theorem takeLinkReset_frame (s : State) :
    (takeLinkReset s).power = s.power ∧ (takeLinkReset s).atr = s.atr ∧ (takeLinkReset s).ce = s.ce ∧
    (takeLinkReset s).kps = s.kps ∧ (takeLinkReset s).ecp = s.ecp ∧ (takeLinkReset s).cu = s.cu ∧
    (takeLinkReset s).ks = s.ks ∧ (takeLinkReset s).swu = s.swu ∧ (takeLinkReset s).ind = s.ind ∧
    (takeLinkReset s).draws = s.draws ∧ (takeLinkReset s).pending = s.pending := by
  simp [takeLinkReset]

/-- What `stopKeypad` leaves as it was. -/
@[simp] theorem stopKeypad_frame (s : State) :
    (stopKeypad s).power = s.power ∧ (stopKeypad s).uli = s.uli ∧ (stopKeypad s).txns = s.txns ∧
    (stopKeypad s).atr = s.atr ∧ (stopKeypad s).ubp = s.ubp ∧ (stopKeypad s).ce = s.ce ∧
    (stopKeypad s).dli = s.dli ∧ (stopKeypad s).ac = s.ac ∧ (stopKeypad s).ecp = s.ecp ∧
    (stopKeypad s).cu = s.cu ∧ (stopKeypad s).ks = s.ks ∧ (stopKeypad s).swu = s.swu ∧
    (stopKeypad s).ind = s.ind ∧ (stopKeypad s).draws = s.draws ∧ (stopKeypad s).pending = s.pending := by
  simp [stopKeypad]

/-- What `startKeypad` leaves as it was. -/
@[simp] theorem startKeypad_frame (s : State) :
    (startKeypad s).power = s.power ∧ (startKeypad s).uli = s.uli ∧ (startKeypad s).txns = s.txns ∧
    (startKeypad s).atr = s.atr ∧ (startKeypad s).ubp = s.ubp ∧ (startKeypad s).ce = s.ce ∧
    (startKeypad s).dli = s.dli ∧ (startKeypad s).ac = s.ac ∧ (startKeypad s).ecp = s.ecp ∧
    (startKeypad s).cu = s.cu ∧ (startKeypad s).ks = s.ks ∧ (startKeypad s).swu = s.swu ∧
    (startKeypad s).ind = s.ind ∧ (startKeypad s).draws = s.draws ∧ (startKeypad s).pending = s.pending := by
  simp [startKeypad]

/-- What `suspendComposer` leaves as it was. -/
@[simp] theorem suspendComposer_frame (s : State) :
    (suspendComposer s).power = s.power ∧ (suspendComposer s).txns = s.txns ∧ (suspendComposer s).ubp = s.ubp ∧
    (suspendComposer s).dli = s.dli ∧ (suspendComposer s).kps = s.kps ∧ (suspendComposer s).ks = s.ks ∧
    (suspendComposer s).swu = s.swu ∧ (suspendComposer s).ind = s.ind ∧ (suspendComposer s).draws = s.draws ∧
    (suspendComposer s).pending = s.pending := by
  dsimp only [suspendComposer]
  (repeat' split) <;> simp

/-- What `suspendLock` leaves as it was. -/
@[simp] theorem suspendLock_frame (s : State) :
    (suspendLock s).power = s.power ∧ (suspendLock s).kps = s.kps ∧ (suspendLock s).ks = s.ks ∧
    (suspendLock s).swu = s.swu ∧ (suspendLock s).ind = s.ind ∧ (suspendLock s).draws = s.draws ∧
    (suspendLock s).pending = s.pending := by
  dsimp only [suspendLock]
  (repeat' split) <;> simp

/-- What `takeSuspend` leaves as it was. -/
@[simp] theorem takeSuspend_frame (s : State) :
    (takeSuspend s).power = s.power ∧ (takeSuspend s).ks = s.ks ∧ (takeSuspend s).swu = s.swu ∧
    (takeSuspend s).draws = s.draws ∧ (takeSuspend s).pending = s.pending := by
  dsimp only [takeSuspend]
  (repeat' split) <;> simp

/-- What `resumeReason` leaves as it was. -/
@[simp] theorem resumeReason_frame (s : State) :
    (resumeReason s).power = s.power ∧ (resumeReason s).txns = s.txns ∧ (resumeReason s).atr = s.atr ∧
    (resumeReason s).ubp = s.ubp ∧ (resumeReason s).ce = s.ce ∧ (resumeReason s).dli = s.dli ∧
    (resumeReason s).kps = s.kps ∧ (resumeReason s).ecp = s.ecp ∧ (resumeReason s).cu = s.cu ∧
    (resumeReason s).ks = s.ks ∧ (resumeReason s).swu = s.swu ∧ (resumeReason s).ind = s.ind ∧
    (resumeReason s).draws = s.draws ∧ (resumeReason s).pending = s.pending := by
  dsimp only [resumeReason]
  (repeat' split) <;> simp

/-- What `resumeVerdict` leaves as it was. -/
@[simp] theorem resumeVerdict_frame (s : State) :
    (resumeVerdict s).power = s.power ∧ (resumeVerdict s).uli = s.uli ∧ (resumeVerdict s).txns = s.txns ∧
    (resumeVerdict s).atr = s.atr ∧ (resumeVerdict s).ubp = s.ubp ∧ (resumeVerdict s).ce = s.ce ∧
    (resumeVerdict s).dli = s.dli ∧ (resumeVerdict s).kps = s.kps ∧ (resumeVerdict s).ecp = s.ecp ∧
    (resumeVerdict s).cu = s.cu ∧ (resumeVerdict s).ks = s.ks ∧ (resumeVerdict s).swu = s.swu ∧
    (resumeVerdict s).draws = s.draws ∧ (resumeVerdict s).pending = s.pending := by
  dsimp only [resumeVerdict]
  (repeat' split) <;> simp

/-- What `takeResume` leaves as it was. -/
@[simp] theorem takeResume_frame (s : State) :
    (takeResume s).power = s.power ∧ (takeResume s).txns = s.txns ∧ (takeResume s).atr = s.atr ∧
    (takeResume s).ubp = s.ubp ∧ (takeResume s).ce = s.ce ∧ (takeResume s).dli = s.dli ∧
    (takeResume s).ecp = s.ecp ∧ (takeResume s).cu = s.cu ∧ (takeResume s).ks = s.ks ∧
    (takeResume s).swu = s.swu ∧ (takeResume s).draws = s.draws ∧ (takeResume s).pending = s.pending := by
  dsimp only [takeResume]
  (repeat' split) <;> simp

/-- What `LinkItem.take` leaves as it was. -/
@[simp] theorem LinkItem.take_frame (i : LinkItem) (s : State) :
    (LinkItem.take i s).power = s.power ∧ (LinkItem.take i s).ks = s.ks ∧ (LinkItem.take i s).swu = s.swu ∧
    (LinkItem.take i s).draws = s.draws ∧ (LinkItem.take i s).pending = s.pending := by
  cases i <;> simp [LinkItem.take]

/-- What `drain` leaves as it was. -/
@[simp] theorem drain_frame (n : Nat) (s : State) :
    (drain n s).power = s.power ∧ (drain n s).draws = s.draws ∧ (drain n s).pending = s.pending := by
  induction n generalizing s with
  | zero => simp [drain]
  | succ n ih => unfold drain; split <;> simp [ih]

/-- What `settleLink` leaves as it was. -/
@[simp] theorem settleLink_frame (s : State) :
    (settleLink s).power = s.power ∧ (settleLink s).draws = s.draws ∧ (settleLink s).pending = s.pending := by
  simp [settleLink]

/-- What `signalArrives` leaves as it was. -/
@[simp] theorem signalArrives_frame (i : LinkItem) (s : State) :
    (signalArrives i s).power = s.power ∧ (signalArrives i s).draws = s.draws ∧
    (signalArrives i s).pending = s.pending := by
  dsimp only [signalArrives]
  (repeat' split) <;> simp

/-- What `refusalSent` leaves as it was. -/
@[simp] theorem refusalSent_frame (s : State) :
    (refusalSent s).power = s.power ∧ (refusalSent s).draws = s.draws ∧ (refusalSent s).pending = s.pending := by
  dsimp only [refusalSent]
  (repeat' split) <;> simp

/-- What `stateSent` leaves as it was. -/
@[simp] theorem stateSent_frame (s : State) :
    (stateSent s).power = s.power ∧ (stateSent s).txns = s.txns ∧ (stateSent s).atr = s.atr ∧
    (stateSent s).ubp = s.ubp ∧ (stateSent s).ce = s.ce ∧ (stateSent s).dli = s.dli ∧ (stateSent s).ac = s.ac ∧
    (stateSent s).kps = s.kps ∧ (stateSent s).ecp = s.ecp ∧ (stateSent s).cu = s.cu ∧ (stateSent s).ks = s.ks ∧
    (stateSent s).ind = s.ind ∧ (stateSent s).draws = s.draws ∧ (stateSent s).pending = s.pending := by
  simp [stateSent]

/-- What `completeSent` leaves as it was. -/
@[simp] theorem completeSent_frame (s : State) :
    (completeSent s).power = s.power ∧ (completeSent s).atr = s.atr ∧ (completeSent s).ce = s.ce ∧
    (completeSent s).ac = s.ac ∧ (completeSent s).kps = s.kps ∧ (completeSent s).ecp = s.ecp ∧
    (completeSent s).cu = s.cu ∧ (completeSent s).draws = s.draws ∧ (completeSent s).pending = s.pending := by
  dsimp only [completeSent]
  (repeat' split) <;> simp

/-- What `dataWantedSent` leaves as it was. -/
@[simp] theorem dataWantedSent_frame (s : State) :
    (dataWantedSent s).power = s.power ∧ (dataWantedSent s).atr = s.atr ∧ (dataWantedSent s).ce = s.ce ∧
    (dataWantedSent s).ac = s.ac ∧ (dataWantedSent s).kps = s.kps ∧ (dataWantedSent s).ecp = s.ecp ∧
    (dataWantedSent s).cu = s.cu ∧ (dataWantedSent s).draws = s.draws ∧ (dataWantedSent s).pending = s.pending := by
  dsimp only [dataWantedSent]
  (repeat' split) <;> simp

/-- What `readDataSent` leaves as it was. -/
@[simp] theorem readDataSent_frame (s : State) :
    (readDataSent s).power = s.power ∧ (readDataSent s).atr = s.atr ∧ (readDataSent s).ce = s.ce ∧
    (readDataSent s).ac = s.ac ∧ (readDataSent s).kps = s.kps ∧ (readDataSent s).ecp = s.ecp ∧
    (readDataSent s).cu = s.cu ∧ (readDataSent s).draws = s.draws ∧ (readDataSent s).pending = s.pending := by
  dsimp only [readDataSent]
  (repeat' split) <;> simp

/-- What `overlaySent` leaves as it was. -/
@[simp] theorem overlaySent_frame (s : State) :
    (overlaySent s).power = s.power ∧ (overlaySent s).atr = s.atr ∧ (overlaySent s).ce = s.ce ∧
    (overlaySent s).ac = s.ac ∧ (overlaySent s).kps = s.kps ∧ (overlaySent s).ecp = s.ecp ∧
    (overlaySent s).cu = s.cu ∧ (overlaySent s).draws = s.draws ∧ (overlaySent s).pending = s.pending := by
  dsimp only [overlaySent]
  (repeat' split) <;> simp

/-- What `dataWaitExpired` leaves as it was. -/
@[simp] theorem dataWaitExpired_frame (t : Fin 16) (s : State) :
    (dataWaitExpired t s).power = s.power ∧ (dataWaitExpired t s).atr = s.atr ∧ (dataWaitExpired t s).ce = s.ce ∧
    (dataWaitExpired t s).ac = s.ac ∧ (dataWaitExpired t s).kps = s.kps ∧ (dataWaitExpired t s).ecp = s.ecp ∧
    (dataWaitExpired t s).cu = s.cu ∧ (dataWaitExpired t s).draws = s.draws ∧
    (dataWaitExpired t s).pending = s.pending := by
  dsimp only [dataWaitExpired]
  (repeat' split) <;> simp

/-- What `ownerTakes` leaves as it was. -/
@[simp] theorem ownerTakes_frame (op : DOp) (o : Owner) (ok lost : Bool) (p : List Byte) (s : State) :
    (ownerTakes op o ok lost p s).power = s.power ∧ (ownerTakes op o ok lost p s).atr = s.atr ∧
    (ownerTakes op o ok lost p s).ce = s.ce ∧ (ownerTakes op o ok lost p s).ac = s.ac ∧
    (ownerTakes op o ok lost p s).kps = s.kps ∧ (ownerTakes op o ok lost p s).ecp = s.ecp ∧
    (ownerTakes op o ok lost p s).cu = s.cu ∧ (ownerTakes op o ok lost p s).draws = s.draws ∧
    (ownerTakes op o ok lost p s).pending = s.pending := by
  dsimp only [ownerTakes]
  (repeat' split) <;> simp

/-- What `takeCompletion` leaves as it was. -/
@[simp] theorem takeCompletion_frame (o d st : Byte) (l : List Byte) (s : State) :
    (takeCompletion o d st l s).power = s.power ∧ (takeCompletion o d st l s).atr = s.atr ∧
    (takeCompletion o d st l s).ce = s.ce ∧ (takeCompletion o d st l s).ac = s.ac ∧
    (takeCompletion o d st l s).kps = s.kps ∧ (takeCompletion o d st l s).ecp = s.ecp ∧
    (takeCompletion o d st l s).cu = s.cu ∧ (takeCompletion o d st l s).draws = s.draws ∧
    (takeCompletion o d st l s).pending = s.pending := by
  dsimp only [takeCompletion]
  (repeat' split) <;> simp

/-- What `takeError` leaves as it was. -/
@[simp] theorem takeError_frame (o : Owner) (s : State) :
    (takeError o s).power = s.power ∧ (takeError o s).atr = s.atr ∧ (takeError o s).ce = s.ce ∧
    (takeError o s).ac = s.ac ∧ (takeError o s).kps = s.kps ∧ (takeError o s).ecp = s.ecp ∧
    (takeError o s).cu = s.cu ∧ (takeError o s).draws = s.draws ∧ (takeError o s).pending = s.pending := by
  dsimp only [takeError]
  (repeat' split) <;> simp

/-- What `takeEarly` leaves as it was. -/
@[simp] theorem takeEarly_frame (l : List Owner) (s : State) :
    (takeEarly l s).power = s.power ∧ (takeEarly l s).atr = s.atr ∧ (takeEarly l s).ce = s.ce ∧
    (takeEarly l s).ac = s.ac ∧ (takeEarly l s).kps = s.kps ∧ (takeEarly l s).ecp = s.ecp ∧
    (takeEarly l s).cu = s.cu ∧ (takeEarly l s).draws = s.draws ∧ (takeEarly l s).pending = s.pending := by
  unfold takeEarly
  exact ⟨(foldl_keeps State.power _ (fun s a => by simp) _ _).trans (by simp),
    (foldl_keeps State.atr _ (fun s a => by simp) _ _).trans (by simp),
    (foldl_keeps State.ce _ (fun s a => by simp) _ _).trans (by simp),
    (foldl_keeps State.ac _ (fun s a => by simp) _ _).trans (by simp),
    (foldl_keeps State.kps _ (fun s a => by simp) _ _).trans (by simp),
    (foldl_keeps State.ecp _ (fun s a => by simp) _ _).trans (by simp),
    (foldl_keeps State.cu _ (fun s a => by simp) _ _).trans (by simp),
    (foldl_keeps State.draws _ (fun s a => by simp) _ _).trans (by simp),
    (foldl_keeps State.pending _ (fun s a => by simp) _ _).trans (by simp)⟩

/-- What `reportMedia` leaves as it was. -/
@[simp] theorem reportMedia_frame (s : State) :
    (reportMedia s).power = s.power ∧ (reportMedia s).uli = s.uli ∧ (reportMedia s).txns = s.txns ∧
    (reportMedia s).atr = s.atr ∧ (reportMedia s).ubp = s.ubp ∧ (reportMedia s).ce = s.ce ∧
    (reportMedia s).ac = s.ac ∧ (reportMedia s).kps = s.kps ∧ (reportMedia s).ecp = s.ecp ∧
    (reportMedia s).cu = s.cu ∧ (reportMedia s).ind = s.ind ∧ (reportMedia s).draws = s.draws ∧
    (reportMedia s).pending = s.pending := by
  dsimp only [reportMedia]
  (repeat' split) <;> simp

/-- What `mediaLost` leaves as it was. -/
@[simp] theorem mediaLost_frame (l : List Owner) (s : State) :
    (mediaLost l s).power = s.power ∧ (mediaLost l s).kps = s.kps ∧ (mediaLost l s).draws = s.draws ∧
    (mediaLost l s).pending = s.pending := by
  dsimp only [mediaLost]
  (repeat' split) <;> simp

/-- What `identTaken` leaves as it was. -/
@[simp] theorem identTaken_frame (p : BitVec 32) (l : List Owner) (s : State) :
    (identTaken p l s).power = s.power ∧ (identTaken p l s).kps = s.kps ∧ (identTaken p l s).draws = s.draws ∧
    (identTaken p l s).pending = s.pending := by
  dsimp only [identTaken]
  (repeat' split) <;> simp

/-- What `identWaitExpired` leaves as it was. -/
@[simp] theorem identWaitExpired_frame (s : State) :
    (identWaitExpired s).power = s.power ∧ (identWaitExpired s).atr = s.atr ∧ (identWaitExpired s).ce = s.ce ∧
    (identWaitExpired s).ac = s.ac ∧ (identWaitExpired s).kps = s.kps ∧ (identWaitExpired s).ecp = s.ecp ∧
    (identWaitExpired s).cu = s.cu ∧ (identWaitExpired s).draws = s.draws ∧
    (identWaitExpired s).pending = s.pending := by
  dsimp only [identWaitExpired]
  (repeat' split) <;> simp

/-- What `restEnd` leaves as it was. -/
@[simp] theorem restEnd_frame (s : State) :
    (restEnd s).power = s.power ∧ (restEnd s).uli = s.uli ∧ (restEnd s).txns = s.txns ∧ (restEnd s).atr = s.atr ∧
    (restEnd s).ubp = s.ubp ∧ (restEnd s).ce = s.ce ∧ (restEnd s).dli = s.dli ∧ (restEnd s).ac = s.ac ∧
    (restEnd s).kps = s.kps ∧ (restEnd s).ecp = s.ecp ∧ (restEnd s).cu = s.cu ∧ (restEnd s).ks = s.ks ∧
    (restEnd s).swu = s.swu ∧ (restEnd s).draws = s.draws ∧ (restEnd s).pending = s.pending := by
  dsimp only [restEnd]
  (repeat' split) <;> simp

/-- What `startAccess` leaves as it was. -/
@[simp] theorem startAccess_frame (s : State) :
    (startAccess s).power = s.power ∧ (startAccess s).kps = s.kps ∧ (startAccess s).ind = s.ind ∧
    (startAccess s).draws = s.draws ∧ (startAccess s).pending = s.pending := by
  dsimp only [startAccess]
  (repeat' split) <;> simp

/-- What `startRebuild` leaves as it was. -/
@[simp] theorem startRebuild_frame (s : State) :
    (startRebuild s).power = s.power ∧ (startRebuild s).uli = s.uli ∧ (startRebuild s).txns = s.txns ∧
    (startRebuild s).atr = s.atr ∧ (startRebuild s).ubp = s.ubp ∧ (startRebuild s).ce = s.ce ∧
    (startRebuild s).dli = s.dli ∧ (startRebuild s).ac = s.ac ∧ (startRebuild s).kps = s.kps ∧
    (startRebuild s).ecp = s.ecp ∧ (startRebuild s).swu = s.swu ∧ (startRebuild s).ind = s.ind ∧
    (startRebuild s).draws = s.draws ∧ (startRebuild s).pending = s.pending := by
  dsimp only [startRebuild]
  (repeat' split) <;> simp

end Sys2Proof.Machine
end

