-- ==== Sys2Proof/Laws/Memory.lean ====
section
/-! SUPPORT. The unit-buffer memory: what a read after a store gives, and that every store keeps the canonical form. -/

namespace Sys2Proof.Machine

open Sys2Proof

/-- A list with no cell at an address reads as blank there. -/
theorem Memory.read_absent (m : List Host.Cell) (a : Nat) (h : ∀ c ∈ m, c.1 ≠ a) :
    Memory.read m a = Memory.blank := by
  induction m with
  | nil => rfl
  | cons c rest ih =>
    simp only [List.mem_cons, forall_eq_or_imp] at h
    simp [Memory.read, h.1, ih h.2]

/-- Cells before the address are passed over. -/
theorem Memory.read_append_right (m n : List Host.Cell) (a : Nat) (h : ∀ c ∈ m, c.1 ≠ a) :
    Memory.read (m ++ n) a = Memory.read n a := by
  induction m with
  | nil => rfl
  | cons c rest ih =>
    simp only [List.mem_cons, forall_eq_or_imp] at h
    simp [Memory.read, h.1, ih h.2]

/-- Cells after the ones that could hold the address do not matter. -/
theorem Memory.read_append_left (m n : List Host.Cell) (a : Nat) (h : ∀ c ∈ n, c.1 ≠ a) :
    Memory.read (m ++ n) a = Memory.read m a := by
  induction m with
  | nil => exact Memory.read_absent n a h
  | cons c rest ih => simp [Memory.read, ih]

/-- A filter that keeps every cell at an address keeps what is read there. -/
theorem Memory.read_filter (m : List Host.Cell) (a : Nat) (p : Host.Cell → Bool) (h : ∀ c ∈ m, c.1 = a → p c = true) :
    Memory.read (m.filter p) a = Memory.read m a := by
  induction m with
  | nil => rfl
  | cons c rest ih =>
    simp only [List.mem_cons, forall_eq_or_imp] at h
    by_cases hp : p c = true
    · simp [hp, Memory.read, ih h.2]
    · have hne : c.1 ≠ a := fun e => hp (h.1 e)
      simp [hp, Memory.read, hne, ih h.2]

/-- The cells of a run lie in the run. -/
theorem Memory.cells_bounds (bytes : List Byte) : ∀ a, ∀ c ∈ Memory.cells a bytes,
    a ≤ c.1 ∧ c.1 < a + bytes.length ∧ c.2 ≠ Memory.blank := by
  induction bytes with
  | nil => intro a c h; simp [Memory.cells] at h
  | cons b rest ih =>
    intro a c h
    simp only [Memory.cells] at h
    split at h
    · have := ih (a + 1) c h; exact ⟨by omega, by simp only [List.length_cons]; omega, this.2.2⟩
    · rename_i hb
      rcases List.mem_cons.mp h with rfl | h
      · simp [hb]
      · have := ih (a + 1) c h; exact ⟨by omega, by simp only [List.length_cons]; omega, this.2.2⟩

/-- The cells of a run are in canonical form. -/
theorem Memory.cells_wf (bytes : List Byte) : ∀ a, Memory.wf (Memory.cells a bytes) := by
  intro a
  refine ⟨?_, fun c h => (Memory.cells_bounds bytes a c h).2.2⟩
  induction bytes generalizing a with
  | nil => simp [Memory.cells]
  | cons b rest ih =>
    simp only [Memory.cells]
    split
    · exact ih _
    · refine List.pairwise_cons.mpr ⟨fun c h => ?_, ih _⟩
      have := Memory.cells_bounds rest (a + 1) c h
      simp; omega

/-- The byte a run holds at an address inside it. -/
theorem Memory.read_cells (bytes : List Byte) : ∀ base a, base ≤ a → a < base + bytes.length →
    Memory.read (Memory.cells base bytes) a = bytes.getD (a - base) Memory.blank := by
  induction bytes with
  | nil => intro base a h1 h2; simp at h2; omega
  | cons b rest ih =>
    intro base a h1 h2
    simp only [List.length_cons] at h2
    by_cases e : a = base
    · subst e
      simp only [Memory.cells]
      split
      · rename_i hb
        rw [Memory.read_absent]
        · simp [hb]
        · intro c h; have := Memory.cells_bounds rest (a + 1) c h; omega
      · simp [Memory.read]
    · obtain ⟨k, rfl⟩ : ∃ k, a = base + 1 + k := ⟨a - (base + 1), by omega⟩
      have hk : base + 1 + k - base = k + 1 := by omega
      have := ih (base + 1) (base + 1 + k) (by omega) (by omega)
      simp only [Memory.cells, hk, List.getD_cons_succ]
      have e2 : base + 1 + k - (base + 1) = k := by omega
      rw [e2] at this
      split
      · exact this
      · rw [Memory.read, if_neg (by simp; omega), this]

/-- A read after a store: the stored byte inside the run, the old byte outside it. -/
theorem Memory.read_store (m : List Host.Cell) (base : Nat) (bytes : List Byte) (a : Nat) :
    Memory.read (Memory.store m base bytes) a =
      if base ≤ a ∧ a < base + bytes.length then bytes.getD (a - base) Memory.blank else Memory.read m a := by
  unfold Memory.store
  split
  · rename_i h
    rw [Memory.read_append_left, Memory.read_append_right, Memory.read_cells _ _ _ h.1 h.2]
    · intro c hc; simp at hc; omega
    · intro c hc; simp at hc; omega
  · rename_i h
    by_cases hlt : a < base
    · rw [Memory.read_append_left, Memory.read_append_left, Memory.read_filter]
      · intro c _ e; simp; omega
      · intro c hc; have := Memory.cells_bounds _ _ c hc; omega
      · intro c hc; simp at hc; omega
    · rw [Memory.read_append_right, Memory.read_filter]
      · intro c _ e; simp; omega
      · intro c hc
        rcases List.mem_append.mp hc with hc | hc
        · simp at hc; omega
        · have := Memory.cells_bounds _ _ c hc; omega

/-- A store keeps the canonical form. -/
theorem Memory.store_wf (m : List Host.Cell) (base : Nat) (bytes : List Byte) (h : Memory.wf m) :
    Memory.wf (Memory.store m base bytes) := by
  obtain ⟨hp, hb⟩ := h
  have hc := Memory.cells_wf bytes base
  refine ⟨?_, ?_⟩
  · unfold Memory.store
    rw [List.pairwise_append, List.pairwise_append]
    refine ⟨⟨hp.filter _, hc.1, ?_⟩, hp.filter _, ?_⟩
    · intro x hx y hy
      have := Memory.cells_bounds _ _ y hy
      simp at hx; omega
    · intro x hx y hy
      simp at hy
      rcases List.mem_append.mp hx with hx | hx
      · simp at hx; omega
      · have := Memory.cells_bounds _ _ x hx; omega
  · intro c h
    unfold Memory.store at h
    rcases List.mem_append.mp h with h | h
    · rcases List.mem_append.mp h with h | h
      · exact hb c (List.mem_of_mem_filter h)
      · exact hc.2 c h
    · exact hb c (List.mem_of_mem_filter h)

/-- Placing a page keeps the canonical form. -/
theorem placePage_wf (b : Fin 8) (p : List Byte) (s : State) (h : Memory.wf s.ubp.mem) :
    Memory.wf (placePage b p s).ubp.mem := by
  unfold placePage; split
  · exact Memory.store_wf _ _ _ h
  · exact h

/-- Placing a sector keeps the canonical form. -/
theorem placeSector_wf (b j : Fin 8) (p : List Byte) (s : State) (h : Memory.wf s.ubp.mem) :
    Memory.wf (placeSector b j p s).ubp.mem := by
  unfold placeSector; split
  · exact Memory.store_wf _ _ _ h
  · exact h

/-- Writing a unit back keeps the canonical form. -/
theorem putUnit_wf (b : Fin 8) (u : Fin 4096 → Byte) (s : State) (h : Memory.wf s.ubp.mem) :
    Memory.wf (putUnit b u s).ubp.mem := by
  unfold putUnit; exact placePage_wf b _ s h

/-- The reset memory is in canonical form. -/
theorem reset_memory_wf : Memory.wf State.reset.ubp.mem := ⟨List.Pairwise.nil, by simp [State.reset, State.atRelease]⟩

end Sys2Proof.Machine
end

