-- ==== Sys2Proof/Laws/Spec.lean ====
section
/-! SUPPORT. What the shared operations do, in the words of Safety.lean: a job's lot at a failure, the frame of an issue, the
bytes of a field, the pattern that the arbitration shows, the jobs that may deliver or wait
for data, the work a failure keeps, the sweep's window, the entries of a shift hold, the key-store write in flight and the verdicts
given. -/

namespace Sys2Proof.Machine

open Sys2Proof

/-- The lot of a job at its transaction's failure, by R60's three cases. -/
theorem Job.atFailure_eq (j : Job) :
    j.atFailure = if j.isIssuedRead then some { j with abandoned := true }
      else if j.staysAtFailure then some j else none := by
  cases j with
  | mk buf owner unit first count kind state pageOp sent abandoned =>
    cases state <;> cases pageOp <;> rfl

/-- A job leaves its transaction at a failure unless it is in MEDIA_WRITE or DELIVERING (R60). -/
theorem Job.leavesAtFailure_eq (j : Job) (h : j.abandoned = false) : j.leavesAtFailure = !j.staysAtFailure := by
  cases j with
  | mk buf owner unit first count kind state pageOp sent abandoned =>
    cases h
    cases state <;> cases pageOp <;> rfl

/-- The frame of an issue is the frame of the slot it fills. -/
theorem issueFrame_eq (d : Fin 4) (r : DReq) (s : State) :
    issueFrame d r s = s.frameOf { dtag := d, op := r.op, owner := r.owner } := by
  cases r with
  | mk op owner =>
    cases op with
    | pageWrite p =>
      cases owner with
      | job b =>
        simp only [issueFrame, State.frameOf, DownRecord.pageWrite.injEq, true_and, List.ofFn_eq_map]
        rw [← List.map_coe_finRange_eq_range, List.map_map]
        rfl
      | _ => rfl
    | _ => cases owner <;> rfl

/-- What an issue does to the link: the request leaves the list, the slot is filled, and its frame goes out (R65, R173). -/
theorem issue_dli (d : Fin 4) (r : DReq) (s : State) :
    (issue d r s).dli.requests = s.dli.requests.erase r ∧
    (issue d r s).dli.slots = s.dli.slots ++ [{ dtag := d, op := r.op, owner := r.owner }] ∧
    (issue d r s).dli.sent = s.frameOf { dtag := d, op := r.op, owner := r.owner } :: s.dli.sent ∧
    (issue d r s).ubp.mem = s.ubp.mem := by
  rw [← issueFrame_eq]
  cases r with
  | mk op owner => cases owner <;> exact ⟨rfl, rfl, rfl, rfl⟩

/-- A field of two bytes, the least significant first (R171). -/
theorem leBytes_two (v : Nat) : leBytes 2 v = [BitVec.ofNat 8 v, BitVec.ofNat 8 (v / 256)] := rfl

/-- A field of four bytes, the least significant first (R171). -/
theorem leBytes_four (v : Nat) : leBytes 4 v =
    [BitVec.ofNat 8 v, BitVec.ofNat 8 (v / 256), BitVec.ofNat 8 (v / 65536), BitVec.ofNat 8 (v / 16777216)] := by
  simp only [leBytes, Nat.div_div_eq_div_mul]

/-- The pattern of the source that requests with the highest priority among the continuous ones (R152, R153). -/
theorem State.continuous_pattern (s : State) : s.continuous.2 = s.patternOf s.continuous.1 := by
  unfold State.continuous
  split
  · rfl
  split
  · rfl
  split
  · rfl
  split
  · rename_i h
    rcases h with ⟨h | h, -⟩ <;> simp [State.patternOf, h]
  split
  · rename_i h
    simp [State.patternOf, h.1]
  · cases h : s.ac.standby <;> cases g : s.ac.access <;>
      simp [State.patternOf, basePattern, h, g, Access.reported]

/-- After the arbitration the pattern shown is the shown source's (R151, R153). -/
theorem judge_pattern (s : State) : (judge s).ind.pattern = (judge s).patternOf (judge s).ind.shown := by
  have h := s.continuous_pattern
  have hb : ∀ b : Brief, Pattern.brief = s.patternOf b.source := by intro b; cases b <;> rfl
  show (judge s).ind.pattern = s.patternOf (judge s).ind.shown
  unfold judge
  rcases e : s.continuous with ⟨src, pat⟩
  rw [e] at h
  cases s.ind.slot with
  | none => simpa using h
  | some b =>
    by_cases g : b.source.priority < src.priority
    · simpa [g] using hb b
    · simpa [g] using h

/-- The lowest job of a list is one of it, and no other is on a lower unit. -/
theorem lowestJob_spec : ∀ {l : List Job} {j : Job}, lowestJob l = some j → j ∈ l ∧ ∀ k ∈ l, j.unit ≤ k.unit
  | [], _, h => by cases h
  | i :: rest, j, h => by
    unfold lowestJob at h
    split at h
    next hn =>
      cases h
      cases rest with
      | nil => simp
      | cons k rest =>
        unfold lowestJob at hn
        repeat' split at hn
        all_goals cases hn
    next m hm =>
      have ih := lowestJob_spec hm
      split at h <;> cases h
      · exact ⟨.tail _ ih.1, List.forall_mem_cons.2 ⟨Nat.le_of_lt ‹_›, ih.2⟩⟩
      · exact ⟨.head _, List.forall_mem_cons.2 ⟨Nat.le_refl _, fun k hk => Nat.le_trans (Nat.not_lt.1 ‹_›) (ih.2 k hk)⟩⟩

/-- The job that may deliver waits to, and is on the lowest unit its transaction holds (R54). -/
theorem State.deliverable_spec {s : State} {t : Fin 16} {j : Job} (h : s.deliverable t = some j) :
    j ∈ s.ubp.jobs ∧ j.isOf t = true ∧ j.state = .deliverWait ∧ ∀ k ∈ s.ubp.jobs, k.isOf t = true → j.unit ≤ k.unit := by
  unfold State.deliverable at h
  split at h
  next i hi =>
    obtain ⟨hm, hl⟩ := lowestJob_spec hi
    rw [List.mem_filter] at hm
    split at h <;> cases h
    exact ⟨hm.1, hm.2, ‹_›, fun k hk ho => hl k (List.mem_filter.2 ⟨hk, ho⟩)⟩
  next => cases h

/-- A job has all its data in the states that follow the intake. -/
theorem Job.hasData_iff (j : Job) : j.hasData = true ↔ j.HasAllData := by
  cases j with
  | mk buf owner unit first count kind state pageOp sent abandoned => cases state <;> simp [Job.hasData, Job.HasAllData]

/-- A job may wait for data when it is queued for it and every lower one of its transaction has all its data (R51). -/
theorem mayWait_iff (jobs : List Job) (j : Job) : mayWait jobs j = true ↔
    j.state = .dataQueue ∧ j.abandoned = false ∧ ∀ k ∈ jobs, k.WithOf j → k.unit < j.unit → k.HasAllData := by
  simp only [mayWait, Job.isOf, Job.WithOf, Bool.and_eq_true, beq_iff_eq, Bool.not_eq_true', List.all_eq_true,
    Bool.or_eq_true, Bool.and_eq_false_iff, decide_eq_false_iff_not, Job.hasData_iff, and_assoc]
  refine and_congr_right fun _ => and_congr_right fun ha => forall_congr' fun k => imp_congr_right fun _ => ?_
  by_cases h1 : k.owner = j.owner <;> by_cases h2 : k.unit < j.unit <;> cases hk : k.abandoned <;> simp_all

/-- What a failed transaction waits on is the work it keeps (R23). -/
theorem State.stillWaits_iff (s : State) (tag : Fin 16) : s.stillWaits tag = true ↔ s.KeepsWork tag := by
  simp [State.stillWaits, State.syncIssued, State.KeepsWork, and_assoc, or_assoc]

/-- The owner of a slot after the emptying, as the emptying writes it (R78). -/
theorem ownerOrphaned_eq (o : Owner) : ownerOrphaned o = ownerAfterEmptying o := by cases o <;> rfl

/-- A job outlives the emptying exactly where it is abandoned, in MEDIA_WRITE, or has its page read issued (R63). -/
theorem Job.atEmptying_eq (j : Job) :
    j.atEmptying = if j.abandoned = true ∨ j.state = .mediaWrite ∨ j.isIssuedRead = true
      then some { j with abandoned := true } else none := by
  cases j with
  | mk buf owner unit first count kind state pageOp sent abandoned =>
    cases abandoned <;> cases state <;> cases pageOp <;> rfl

@[simp] theorem State.lessBuffer_dli (s : State) (b : Fin 8) : (s.lessBuffer b).dli = s.dli := rfl
@[simp] theorem State.lessBuffer_uli (s : State) (b : Fin 8) : (s.lessBuffer b).uli = s.uli := rfl
@[simp] theorem State.lessBuffer_jobs (s : State) (b : Fin 8) :
    (s.lessBuffer b).ubp.jobs = s.ubp.jobs.filter (fun k => k.buf != b) := rfl
@[simp] theorem State.lessSlot_ubp (s : State) (d : Byte) : (s.lessSlot d).ubp = s.ubp := rfl
@[simp] theorem State.lessSlot_uli (s : State) (d : Byte) : (s.lessSlot d).uli = s.uli := rfl
@[simp] theorem State.lessSlot_errors (s : State) (d : Byte) : (s.lessSlot d).dli.errors = s.dli.errors := rfl
@[simp] theorem State.lessSlot_slots (s : State) (d : Byte) :
    (s.lessSlot d).dli.slots = s.dli.slots.filter (fun z => z.dtag != Fin.ofNat 4 d.toNat) := rfl
@[simp] theorem State.lessOutput_ubp (s : State) : s.lessOutput.ubp = s.ubp := rfl
@[simp] theorem State.lessOutput_dli (s : State) : s.lessOutput.dli = s.dli := rfl
@[simp] theorem State.lessOutput_output (s : State) : s.lessOutput.uli.output = .free := rfl
@[simp] theorem State.lessError_ubp (s : State) (e : PendingError) : (s.lessError e).ubp = s.ubp := rfl
@[simp] theorem State.lessError_uli (s : State) (e : PendingError) : (s.lessError e).uli = s.uli := rfl
@[simp] theorem State.lessError_slots (s : State) (e : PendingError) : (s.lessError e).dli.slots = s.dli.slots := rfl
@[simp] theorem State.lessError_errors (s : State) (e : PendingError) :
    (s.lessError e).dli.errors = s.dli.errors.erase e := rfl

/-- The key store's queue is untouched as a write of it begins. -/
theorem Ks.begin_queue (k : Ks) : k.begin.queue = k.queue := by
  unfold Ks.begin
  repeat' split
  all_goals rfl

/-- A window made due with nothing outstanding, no hold and the media OK (R141, R143, R147). -/
theorem makeDue_windowDue {s : State} {c u : Nat} (hd : s.swu.discardOut = false) (hw : s.swu.writeOut = false)
    (hh : s.swu.hold = false) (hm : s.dli.media = .ok) (hu : s.dli.usable = some u) (hc : s.swu.cursor = some c) :
    (makeDue s).WindowDue c u := by
  unfold makeDue State.WindowDue
  simp only [hd, hw, hh, hm, hu, hc]
  refine ⟨fun h => ?_, fun h => ?_⟩
  · have hle : c + min 256 (u - c) ≤ u := by omega
    simp [h, hle, requestWindow, makeRequest, State.admissible, windowCount, hm, hu, hc, State.Asked]
  · simp [Nat.not_lt.2 h, requestCursor, ksRequest, Ks.begin_queue, DevUpdate.none]

/-- The entries of a shift hold at a scan: the SHIFT_TAP as a clean hold ends (R103). -/
theorem holdScan_entries (h : Option Bool) (old new : List KeyScan) (down : List Nat) :
    (holdScan h old new down).2 =
      if h = some true ∧ downAt old 9 = true ∧ downAt new 9 = false then [tapEntry] else [] := by
  unfold holdScan shiftPosition
  cases downAt old 9 <;> cases downAt new 9 <;> simp

/-! ## The key store's write in flight (R122) -/

/-- The write in flight once one has begun. -/
theorem Ks.begin_writing (k : Ks) (h : k.writing = none) :
    k.begin.writing = k.queue.head?.map (fun q => q.body.content k) := by
  unfold Ks.begin
  split
  next q more hq hw => simp [hq]
  next hn =>
    cases hq : k.queue with
    | nil => simpa using h
    | cons q more => exact absurd h (hn q more hq)

/-- The beginning of a write leaves the image of the device record. -/
theorem Ks.begin_dev (k : Ks) : k.begin.dev = k.dev := by
  unfold Ks.begin
  split <;> rfl

/-- A write begins with what the oldest request asks for, formed from the image. -/
theorem Ks.begin_writingOk (s : State) (k : Ks) (h : k.writing = none) : (s.setKs k.begin).WritingOk := by
  have hw := Ks.begin_writing k h
  have hq := Ks.begin_queue k
  have hd := Ks.begin_dev k
  refine ⟨fun e => ?_, fun q more i f e hb => ?_, fun q more u e hb => ?_⟩
  · simp only [State.setKs_fields, hq] at e ⊢
    simp [hw, e]
  · simp only [State.setKs_fields, hq] at e ⊢
    simp [hw, e, hb, KsBody.content, CredRecord.seal]
  · simp only [State.setKs_fields, hq, hd] at e ⊢
    exact ⟨DevRecord.seal (u.apply k.dev.fields), by simp [hw, e, hb, KsBody.content],
      rfl, rfl, rfl, rfl, rfl, rfl, rfl, rfl, rfl, rfl, rfl⟩

/-- The end of a write begins the next request's, formed from the image that the ended one left. -/
theorem Ks.endWrite_writingOk (s : State) (c : KsContent) : (s.setKs (s.ks.endWrite c)).WritingOk :=
  Ks.begin_writingOk s _ rfl

/-- A request leaves the write in flight the oldest request's. -/
theorem ksRequest_writingOk (r : KsReq) {s : State} (h : s.WritingOk) : (ksRequest r s).WritingOk := by
  cases e : s.ks.queue with
  | nil => exact Ks.begin_writingOk s _ (h.idle e)
  | cons q more =>
    have hw : s.ks.writing ≠ none := by
      cases hb : q.body with
      | cred i f => simp [h.cred q more i f e hb]
      | dev u =>
        obtain ⟨r, hr, -⟩ := h.dev q more u e hb
        simp [hr]
    have hk : ksRequest r s = s.setKs { s.ks with queue := s.ks.queue ++ [r] } := by
      unfold ksRequest Ks.begin
      split
      next h2 => exact absurd h2 hw
      next => rfl
    rw [hk]
    refine ⟨fun h2 => ?_, fun q' more' i f h2 hb => ?_, fun q' more' u h2 hb => ?_⟩ <;>
      simp only [State.setKs_fields, e, List.cons_append, List.cons.injEq, reduceCtorEq] at h2 ⊢
    · exact h.cred q more i f e (h2.1 ▸ hb)
    · exact h.dev q more u e (h2.1 ▸ hb)

/-! ## Verdicts (R99, R156) -/

/-- What a verdict given does to the slot, the pending and the held verdict. -/
theorem showVerdict_gives (v : Verdict) (s : State) : s.Gives (showVerdict v s) v := by
  unfold showVerdict
  split
  next h =>
    exact ⟨fun g => by simp [g] at h, fun g => by simp [g] at h, fun _ => ⟨rfl, rfl, rfl, rfl⟩, rfl⟩
  next h =>
    unfold verdictRequest
    split
    next w hw =>
      exact ⟨fun _ hn => absurd hw (hn w), fun _ _ _ => ⟨rfl, rfl, rfl, rfl⟩, fun g => absurd g h, rfl⟩
    next hn =>
      exact ⟨fun _ _ => ⟨rfl, rfl, rfl, rfl⟩, fun _ w hw => absurd hw (hn w), fun g => absurd g h, rfl⟩

end Sys2Proof.Machine
end

