-- ==== Sys2Proof/Tests/Slice0.lean ====
section
/-! SUPPORT. Tests: the well-formedness checks, worked cases of the spec, single commands on small states, and a state
that meets the hypotheses of each statement. -/

namespace Sys2Proof.Tests

-- One theorem at a time: each thread of its own counts against the compile's memory limit.
set_option Elab.async false

open Sys2Proof Sys2Proof.Machine

/-! ## Helpers -/

/-- The state after a command. -/
def after (c : Instr) (s : State) : State :=
  match exec c s with
  | .next t => t
  | .fault _ => s
  | .refused _ => s

/-- A part that runs, locked, with the power-on values. -/
def idle : State :=
  { State.reset with power := .running, ac := { State.reset.ac with access := .lockedIdle } }

/-- `idle` in another sub-state, with its presentation. -/
def inState (a : Access) (s : State := idle) : State :=
  { s with
    ac := { s.ac with access := a, presentation := a.presentation },
    atr := { volume := a.presentation, highest := some 319 },
    ecp := { s.ecp with adminTable := a == .adminSession } }

/-- The media identified, 40 pages in use. -/
def withMedia (s : State) : State := { s with dli := { s.dli with media := .ok, usable := some 40 } }

/-- An unlocked part on session slot 1. -/
def open1 : State :=
  let s := withMedia (inState .presented)
  { s with ac := { s.ac with sessionSlot := some 1, idle := some 0 }, ce := { key := some 5 } }

/-- An ACTIVE user-volume record of 8 sectors from LBA 0. -/
def record (t : Fin 16) (k : TxKind) (v : TxVolume := .user) : Txn :=
  { tag := t, kind := k, volume := v, lba := some 0, requested := some 8, transfer := some 8, nextUnit := some 1,
    jobsHeld := 1, done := 0, failure := none, phase := .active, flushMark := none, outcome := none }

/-- A FLUSH record with an empty mark. -/
def flushRecord : Txn :=
  { record 4 .flush with
    lba := none, requested := none, transfer := none, nextUnit := none, jobsHeld := 0, flushMark := some [] }

/-- A job on unit 0 in buffer 0 for tag 3. -/
def jobIn (st : JobState) (k : JobKind) (op : PageOp) : Job :=
  { buf := 0, owner := 3, unit := 0, first := 0, count := 8, kind := k, state := st, pageOp := op, sent := 0,
    abandoned := false }

/-- A job of `o` on unit `u` in buffer `b`. -/
def jobAt (b : Fin 8) (o : Fin 16) (u : Nat) (st : JobState) : Job :=
  { jobIn st .read .requested with buf := b, owner := o, unit := u }

/-- `open1` with one transaction on tag 3 and its job. -/
def working (x : Txn) (j : Job) : State := { open1 with txns := [x], ubp := { jobs := [j], mem := [] } }

/-- The upstream output held. -/
def holding (o : Output) (s : State) : State := { s with uli := { s.uli with output := o } }

/-- An operation in slot 0. -/
def slotted (op : DOp) (o : Owner) (s : State) : State :=
  { s with dli := { s.dli with slots := [{ dtag := 0, op := op, owner := o }] } }

/-- An unflagged entry. -/
def press (k : EntryKey) (sh : Bool := false) : KeyEntry := { key := k, shifted := sh, chord := false, overrun := false }

/-- An entry at the head of the FIFO. -/
def keyed (e : KeyEntry) (s : State) : State := { s with kps := { s.kps with fifo := [e] } }

/-- Digits on the stack. -/
def stacked (d : List Digit) (s : State) : State := { s with ecp := { s.ecp with stack := d } }

/-- A key-store write in flight. -/
def writing (r : KsReq) (w : KsContent) (s : State) : State :=
  { s with ks := { s.ks with queue := [r], writing := some w } }

/-- A sweep that waits on the DISCARD of pages 0 to 15, which stands in slot 0. -/
def sweeping : State :=
  let s := slotted (.discard 0 16) .sweep (withMedia idle)
  { s with swu := { s.swu with state := .waiting, cursor := some 0, discardOut := true } }

/-- A verify of one PIN, in flight. -/
def verifying (k : VerifyKind) (a : Access) : State :=
  let s := withMedia (inState a)
  { s with cu := { s.cu with work := .verify, kind := some k, digits := some [1, 2, 3, 4, 5, 6, 8] } }

/-- The device record image with this failure count. -/
def failed (f : Nat) (s : State) : State :=
  { s with ks := { s.ks with dev := { s.ks.dev with fields := { s.ks.dev.fields with failures := f } } } }

/-! ## Well-formed commands (R171, R173) -/

theorem test_wf_writeData : (Instr.writeData 3 (List.replicate 512 0)).wf = true := by decide +kernel
theorem test_wf_refuses_short_sector : (Instr.writeData 3 (List.replicate 511 0)).wf = false := by decide +kernel
theorem test_wf_unknownKind : (Instr.unknownKindRequest 7 3 0 1).wf = true := by decide
theorem test_wf_refuses_known_kind : (Instr.unknownKindRequest 6 3 0 1).wf = false := by decide
theorem test_wf_dropped : (Instr.upstreamFrameDropped [16, 0]).wf = true := by decide
theorem test_wf_refuses_known_upstream_frame : (Instr.upstreamFrameDropped [16]).wf = false := by decide
theorem test_wf_refuses_known_downstream_frame : (Instr.downstreamFrameDropped [131]).wf = false := by decide

/-! ## Frames written out from the layouts of 11.1 and 11.3 -/

/-- READ, tag 9, L = 1,000,005 = 0x000F4245, n = 20. -/
theorem test_read_frame : decodeUpstream [1, 1, 9, 0x45, 0x42, 0x0F, 0x00, 20, 0] = .readRequest 9 1000005 20 := by
  decide
/-- A request frame cut short is dropped. -/
theorem test_short_frame : decodeUpstream [1, 1, 9, 0x45, 0x42, 0x0F, 0x00, 20] =
    .upstreamFrameDropped [1, 1, 9, 0x45, 0x42, 0x0F, 0x00, 20] := by decide
/-- IDENT of 131,072 pages. -/
theorem test_ident_frame : decodeDownstream [130, 0, 0, 2, 0] = .ident 131072 [] := by decide
/-- A COMPLETION of a SYNC on dtag 2, OK. -/
theorem test_completion_frame : decodeDownstream [129, 2, 4, 0] = .syncCompletion 2 0 [] := by decide
/-- A COMPLETION with a dtag above 3 is dropped. -/
theorem test_completion_dtag : decodeDownstream [129, 4, 4, 0] = .downstreamFrameDropped [129, 4, 4, 0] := by decide
/-- The COMPLETE of a GOOD write of tag 9: 7 bytes. -/
theorem test_complete_frame :
    (Complete.frame { tag := 9, outcome := .short, detail := 0, residue := 250, payload := .none }) =
      [131, 9, 1, 0, 250, 0, 0] := by decide

/-! ## Worked cases of chapters 1 and 7 -/

/-- Cases a to g of section 1.4. -/
theorem test_clamp :
    [rangeClamp 1000005 20 (some 1048575), rangeClamp 4294967290 256 (some 4294967295),
      rangeClamp 4294967295 256 (some 4294967295), rangeClamp 2040 16 (some 2047), rangeClamp 2048 1 (some 2047),
      rangeClamp 4294967295 256 (some 2047), rangeClamp 262136 8 (some 262143)] = [20, 6, 1, 8, 0, 0, 8] := by
  decide +kernel
/-- The ordinary unaligned write of section 1.5. -/
theorem test_split :
    [125000, 125001, 125002, 125003].map (fun u =>
      (splitFirst 1000005 u, splitCount 1000005 20 u, splitKind .write 1000005 20 u)) =
    [(5, 3, .writeMerge), (0, 8, .writeFull), (0, 8, .writeFull), (0, 1, .writeMerge)] := by decide +kernel
/-- The table of section 1.8 for U = 32,768. -/
theorem test_percent :
    [0, 4096, 5000, 5120, 12288, 32512, 32767, 32768].map (fun c =>
      reportedPercent { State.reset.swu with state := .waiting, cursor := some c } (some 32768)) =
    [0, 12, 15, 16, 38, 99, 99, 99] := by decide +kernel
/-- The table of R4. -/
theorem test_usable : [32767, 32768, 536870912, 536870913].map usablePages =
    [none, some 32768, some 536870912, some 536870912] := by decide +kernel
/-- The table of R130. -/
theorem test_throttle : [0, 2, 3, 4, 8, 9, 19].map throttleTicks = [0, 0, 50, 100, 1600, 3000, 3000] := by decide +kernel
/-- The checks of R112 on its own examples. -/
theorem test_first_entry :
    [[5, 5, 5, 5, 5, 5, 5], [3, 4, 5, 6, 7, 8, 9], [6, 5, 4, 3, 2, 1, 0], [8, 9, 0, 1, 2, 3, 4],
      [1, 2, 3, 4, 5, 6, 8]].map (fun d => firstEntryFault d false) =
    [some .refused, some .refused, some .refused, none, none] := by decide +kernel

/-! ## Single commands -/

/-- Case d of section 1.4: 8 of 16 sectors on the overlay. -/
theorem test_read_overlay : ((after (.readRequest 2 2040 16) idle).txn? 2).bind Txn.transfer = some 8 := by
  decide +kernel
/-- Case e: RANGE at once. -/
theorem test_read_range : ((after (.readRequest 2 2048 1) idle).txn? 2).bind Txn.outcome = some .range := by
  decide +kernel
/-- A WRITE on the overlay is PROTECTED (R20). -/
theorem test_write_overlay : ((after (.writeRequest 2 0 1) idle).txn? 2).bind Txn.outcome = some .writeProtected := by
  decide +kernel
/-- A FLUSH with nothing outstanding sends its SYNC at once (R76). -/
theorem test_flush : (after (.flushRequest 4 0 0) open1).dli.slots = [{ dtag := 0, op := .sync, owner := .flush 4 }] := by
  decide +kernel
/-- READ count 257 is refused with residue 0, count 256 on a busy tag with residue 256 (R18). -/
theorem test_refusals :
    (after (.readRequest 3 0 257) open1).uli.refusals =
      [{ tag := 3, outcome := .requestFault, detail := 1, residue := 0, payload := .none }] ∧
    (after (.readRequest 3 0 256) (working (record 3 .read) (jobIn .mediaRead .read .absent))).uli.refusals =
      [{ tag := 3, outcome := .tagBusy, detail := 1, residue := 256, payload := .none }] := by decide +kernel
/-- An ABORT of a READ in DELIVER_WAIT completes it ABORTED at once and frees its buffer (R60). -/
theorem test_abort :
    ((after (.abort 3 0 0) (working (record 3 .read) (jobIn .deliverWait .read .absent))).txn? 3).map Txn.phase =
      some .done ∧
    (after (.abort 3 0 0) (working (record 3 .read) (jobIn .deliverWait .read .absent))).ubp.jobs = [] := by
  decide +kernel
/-- KEY on an empty stack in PRESENTED locks the drive (R92). -/
theorem test_key_locks : (after .keyTaken (keyed (press .key) open1)).ac.access = .lockedIdle := by decide +kernel
/-- The settle timer's expiry presents the user volume (R91). -/
theorem test_settle_expiry :
    (after .settleTimerExpiry (withMedia
      { inState .settling with ac := { (inState .settling).ac with settle := some 0 } })).atr =
      { volume := .user, highest := some 319 } := by decide +kernel
/-- The third failure brings LOCKOUT for 50 ticks (R87, R130). -/
theorem test_third_failure :
    (after .ksWriteComplete (writing
      { bySweep := false, body := .dev { DevUpdate.none with failures := some 3 } }
      (.dev { fields := { DevFields.defaults with failures := 3 }, check := 0 })
      { inState .lockedVerifying with cu := { idle.cu with work := .writes, task := .failure 3 } })).ac.lockout =
      some 50 := by decide +kernel
/-- A window ERROR a second time is skipped (R144). -/
theorem test_skip :
    (after (.discardCompletion 0 1 []) { sweeping with swu := { sweeping.swu with retry := true } }).swu.cursor =
      some 16 := by decide +kernel
/-- Three scans recognise a press (R101). -/
theorem test_scan : (after (.scan 1) (after (.scan 1) (after (.scan 1) idle))).kps.group =
    some { lead := 0, shifted := false, chorded := false } := by decide +kernel
/-- The seventh entry overwrites the sixth (R105). -/
theorem test_overrun :
    ((after .keyEntryProduced { idle with kps := { idle.kps with
      due := [press (.digit 7)],
      fifo := List.replicate 6 (press (.digit 1)) } }).kps.fifo.map KeyEntry.overrun) =
      [false, false, false, false, false, true] := by decide +kernel
/-- The sixteenth digit is lost (R107). -/
theorem test_overlong :
    (after .digitTaken (keyed (press (.digit 4)) (stacked (List.replicate 15 1) (inState .lockedEntry)))).ecp.overlong =
      true := by decide +kernel

/-! ## A state that meets the hypotheses of each statement, at the boundaries of its clauses -/

/-- `idle` with one command in its queue. -/
def queued (c : Instr) : State := { idle with pending := [c] }

theorem meets_StepRunsFrontCommand : idle.pending = [] := rfl
theorem meets_NothingIsTakenBeforeRunning :
    { idle with power := .off }.power = .off ∧ Instr.tick ≠ .powerOn ∧ State.reset.power = .reading := by decide
theorem meets_StepKeepsBuffersCanonical :
    ∃ t, (queued .tick).MemoryOk ∧ step (queued .tick) = .next t := ⟨_, by decide, rfl⟩
theorem meets_StepKeepsPresentation :
    ∃ t, (queued .tick).PresentationOk ∧ step (queued .tick) = .next t := ⟨_, by decide, rfl⟩
theorem meets_StepKeepsKeyRules :
    ∃ t, step (queued .tick) = .next t ∧ (queued .tick).KeyOk ∧ (queued .tick).SessionKeyOk ∧
      open1.KeyOk ∧ open1.ce.key.isSome = true := ⟨_, rfl, by decide, by decide, by decide, rfl⟩
theorem meets_StepKeepsShownSource : ∃ t, (queued .tick).ShownOk ∧ step (queued .tick) = .next t := by
  refine ⟨_, ⟨trivial, ?_⟩, rfl⟩
  intro x h
  cases x with
  | verdict => obtain ⟨v, hv⟩ := h; cases hv
  | fault => exact absurd h.2 (by decide)
  | sweep => exact absurd rfl h
  | lockout => exact absurd h.2 (by decide)
  | entry => exact absurd h.2 (by decide)
  | activity => cases h
  | base => exact Nat.le_refl _
theorem meets_PatternOfStepKeepsShownSource :
    let s := { queued .tick with ind := { idle.ind with pattern := .baseRed } }
    ∃ t, s.PatternOk ∧ step s = .next t := by
  refine ⟨_, ⟨⟨fun h => (by cases h), ?_⟩, rfl, .inl rfl⟩, rfl⟩
  rintro ⟨b, x, h, -⟩
  cases h
theorem meets_CommandsChangeOnlyTheirBlocks :
    ∃ t, exec .keyTaken idle = .next t ∧ Block.medium ∉ blocksOf .keyTaken := ⟨_, rfl, by decide⟩
theorem meets_StepKeepsQueueBounds :
    ∃ t, step (queued .tick) = .next t ∧ (queued .tick).FifoOk ∧ (queued .tick).RefusalsOk ∧ (queued .tick).StackOk :=
  ⟨_, rfl, by decide, by decide, by decide⟩
/-- An unlocked part with a READ in DELIVER_WAIT. -/
def reading : State := working (record 3 .read) (jobIn .deliverWait .read .absent)

theorem meets_StepKeepsTables :
    let s := { reading with pending := [.tick] }
    let u := holding (.complete 4)
      { s with pending := [.completeSent], txns := [record 3 .read, flushRecord] }
    ∃ t, step s = .next t ∧ s.TagsOk ∧ s.BuffersOk ∧ s.SlotsOk ∧ s.UnitsOk ∧ s.HeldOk ∧ s.jobsOf 3 = 1 ∧
      s.pending.head? ≠ some .completeSent ∧ u.pending.head? = some .completeSent ∧ u.uli.output = .complete 4 ∧
      u.jobsOf 4 = 0 ∧ u.TagsOk ∧ u.BuffersOk ∧ u.HeldOk := by
  refine ⟨_, rfl, ?_⟩
  decide +kernel
/-- `idle` in standby with a verdict held. -/
def asleep : State := { idle with ac := { idle.ac with standby := true, held := some .accept } }

/-- A page write REQUESTED, a SYNC issued and a COMPLETE being sent, each in keeping with its owner (R28, R52, R66, R76). -/
def asking : State :=
  let s := slotted .sync (.flush 4) (working (record 3 .write) (jobIn .mediaWrite .writeFull .requested))
  holding (.complete 5) { s with
    pending := [.tick],
    txns := [record 3 .write, flushRecord, { record 5 .read with jobsHeld := 0, phase := .done, outcome := some .good }],
    dli := { s.dli with requests := [{ op := .pageWrite 0, owner := .job 0 }] } }

theorem asking_requestsOk : asking.RequestsOk := by
  refine ⟨by decide +kernel, by decide +kernel, ?_, ?_, ?_, ?_, ?_, by decide +kernel, ?_⟩
  · rintro r hr b hb
    obtain rfl : r = { op := .pageWrite 0, owner := .job 0 } := by simpa [asking, holding] using hr
    cases hb
    exact ⟨_, rfl, rfl, .inr ⟨rfl, rfl⟩⟩
  · rintro z hz b hb
    obtain rfl : z = { dtag := 0, op := .sync, owner := .flush 4 } := by simpa [asking, holding, slotted] using hz
    cases hb
  · intro e he
    cases he
  · intro f hf
    obtain rfl : f = 4 := by revert hf; revert f; decide +kernel
    exact ⟨flushRecord, rfl, rfl, by decide, fun _ => rfl, by decide⟩
  · intro h
    exact absurd h (by decide +kernel)
  · intro f h
    cases h
    exact ⟨_, rfl, rfl⟩
theorem meets_RequestsOfStepKeepsTables :
    ∃ t, step asking = .next t ∧ asking.TagsOk ∧ asking.BuffersOk ∧ asking.HeldOk ∧ asking.UnitsOk ∧
      asking.RequestsOk :=
  ⟨_, rfl, by decide +kernel, by decide +kernel, by decide +kernel, by decide +kernel, asking_requestsOk⟩
/-- A WRITE of three units: the first has its data, the second waits for it, the third is queued (R51). -/
def queueing (st : JobState) : State :=
  let j (b : Fin 8) (q : JobState) := { jobIn q .writeFull .absent with buf := b, unit := b.val }
  let x := { record 3 .write with nextUnit := some 3, jobsHeld := 3, requested := some 24, transfer := some 24 }
  { working x (jobIn st .writeFull .absent) with
    pending := [.tick], ubp := { jobs := [j 0 st, j 1 .dataWait, j 2 .dataQueue], mem := [] } }

theorem meets_WaitsOfStepKeepsTables :
    let s := queueing .encryptWait
    ∃ t, step s = .next t ∧ s.TagsOk ∧ s.BuffersOk ∧ s.UnitsOk ∧ s.HeldOk ∧ s.RequestsOk ∧ s.WaitsOk := by
  refine ⟨_, rfl, by decide +kernel, by decide +kernel, by decide +kernel, by decide +kernel, ?_, ?_, ?_, ?_⟩
  · refine ⟨by decide +kernel, by decide +kernel, ?_, ?_, ?_, ?_, by decide +kernel, by decide +kernel, ?_⟩ <;>
      intro r hr <;> cases hr
  · unfold Job.WithOf Job.HasAllData
    decide +kernel
  · unfold Job.WithOf
    decide +kernel
  · simp [queueing, working, record, jobIn]
theorem meets_StepKeepsActiveAndTable :
    ∃ t, step (queued .tick) = .next t ∧ (queued .tick).TagsOk ∧ (queued .tick).ActiveOk ∧ (queued .tick).TableOk :=
  ⟨_, rfl, by decide, by decide, by decide⟩

theorem meets_TransactionsKeepTheirTerms :
    ∃ t, Instr.tick.wf = true ∧ reading.TagsOk ∧ emptiesOrDrains .tick = false ∧ exec .tick reading = .next t ∧
      record 3 .read ∈ reading.txns ∧ movesRecords .tick = false := ⟨_, rfl, by decide, rfl, rfl, by decide, rfl⟩
theorem meets_LockEventWithdrawsUserVolume :
    let s := keyed (press .key) reading
    s.power = .running ∧ s.PresentationOk ∧ s.TableOk ∧ s.TagsOk ∧ s.ActiveOk ∧
      exec .keyTaken s = .next (after .keyTaken s) ∧ s.ac.access.unlocked = true ∧ (after .keyTaken s).ac.access.unlocked = false := by
  refine ⟨rfl, ?_, ?_, ?_, ?_, rfl, rfl, ?_⟩ <;> decide +kernel
theorem meets_ShiftedKeyOfLockEventWithdrawsUserVolume :
    let s := keyed (press .key true) reading
    s.TableOk ∧ exec .shiftedKeyTaken s = .next (after .shiftedKeyTaken s) ∧ s.ac.access.unlocked = true ∧
      (after .shiftedKeyTaken s).ac.access = .change := by
  refine ⟨?_, rfl, rfl, ?_⟩ <;> decide +kernel
theorem meets_LockEventIsRaised :
    let s := keyed (press .key) reading
    s.power = .running ∧ s.TagsOk ∧ s.ActiveOk ∧ s.BuffersOk ∧ s.TakesEntry (press .key) [] ∧
      (press .key).Is .key false ∧ s.ecp.adminTable = false ∧ s.ac.access = .presented ∧ s.ecp.stack = [] ∧ s.ac.standby = false ∧
      s.ac.idle = some 0 ∧ s.ac.access.unlocked = true ∧ s.PresentationOk ∧ s.dli.media ≠ .absent ∧
      s.dli.media = .ok ∧ (32767 : BitVec 32).toNat < 32768 ∧
      s.dli.usable ≠ some (min (32768 : BitVec 32).toNat 536870912) ∧
      ∃ x ∈ s.txns, x.volume = .user ∧ x.phase = .active := by
  refine ⟨rfl, ?_, ?_, ?_, ?_, ?_, rfl, rfl, rfl, rfl, rfl, rfl, ?_, ?_, rfl, ?_, ?_, record 3 .read, ?_⟩ <;> decide
/-- Where the failure takes the phase: a WRITE with a job in MEDIA_WRITE drains, a READ in DELIVER_WAIT is DONE at once; so
at a lock, at an ABORT and at a data-wait expiry (R23). -/
theorem test_drains :
    let w := working (record 3 .write) (jobIn .mediaWrite .writeFull (.issued 0))
    let i (s : State) := { s with uli := { s.uli with intakes := [{ tag := 3, owed := 1, next := 0, timer := some 0 }] } }
    [w, reading].map (fun s => [after .keyTaken (keyed (press .key) s), after (.abort 3 0 0) s,
        after (.dataWaitExpiry 3) (i s)].map (fun t => (t.txn? 3).map Txn.phase)) =
      [[some .draining, some .draining, some .draining], [some .done, some .done, some .done]] := by decide +kernel
/-- An IDENT with another U locks an unlocked part with cause MEDIA_LOST; the same U does not (R72, R93). -/
theorem test_ident_locks :
    let s := { reading with dli := { reading.dli with usable := some 40000 } }
    (after (.ident 32768 []) s).ac.access = .lockedIdle ∧ (after (.ident 40000 []) s).ac.access = .presented ∧
      ((after (.ident 32768 []) s).txn? 3).map Txn.failure = some (some (.volumeChanged .mediaLost)) := by decide +kernel
theorem meets_KeyStoreChangesOnlyAtItsEvents : ∃ t, exec .tick idle = .next t := ⟨_, rfl⟩
theorem meets_InvariantsOfKeyStoreChangesOnlyAtItsEvents :
    let r : KsReq := { bySweep := false, body := .dev { DevUpdate.none with failures := some 3 } }
    State.reset.ReadingOk ∧ State.reset.power = .reading ∧ State.reset.WritingOk ∧ idle.ReadingOk ∧
      (ksRequest r idle).WritingOk ∧ (ksRequest r idle).ks.queue = [r] := by
  have h : ∀ s : State, s.ks.queue = [] → s.ks.writing = none → s.WritingOk :=
    fun s hq hw => ⟨fun _ => hw, fun q more i f e => by simp [hq] at e, fun q more u e => by simp [hq] at e⟩
  exact ⟨fun _ => ⟨rfl, rfl, rfl, rfl, rfl, rfl, rfl⟩, rfl, h _ rfl rfl, fun e => absurd e (by decide),
    ksRequest_writingOk _ (h _ rfl rfl), rfl⟩
/-- A write of the device record is formed at its beginning, from the image that the write before it left (R122). -/
theorem test_next_write :
    let q : KsReq := { bySweep := false, body := .dev { DevUpdate.none with failures := some 3 } }
    let r : KsReq := { bySweep := true, body := .dev { DevUpdate.none with cursor := some (some 16) } }
    let s := ksRequest r (ksRequest q idle)
    s.ks.writing = some (.dev (DevRecord.seal { DevFields.defaults with failures := 3 })) ∧
      (after .ksWriteComplete s).ks.writing =
        some (.dev (DevRecord.seal { DevFields.defaults with failures := 3, cursor := some 16 })) := ⟨rfl, rfl⟩
theorem meets_BuffersChangeOnlyAtTransfers : ∃ t, writesBuffers .tick = false ∧ exec .tick idle = .next t := ⟨_, rfl, rfl⟩
theorem meets_PowerOnValues : { idle with power := .off }.power = .off := rfl

/-- A write of slot 2 in flight. -/
def writingCred : State :=
  writing { bySweep := false, body := .cred 2 (CredFields.bare .empty) }
    (.cred 2 { fields := CredFields.bare .empty, check := 0 }) idle

/-- A write of the device record in flight, awaited by a failure report of count `f`. -/
def writingDev (f : Nat) : State :=
  writing { bySweep := false, body := .dev { DevUpdate.none with failures := some f } }
    (.dev { fields := { DevFields.defaults with failures := f }, check := 0 })
    { inState .lockedVerifying with cu := { idle.cu with work := .writes, task := .failure f } }

theorem meets_PowerLossLeavesKeyStore :
    writingCred.power ≠ .off ∧ writingCred.ks.nvm.creds.length = 8 ∧
      writingCred.ks.writing = some (.cred 2 { fields := CredFields.bare .empty, check := 0 }) ∧
      (writingDev 3).power ≠ .off ∧ (writingDev 3).ks.nvm.creds.length = 8 ∧ idle.ks.writing = none ∧
      (writingDev 3).ks.writing = some (.dev { fields := { DevFields.defaults with failures := 3 }, check := 0 }) := by
  refine ⟨by decide, rfl, rfl, by decide, rfl, rfl, rfl⟩
theorem meets_InitialAccess :
    ∃ d z, State.reset.power = .reading ∧ State.reset.ks.nvm.creds.length = 8 ∧
      d = (if State.reset.ks.nvm.dev.passes then State.reset.ks.nvm.dev.fields else DevFields.rebuiltValues) ∧
      z = (if (State.reset.ks.nvm.creds.getD 0 default).passes
        then (State.reset.ks.nvm.creds.getD 0 default).fields.status else .damaged) := ⟨_, _, rfl, rfl, rfl, rfl⟩
/-- A key store with erase pending. -/
def eraseOwed : State :=
  { State.reset with ks := { State.reset.ks with nvm := { Nvm.factory with
    dev := DevRecord.seal { DevFields.defaults with erasePending := true } } } }

theorem meets_EraseOfInitialAccess :
    eraseOwed.power = .reading ∧ eraseOwed.ks.nvm.creds.length = 8 ∧ eraseOwed.ks.nvm.dev.passes = true ∧
      eraseOwed.ks.nvm.dev.fields.erasePending = true :=
  ⟨rfl, rfl, by simp [eraseOwed, DevRecord.passes, DevRecord.seal], rfl⟩
/-- A key store that owes a sweep from page 16 on, read after the first IDENT. -/
def sweepOwed : State :=
  withMedia { State.reset with ks := { State.reset.ks with nvm := { Nvm.factory with
    dev := DevRecord.seal { DevFields.defaults with cursor := some 16 } } } }

theorem meets_SweepOfInitialAccess :
    sweepOwed.power = .reading ∧ sweepOwed.ks.nvm.creds.length = 8 ∧ sweepOwed.ks.nvm.dev.passes = true ∧
      sweepOwed.ks.nvm.dev.fields.erasePending = false ∧ sweepOwed.ks.nvm.dev.fields.cursor = some 16 ∧
      sweepOwed.swu.hold = false ∧ sweepOwed.swu.discardOut = false ∧ sweepOwed.swu.writeOut = false ∧
      sweepOwed.dli.media = .ok ∧ sweepOwed.dli.usable = some 40 :=
  ⟨rfl, rfl, by simp [sweepOwed, withMedia, DevRecord.passes, DevRecord.seal], rfl, rfl, rfl, rfl, rfl, rfl, rfl⟩
/-- A key store whose slot 2 fails its check. -/
def damaged : State :=
  { State.reset with ks := { State.reset.ks with nvm := { Nvm.factory with
    creds := Nvm.factory.creds.set 2 (CredRecord.torn 0) } } }

theorem meets_ImagesOfInitialAccess :
    damaged.power = .reading ∧ damaged.ks.nvm.creds.length = 8 ∧
      damaged.ks.nvm.creds[2]? = some (CredRecord.torn 0) ∧
      (CredRecord.torn 0).check ≠ Config.credCheck (CredRecord.torn 0).fields ∧
      damaged.ks.nvm.creds[3]? = some (CredRecord.seal (CredFields.bare .empty)) :=
  ⟨rfl, rfl, rfl, by simp [CredRecord.torn], rfl⟩
/-- Its image is DAMAGED (R121). -/
theorem test_damaged : (CredRecord.torn 0).image.fields = CredFields.bare .damaged := by
  simp [CredRecord.image, CredRecord.passes, CredRecord.torn]
/-- The resumed staging begins with the EMPTY write of slot 7 (R139). -/
theorem test_resumed_staging :
    let t := startAccess { eraseOwed with ks := { eraseOwed.ks with dev := eraseOwed.ks.nvm.dev } }
    t.ac.access = .erasing ∧ t.ks.queue.map KsReq.body = [.cred 7 (CredFields.bare .empty)] := ⟨rfl, rfl⟩
theorem meets_TickCountsTimers : idle.power ≠ .off := by decide
theorem meets_ReadAdmission :
    idle.TakesRequests ∧ (2 : Byte).toNat ≤ 15 ∧ 1 ≤ (16 : BitVec 16).toNat ∧ (256 : BitVec 16).toNat ≤ 256 ∧
      idle.txn? (tagOf 2) = none ∧ idle.TagsOk ∧ idle.atr.volume ≠ .nothing ∧ (withMedia idle).atr.highest = some 2047 ∧
      open1.TakesRequests ∧ open1.TagsOk ∧ open1.txn? (tagOf 2) = none ∧ open1.atr.volume = .user ∧
      2047 < (2048 : BitVec 32).toNat ∧ (2047 : BitVec 32).toNat ≤ 2047 ∧ (inState .settling).atr.volume = .nothing ∧
      (inState .settling).TakesRequests := by decide +kernel
theorem meets_WriteAdmission :
    open1.TakesRequests ∧ open1.TagsOk ∧ open1.txn? (tagOf 2) = none ∧ open1.atr.volume = .user ∧
      open1.ks.dev.fields.readOnly = false ∧ open1.atr.highest = some 319 ∧ idle.atr.volume = .overlay ∧
      (inState .settling).atr.volume = .nothing ∧ 319 < (320 : BitVec 32).toNat ∧ (319 : BitVec 32).toNat ≤ 319 := by
  decide +kernel
/-- The split of section 1.5, 125,000 units lower: the ends read their pages, the middles queue for data (R9, R10, R47). -/
theorem test_started_jobs :
    let t := after (.writeRequest 2 5 20) open1
    t.ubp.jobs.map (fun j => (j.unit, j.first, j.count, j.kind, j.state)) =
      [(0, 5, 3, .writeMerge, .mediaRead), (1, 0, 8, .writeFull, .dataQueue), (2, 0, 8, .writeFull, .dataQueue),
        (3, 0, 1, .writeMerge, .mediaRead)] ∧
    t.dli.slots.map Slot.op = [.pageRead 0, .pageRead 3] ∧
    (t.txn? 2).map (fun x => (x.nextUnit, x.jobsHeld)) = some (some 4, 4) := by decide +kernel
theorem meets_FlushAdmission :
    open1.TakesRequests ∧ open1.txn? (tagOf 15) = none ∧ (15 : Byte).toNat ≤ 15 ∧ open1.atr.volume = .user ∧
      (∀ j ∈ open1.ubp.jobs, j.state ≠ .mediaWrite) ∧ open1.dli.media = .ok ∧ idle.TakesRequests ∧
      idle.atr.volume = .overlay ∧ (inState .settling).atr.volume = .nothing := by decide +kernel
theorem meets_SizeAndStateAdmission : idle.TakesRequests ∧ (0 : Byte).toNat ≤ 15 ∧ idle.txn? (tagOf 0) = none := by
  decide +kernel
theorem meets_AbortFailsActive :
    reading.TakesRequests ∧ (3 : Byte).toNat ≤ 15 ∧ reading.txn? (tagOf 3) = some (record 3 .read) ∧
      (record 3 .read).phase = .active ∧ (record 3 .read).failure = none ∧
      (record 3 .read).isUserTransfer = true := by decide +kernel
theorem meets_NoEffectOfAbortFailsActive :
    let x := { record 3 .read with phase := .done, outcome := some .good }
    let s := working x (jobIn .mediaRead .read .absent)
    settle asleep = asleep ∧ asleep.TakesRequests ∧ s.TakesRequests ∧ s.txn? (tagOf 3) = some x ∧ x.phase ≠ .active ∧
      s.txn? (tagOf 9) = none := by
  refine ⟨rfl, ?_⟩
  decide +kernel
/-- A failed READ's issued page read is abandoned and its job in DELIVER_WAIT ends; a WRITE's in MEDIA_WRITE stays (R60). -/
theorem test_disposal :
    let s := { reading with ubp := { reading.ubp with jobs :=
      [jobIn .deliverWait .read .absent, { jobIn .mediaRead .read (.issued 0) with buf := 1, unit := 1 }] } }
    let w := working (record 3 .write) (jobIn .mediaWrite .writeFull (.issued 0))
    s.TagsOk ∧ s.BuffersOk ∧
      (after (.abort 3 0 0) s).ubp.jobs = [{ jobIn .mediaRead .read (.issued 0) with buf := 1, unit := 1, abandoned := true }] ∧
      (after (.abort 3 0 0) w).ubp.jobs = [jobIn .mediaWrite .writeFull (.issued 0)] := by decide +kernel
theorem meets_AbortIsNotAnswered :
    reading.TakesRequests ∧ (3 : Byte).toNat ≤ 15 ∧ 15 < (16 : Byte).toNat ∧ unknownKind 0 = true ∧
      unknownKind 7 = true := by decide +kernel
theorem meets_RefusedRequests :
    reading.TakesRequests ∧ unknownKind 7 = true ∧ 15 < (16 : Byte).toNat ∧ (0 : BitVec 16).toNat = 0 ∧
      256 < (257 : BitVec 16).toNat ∧ unknownKind 2 = false ∧ (3 : Byte).toNat ≤ 15 ∧
      (256 : BitVec 16).toNat ≤ 256 ∧ (reading.txn? (tagOf 3)).isSome = true := by decide +kernel

/-- A refusal. -/
def refusal : Complete := { tag := 3, outcome := .tagBusy, detail := 1, residue := 8, payload := .none }

/-- Four refusals queued, the oldest being sent. -/
def full : State :=
  { idle with uli := { idle.uli with refusals := List.replicate 4 refusal, output := .refusal } }

theorem meets_RefusalQueue :
    full.power = .running ∧ 4 ≤ full.uli.refusals.length ∧ full.uli.output = .refusal ∧
      full.uli.refusals = refusal :: List.replicate 3 refusal ∧ full.uli.link = [] ∧
      (List.replicate 3 refusal).length < 4 := by decide +kernel

/-- A WRITE job in DATA_WAIT with its intake open, `n` sectors owed. -/
def intaking (n : Nat) : State :=
  let s := working (record 3 .write) (jobIn .dataWait .writeFull .absent)
  { s with uli := { s.uli with intakes := [{ tag := 3, owed := n, next := 7, timer := some 0 }] } }

theorem meets_WriteDataPlaced :
    (intaking 1).power = .running ∧ (List.replicate 512 (0 : Byte)).length = 512 ∧
      (intaking 1).intake? (tagOf 3) = some { tag := 3, owed := 1, next := 7, timer := some 0 } ∧
      (intaking 2).intake? (tagOf 3) = some { tag := 3, owed := 2, next := 7, timer := some 0 } ∧
      (intaking 1).waitingJob (tagOf 3) = some (jobIn .dataWait .writeFull .absent) ∧ 15 < (16 : Byte).toNat ∧
      (intaking 1).BuffersOk ∧ (intaking 2).BuffersOk ∧ (intaking 2).dli.requests = [] ∧ idle.intake? (tagOf 3) = none := by decide +kernel
/-- Nothing is left to follow in a part at rest. -/
theorem meets_DroppedOfWriteDataPlaced : settle asleep = asleep := rfl
/-- The last sector owed moves the job to the cipher, which is idle and takes it (R31, R49, R57). -/
theorem test_last_sector :
    ((after (.writeData 3 (List.replicate 512 1)) (intaking 1)).ubp.jobs.map Job.state) = [.encrypting] ∧
    ((after (.writeData 3 (List.replicate 512 1)) (intaking 2)).ubp.jobs.map Job.state) = [.dataWait] := by
  decide +kernel
/-- The first job's last sector lets the next one wait for data, and that one only (R30, R51). -/
theorem test_waits_in_order :
    let i (n : Nat) : Intake := { tag := 3, owed := n, next := 7, timer := some 0 }
    let s := queueing .encryptWait
    let u := { s with
      ubp := { s.ubp with jobs := s.ubp.jobs.map (fun j => { j with state := if j.unit = 0 then .dataWait else .dataQueue }) },
      uli := { s.uli with intakes := [i 1] } }
    u.BuffersOk ∧ u.waitingJob 3 = some (jobIn .dataWait .writeFull .absent) ∧
      (after (.writeData 3 (List.replicate 512 1)) u).ubp.jobs.map Job.state = [.encrypting, .dataWait, .dataQueue] := by
  decide +kernel
theorem meets_LinkResetEmptiesTable :
    reading.power = .running ∧ reading.uli.link = [] ∧ reading.swu.state ≠ .issuing := ⟨rfl, rfl, by decide⟩
theorem meets_SuspendEntersStandby :
    open1.power = .running ∧ open1.ac.standby = false ∧ open1.uli.link = [] ∧ open1.PresentationOk ∧ open1.BuffersOk ∧
      (open1.ks.dev.fields.lockOnStandby && open1.ac.access.unlocked) = true ∧
      idle.PresentationOk ∧ idle.BuffersOk ∧ (idle.ks.dev.fields.lockOnStandby && idle.ac.access.unlocked) = false ∧
      asleep.power = .running ∧ asleep.ac.standby = true ∧ asleep.uli.link = [] := by decide +kernel
/-- `open1` with the lock-on-standby policy 0. -/
def openPolicy0 : State :=
  { open1 with ks := { open1.ks with dev := { open1.ks.dev with fields :=
    { open1.ks.dev.fields with lockOnStandby := false } } } }

theorem meets_OpenOfSuspendEntersStandby :
    openPolicy0.power = .running ∧ openPolicy0.ac.standby = false ∧ openPolicy0.uli.link = [] ∧
      openPolicy0.PresentationOk ∧ openPolicy0.BuffersOk ∧ openPolicy0.ac.access.unlocked = true ∧
      (openPolicy0.ks.dev.fields.lockOnStandby && openPolicy0.ac.access.unlocked) = false := by decide +kernel
/-- Unlocked through standby, the idle counter holds, and no entry waits to be placed (R98, R99). -/
theorem test_suspend_open :
    let t := after .suspend { openPolicy0 with kps := { openPolicy0.kps with due := [press (.digit 1)] } }
    t.ac.access = .presented ∧ t.ac.idle = some 0 ∧ t.ac.standby = true ∧ t.kps.due = [] ∧ t.ce.key = some 5 := by
  decide +kernel
/-- `asking` with a page read REQUESTED for a second job. -/
def askingRead : State :=
  { asking with
    pending := [],
    ubp := { asking.ubp with jobs := asking.ubp.jobs ++ [jobAt 1 3 1 .mediaRead] },
    dli := { asking.dli with requests := asking.dli.requests ++ [⟨.pageRead 1, .job 1⟩] } }

theorem meets_LinkOfTheEmptying :
    asking.power = .running ∧ asking.uli.link = [] ∧ asking.BuffersOk ∧ asking.RequestsOk ∧ asking.PresentationOk ∧
      asking.ac.standby = false ∧ { asking with ac := { asking.ac with standby := true } }.ac.standby = true :=
  ⟨rfl, rfl, by decide +kernel, asking_requestsOk, by decide +kernel, rfl, rfl⟩
/-- At the emptying the SYNC issued stays without an owner, the page write owed is issued on the next slot and the page read
asked for is withdrawn (R65, R78). -/
theorem test_emptied_link :
    [after .linkReset askingRead, after .suspend askingRead].map (fun t => (t.dli.slots, t.dli.requests)) =
      [([⟨0, .sync, .nobody⟩, ⟨1, .pageWrite 0, .job 0⟩], []), ([⟨0, .sync, .nobody⟩, ⟨1, .pageWrite 0, .job 0⟩], [])] := by
  decide +kernel
/-- At the emptying a job in MEDIA_WRITE is abandoned and one in DELIVER_WAIT ends (R63). -/
theorem test_suspend_jobs :
    (after .suspend (working (record 3 .write) (jobIn .mediaWrite .writeFull (.issued 0)))).ubp.jobs.map Job.abandoned =
      [true] ∧ (after .suspend reading).ubp.jobs = [] := by decide +kernel

theorem meets_ResumeLeavesStandby :
    asleep.power = .running ∧ asleep.uli.link = [] ∧ asleep.ac.standby = true ∧ asleep.ac.held = some .accept ∧
      asleep.ind.slot = none ∧ idle.ac.standby = false := by decide +kernel
theorem meets_FramesAreReadOrDropped :
    ([16, 0] : List Byte) ≠ [16] ∧ ([16, 0] : List Byte).length ≠ 9 ∧ (List.replicate 512 (0 : Byte)).length = 512 ∧
      (3 : Byte).toNat ≤ 3 ∧ ¬ (4 : Byte).toNat ≤ 3 ∧ 4 < (5 : Byte).toNat ∧
      sweeping.dli.slots.find? (fun y => y.dtag == Fin.ofNat 4 (0 : Byte).toNat) =
        some { dtag := 0, op := .discard 0 16, owner := .sweep } ∧
      (4 : Byte) ≠ (DOp.discard 0 16).code ∧ 1 ≤ (4 : Byte).toNat ∧ (4 : Byte).toNat ≤ 4 := by decide +kernel
/-- A COMPLETION whose operation byte, status or length does not fit the DISCARD of its slot is its ERROR (R173). -/
theorem test_misfit_completion :
    [decodeDownstream [129, 0, 4, 0], decodeDownstream [129, 0, 3, 2], decodeDownstream [129, 0, 3, 0, 0],
      decodeDownstream [129, 0], decodeDownstream [129, 0, 3, 0]].map (fun c => (after c sweeping).swu.retry) =
      [true, true, true, true, false] := by decide +kernel
/-- The STATE answer of event 10 of 11.6. -/
def erasingAnswer : StateAnswer :=
  { access := .erasing, volume := .overlay, lockoutSeconds := 0, media := .ok, clamped := false, readOnly := false,
    rebuilt := false, sweeping := false, percent := 100, degraded := false, eraseCount := 2,
    reasons := { Attn.none with presentation := true } }

/-- That answer sent for tag 9, the DATA_WANTED of event 6 of 11.4, and a DISCARD of 160 pages from 99,840 on. -/
theorem test_sent_frames :
    UpRecord.frame (.dataWanted 1 1000005 3) = [130, 1, 0x45, 0x42, 0x0F, 0, 3] ∧
    Complete.frame { tag := 9, outcome := .good, detail := 0, residue := 0, payload := .state erasingAnswer } =
      [131, 9, 0, 0, 0, 0, 10, 5, 0, 1, 0, 0, 0, 100, 2, 2, 0] ∧
    DownRecord.frame (.discard 2 99840 160) = [3, 2, 0, 0x86, 1, 0, 160, 0] := by decide +kernel
theorem meets_CompleteSent :
    let x := { record 3 .state with phase := .done, outcome := some .good }
    let s := holding (.complete 3) (working x (jobIn .mediaRead .read .absent))
    let u := holding (.complete 3) { sweeping with txns := [x] }
    let v := { u with dli := { u.dli with usable := none } }
    s.power = .running ∧ s.uli.output = .complete 3 ∧ s.txn? 3 = some x ∧ x.outcome = some .good ∧
      s.swu.state = .idle ∧ u.uli.output = .complete 3 ∧ u.txn? 3 = some x ∧ u.swu.state ≠ .idle ∧
      u.dli.usable = some 40 ∧ v.txn? 3 = some x ∧ v.swu.state ≠ .idle ∧ v.dli.usable = none := by decide +kernel
/-- A sweep of 40 pages at cursor 39 reports 98, at 40 still 99, and IDLE 100 (R15, R16). -/
theorem test_percent_sent :
    let x := { record 3 .state with phase := .done, outcome := some .good }
    [{ sweeping.swu with cursor := some 39 }, { sweeping.swu with cursor := some 40 }, idle.swu].map (fun w =>
      (after .completeSent (holding (.complete 3) { sweeping with txns := [x], swu := w })).swu.lastPercent) =
      [some 98, some 99, some 100] := by decide +kernel
theorem meets_IntakeOpensAndExpires :
    let s := holding (.dataWanted 3) (working (record 3 .write) (jobIn .dataWait .writeFull .absent))
    s.power = .running ∧ s.uli.output = .dataWanted 3 ∧ s.waitingJob 3 = some (jobIn .dataWait .writeFull .absent) ∧
      s.intake? 3 = none ∧
      (intaking 1).intake? 3 = some { tag := 3, owed := 1, next := 7, timer := some 0 } ∧
      (intaking 1).txn? 3 = some (record 3 .write) ∧ (record 3 .write).phase = .active ∧
      (record 3 .write).failure = none := by decide +kernel
/-- The output that a DATA_WANTED held goes to the refusal waiting (R29). -/
theorem test_wanted_sent :
    let s := holding (.dataWanted 3) (working (record 3 .write) (jobIn .dataWait .writeFull .absent))
    (after .dataWantedSent { s with uli := { s.uli with refusals := [refusal] } }).uli.output = .refusal := by
  decide +kernel
theorem meets_ReadDataSent :
    let j := jobIn .delivering .read .absent
    let s := holding (.delivery 3) (working (record 3 .read) j)
    let k := { j with sent := 7 }
    let u := holding (.delivery 3) (working { record 3 .read with done := 7 } k)
    s.power = .running ∧ s.TagsOk ∧ u.TagsOk ∧ s.BuffersOk ∧ u.BuffersOk ∧ s.uli.output = .delivery 3 ∧ s.deliveringJob 3 = some j ∧
      s.txn? 3 = some (record 3 .read) ∧
      j.sent + 1 < j.count ∧ (record 3 .read).phase = .active ∧ u.deliveringJob 3 = some k ∧ k.count ≤ k.sent + 1 ∧
      u.ind.slot = none ∧ u.ind.rest = none ∧ u.ac.standby = false ∧
      (record 3 .read).transfer = some (({ record 3 .read with done := 7 } : Txn).done + 1) := by decide +kernel
/-- A READ whose last sector of a unit goes out before its m-th stays ACTIVE (R26). -/
theorem test_half_read :
    let u := holding (.delivery 3)
      (working { record 3 .read with done := 7, transfer := some 16 } { jobIn .delivering .read .absent with sent := 7 })
    u.TagsOk ∧ ((after .readDataSent u).txn? 3).map (fun x => (x.phase, x.outcome, x.done)) = some (.active, none, 8) := by
  decide +kernel
theorem meets_FailedOfReadDataSent :
    let j := jobIn .delivering .read .absent
    let x := { record 3 .read with phase := .draining, failure := some .aborted }
    let s := holding (.delivery 3) (working x j)
    s.TagsOk ∧ s.uli.output = .delivery 3 ∧ s.deliveringJob 3 = some j ∧ s.txn? 3 = some x ∧ x.phase = .draining ∧
      x.failure = some .aborted := by decide +kernel
/-- A READ that failed during its run is DONE once the record being sent has gone, and its COMPLETE is granted (R55). -/
theorem test_failed_run :
    let x := { record 3 .read with phase := .draining, failure := some .aborted }
    let t := after .readDataSent (holding (.delivery 3) (working x (jobIn .delivering .read .absent)))
    (t.txn? 3).map Txn.outcome = some (some .aborted) ∧ (t.txn? 3).map Txn.done = some 1 ∧ t.ubp.jobs = [] ∧
      t.uli.output = .complete 3 := by decide +kernel
/-- A transaction's end does not wait on the page write of another: a failed READ, overlay READ and FLUSH beside a WRITE with a
job in MEDIA_WRITE (R23). -/
theorem test_ends_beside_a_write :
    let w := record 5 .write
    let j := { jobIn .mediaWrite .writeFull .requested with buf := 1, owner := 5, unit := 1 }
    let f (x : Txn) : Txn := { x with phase := .draining, failure := some .aborted }
    let s (x : Txn) (js : List Job) : State := { open1 with txns := [f x, w], ubp := { jobs := js ++ [j], mem := [] } }
    [((after .readDataSent (holding (.delivery 3) (s (record 3 .read) [jobIn .delivering .read .absent]))).txn? 3),
      ((after .overlayReadDataSent (holding (.overlay 3) (s (record 3 .read .overlay) []))).txn? 3),
      ((after (.syncCompletion 0 0 []) (slotted .sync (.flush 4) (s flushRecord []))).txn? 4)].map
        (Option.map Txn.outcome) = List.replicate 3 (some (some .aborted)) := by decide +kernel
theorem meets_OverlayReadDataSent :
    let x := record 3 .read .overlay
    let y := { x with done := 7 }
    let z := { x with phase := .draining, failure := some .aborted }
    let s := holding (.overlay 3) { idle with txns := [x] }
    s.power = .running ∧ s.uli.output = .overlay 3 ∧ s.txn? 3 = some x ∧ x.lba = some 0 ∧ x.transfer = some 8 ∧
      x.phase = .active ∧ x.failure = none ∧ x.done + 1 < 8 ∧ 8 = y.done + 1 ∧ z.phase = .draining ∧
      z.failure = some .aborted := by decide +kernel

/-- After the last sector of an overlay READ its COMPLETE is granted (R14, R29). -/
theorem test_overlay_end :
    (after .overlayReadDataSent (holding (.overlay 3)
      { idle with txns := [{ record 3 .read .overlay with done := 7 }, record 4 .read .overlay] })).uli.output =
      .complete 3 := by decide +kernel

/-- A page read of unit 0 issued on slot 0. -/
def pageReading (abandoned : Bool) : State :=
  slotted (.pageRead 0) (.job 0)
    (working (record 3 .read) { jobIn .mediaRead .read (.issued 0) with abandoned := abandoned })

/-- A page write of unit 0 issued on slot 0, its 8 sectors the last. -/
def pageWriting : State :=
  slotted (.pageWrite 0) (.job 0) (working (record 3 .write) (jobIn .mediaWrite .writeFull (.issued 0)))

theorem meets_PageReadCompletion :
    (pageReading false).power = .running ∧ (pageReading false).InSlot 0 (.pageRead 0) (.job 0) ∧
      (pageReading false).job? 0 = some (jobIn .mediaRead .read (.issued 0)) ∧
      (pageReading false).txn? 3 = some (record 3 .read) ∧ (pageReading false).TagsOk ∧
      (pageReading true).job? 0 = some { jobIn .mediaRead .read (.issued 0) with abandoned := true } ∧
      (∀ x ∈ (pageReading true).dli.slots, x.dtag ≠ Fin.ofNat 4 (3 : Byte).toNat) ∧ 3 < (4 : Byte).toNat := by
  decide +kernel
theorem meets_PageWriteCompletion :
    pageWriting.power = .running ∧ pageWriting.TagsOk ∧ pageWriting.InSlot 0 (.pageWrite 0) (.job 0) ∧
      pageWriting.job? 0 = some (jobIn .mediaWrite .writeFull (.issued 0)) ∧
      pageWriting.txn? 3 = some (record 3 .write) ∧ pageWriting.ind.slot = none ∧
      (record 3 .write).transfer = some ((record 3 .write).done + (jobIn .mediaWrite .writeFull (.issued 0)).count) := by
  decide +kernel
/-- An ERROR completion waits for its owner. -/
def erring (op : DOp) (o : Owner) (s : State) : State :=
  { s with dli := { s.dli with media := .absent, slots := [], errors := [{ op := op, owner := o, issued := true }] } }

/-- `pageWriting` beside a FLUSH whose mark holds that page write alone; its job abandoned or not. -/
def marked (abandoned : Bool) : State :=
  { pageWriting with
    txns := [record 3 .write, { flushRecord with flushMark := some [0] }],
    ubp := { pageWriting.ubp with jobs := [{ jobIn .mediaWrite .writeFull (.issued 0) with abandoned := abandoned }] } }

theorem meets_AbandonedOfPageWriteCompletion :
    (marked true).power = .running ∧ (marked true).TagsOk ∧ (marked true).InSlot 0 (.pageWrite 0) (.job 0) ∧
      (marked true).job? 0 = some { jobIn .mediaWrite .writeFull (.issued 0) with abandoned := true } ∧
      (marked false).InSlot 0 (.pageWrite 0) (.job 0) ∧ (marked false).txn? 3 = some (record 3 .write) ∧
      (record 3 .write).kind ≠ .flush ∧
      (marked true).txn? 4 = some { flushRecord with flushMark := some [0] } := by decide +kernel
/-- The end of the last marked page write, confirmed or not, has the FLUSH ask for its SYNC; an abandoned job's counts for
no transaction and shows nothing (R61, R75, R76). -/
theorem test_marked_write_ends :
    [after (.pageWriteCompletion 0 0 []) (marked false), after (.pageWriteCompletion 0 1 []) (marked false),
      after (.pageWriteCompletion 0 0 []) (marked true)].map
        (fun t => (t.dli.slots.map Slot.owner, t.txns.map (fun x => (x.done, x.phase)), t.ubp.jobs.length, t.ind.slot)) =
      [([.flush 4], [(8, .done), (0, .active)], 0, some .activity),
        ([.flush 4], [(0, .done), (0, .active)], 0, none), ([.flush 4], [(0, .active), (0, .active)], 0, none)] := by
  decide +kernel
/-- `pageWriting` on a WRITE that has been aborted and waits on that page write, and one on a WRITE of 16 sectors. -/
def draining : State := { pageWriting with txns := [{ record 3 .write with phase := .draining, failure := some .aborted }] }
def halfWritten : State := { pageWriting with txns := [{ record 3 .write with requested := some 16, transfer := some 16 }] }

theorem meets_DrainingOfPageWriteCompletion :
    draining.TagsOk ∧ draining.InSlot 0 (.pageWrite 0) (.job 0) ∧
      draining.txn? 3 = some { record 3 .write with phase := .draining, failure := some .aborted } ∧
      halfWritten.TagsOk ∧ halfWritten.InSlot 0 (.pageWrite 0) (.job 0) ∧
      (halfWritten.txn? 3).map Txn.transfer = some (some 16) ∧ (some 16 : Option Nat) ≠ some (0 + 8) := by decide +kernel
/-- The end of the last job in MEDIA_WRITE, confirmed or not, or by the ERROR completion of a loss, makes a DRAINING WRITE
DONE with its recorded failure, a confirmation counted; with another in MEDIA_WRITE it drains on (R23, R25, R53). -/
theorem test_drained :
    let two := { draining with ubp := { draining.ubp with
      jobs := draining.ubp.jobs ++ [{ jobIn .mediaWrite .writeFull (.issued 1) with buf := 1, unit := 1 }] } }
    [after (.pageWriteCompletion 0 0 []) draining, after (.pageWriteCompletion 0 1 []) draining,
      after (.errorCompletionTaken (.job 0)) (erring (.pageWrite 0) (.job 0) draining),
      after (.pageWriteCompletion 0 0 []) two].map (fun t => (t.txn? 3).map (fun x => (x.phase, x.outcome, x.done))) =
      [some (.done, some .aborted, 8), some (.done, some .aborted, 0), some (.done, some .aborted, 0),
        some (.draining, none, 8)] := by decide +kernel
/-- A WRITE half of whose sectors are confirmed stays ACTIVE (R26). -/
theorem test_half_written :
    ((after (.pageWriteCompletion 0 0 []) halfWritten).txn? 3).map (fun x => (x.phase, x.outcome, x.done)) =
      some (.active, none, 8) := by decide +kernel
theorem meets_OwnerlessOfSyncCompletion :
    let s := slotted .sync .nobody { open1 with txns := [flushRecord] }
    s.power = .running ∧ s.InSlot 0 .sync .nobody ∧ s.dli.requests.Nodup := by decide +kernel
theorem meets_SyncCompletion :
    let s := slotted .sync (.flush 4) { open1 with txns := [flushRecord] }
    let z := { flushRecord with phase := .draining, failure := some .aborted, flushMark := none }
    let u := slotted .sync (.flush 4) { open1 with txns := [z] }
    s.power = .running ∧ s.dli.requests.Nodup ∧ u.dli.requests.Nodup ∧ s.InSlot 0 .sync (.flush 4) ∧ s.txn? 4 = some flushRecord ∧ flushRecord.kind = .flush ∧
      flushRecord.requested = none ∧ flushRecord.transfer = none ∧ flushRecord.phase = .active ∧
      flushRecord.failure = none ∧ u.txn? 4 = some z ∧
      u.InSlot 0 .sync (.flush 4) ∧ z.phase = .draining ∧ z.failure = some .aborted := by decide +kernel
theorem meets_DiscardCompletion :
    let u := { sweeping with swu := { sweeping.swu with state := .issuing, dropResult := true } }
    sweeping.power = .running ∧ sweeping.InSlot 0 (.discard 0 16) .sweep ∧ sweeping.swu.cursor = some 0 ∧
      sweeping.dli.usable = some 40 ∧ sweeping.dli.media = .ok ∧ sweeping.swu.dropResult = false ∧
      sweeping.swu.hold = false ∧ sweeping.swu.writeOut = false ∧ sweeping.swu.since + 1 < 16 ∧
      sweeping.swu.retry = false ∧ u.InSlot 0 (.discard 0 16) .sweep ∧ u.swu.dropResult = true ∧
      u.swu.writeOut = false ∧ u.swu.state = .issuing ∧ u.swu.hold = false ∧ u.swu.cursor = some 0 ∧
      u.userOps = 0 ∧ u.txns = [] ∧ { u.swu with state := .paused, hold := true }.state ≠ .issuing := by
  decide +kernel
/-- The result of an earlier pass's DISCARD is dropped: under the erase hold nothing is asked for, and a new pass held
back asks for its first window (R142, R148). -/
theorem test_dropped_result :
    (after (.discardCompletion 0 0 []) { sweeping with swu := { sweeping.swu with
      state := .paused, hold := true, dropResult := true } }).dli.slots = [] ∧
    (after (.discardCompletion 0 0 []) { sweeping with swu := { sweeping.swu with
      state := .issuing, dropResult := true } }).dli.slots.map Slot.op = [.discard 0 40] := by decide +kernel
/-- The boundaries of the windows since persist and of the end of the pass. -/
theorem test_discard_boundaries :
    (after (.discardCompletion 0 0 []) { sweeping with swu := { sweeping.swu with since := 14 } }).swu.since = 15 ∧
    (after (.discardCompletion 0 0 []) { sweeping with swu := { sweeping.swu with since := 15 } }).swu.writeOut = true ∧
    (after (.discardCompletion 0 0 []) (slotted (.discard 0 40) .sweep sweeping)).ks.queue.map KsReq.body =
      [.dev { DevUpdate.none with cursor := some none }] := by decide +kernel

theorem meets_ErrorCompletionTaken :
    let s := erring (.pageRead 0) (.job 0) (pageReading false)
    let u := erring .sync (.flush 4) { open1 with txns := [flushRecord] }
    let w := erring (.discard 0 16) .sweep sweeping
    s.power = .running ∧ s.dli.errors.find? (fun e => e.owner == .job 0) = some ⟨.pageRead 0, .job 0, true⟩ ∧
      s.job? 0 = some (jobIn .mediaRead .read (.issued 0)) ∧ s.txn? 3 = some (record 3 .read) ∧
      u.dli.errors.find? (fun e => e.owner == .flush 4) = some ⟨.sync, .flush 4, true⟩ ∧
      u.txn? 4 = some flushRecord ∧
      w.dli.errors.find? (fun e => e.owner == .sweep) = some ⟨.discard 0 16, .sweep, true⟩ ∧
      w.swu.dropResult = false ∧ w.swu.writeOut = false ∧ w.dli.media ≠ .ok := by decide +kernel
theorem meets_SweepOfErrorCompletionTaken :
    let w := withMedia (erring (.discard 0 16) .sweep sweeping)
    let held := { w with swu := { w.swu with state := .paused, hold := true } }
    let past := { w with swu := { w.swu with state := .issuing, dropResult := true } }
    w.dli.errors.find? (fun e => e.owner == .sweep) = some ⟨.discard 0 16, .sweep, true⟩ ∧ w.swu.dropResult = false ∧
      w.swu.writeOut = false ∧ w.dli.media = .ok ∧ w.swu.hold = false ∧ w.swu.cursor = some 0 ∧
      w.dli.usable = some 40 ∧ held.swu.hold = true ∧ held.swu.dropResult = false ∧ past.swu.dropResult = true ∧
      past.swu.state = .issuing ∧ past.swu.hold = false ∧ past.userOps = 0 ∧ past.txns = [] ∧
      (erring (.discard 0 16) .sweep past).dli.media ≠ .ok := by decide +kernel
/-- LOST after a new identification asks for the window anew, with the new U (R144, R147). -/
theorem test_lost :
    (after (.errorCompletionTaken .sweep) (withMedia (erring (.discard 0 16) .sweep sweeping))).dli.slots.map Slot.op =
      [.discard 0 40] := by decide +kernel
theorem meets_AbandonedOfErrorCompletionTaken :
    let s := erring (.pageWrite 0) (.job 0) (marked true)
    s.power = .running ∧ s.TagsOk ∧ s.dli.errors.find? (fun e => e.owner == .job 0) = some ⟨.pageWrite 0, .job 0, true⟩ ∧
      s.job? 0 = some { jobIn .mediaWrite .writeFull (.issued 0) with abandoned := true } := by decide +kernel
theorem meets_DrainingOfErrorCompletionTaken :
    let z := { flushRecord with phase := .draining, failure := some .aborted, flushMark := none }
    let s := erring (.pageWrite 0) (.job 0) draining
    let u := erring .sync (.flush 4) { open1 with txns := [z] }
    s.TagsOk ∧ (s.dli.errors.find? (fun e => e.owner == .job 0)).isSome = true ∧
      (s.txn? 3).map Txn.phase = some .draining ∧ u.txn? 4 = some z ∧ z.failure = some .aborted ∧
      (u.dli.errors.find? (fun e => e.owner == .flush 4)).isSome = true ∧
      ((after (.errorCompletionTaken (.flush 4)) u).txn? 4).map Txn.outcome = some (some .aborted) := by decide +kernel
/-- With the media gone the SYNC then asked for is completed ERROR at once (R66, R77). -/
theorem test_marked_write_lost :
    (after (.errorCompletionTaken (.job 0)) (erring (.pageWrite 0) (.job 0) (marked true))).dli.errors =
      [⟨.sync, .flush 4, false⟩] := by decide +kernel
theorem meets_CipherCompletion :
    let j := jobIn .decrypting .read .absent
    let s := working (record 3 .read) j
    let k := jobIn .encrypting .writeFull .absent
    s.power = .running ∧ s.BuffersOk ∧ s.ubp.jobs.find? (fun j => j.ciphering) = some j ∧ s.ce.key = some 5 ∧
      (working (record 3 .write) k).ubp.jobs.find? (fun j => j.ciphering) = some k ∧
      k.unit < (working (record 3 .write) k).dli.usable.getD 0 := by decide +kernel
/-- A page write goes out on its slot's dtag with the bytes of its job's buffer (R64, R173). -/
theorem test_page_write_sent (s : State) :
    (issue 2 { op := .pageWrite 7, owner := .job 3 } s).dli.sent.head? =
      some (.pageWrite 2 7 (List.ofFn (bufferUnit 3 s))) := rfl

/-! ## The orders of service, with more than one candidate each -/

/-- The older of two DONE transactions is granted the output (R29). -/
theorem test_grant_oldest :
    let x := { record 3 .read with phase := .done, outcome := some .good }
    (after .completeSent (holding (.complete 3) { open1 with txns :=
      [record 6 .read, { x with tag := 5 }, x, { x with tag := 1 }] })).uli.output = .complete 5 := by decide +kernel
/-- The run goes to the lowest unit the READ holds, and to none while that one is still being read (R54). -/
theorem test_deliver_lowest :
    let j := { jobIn .delivering .read .absent with sent := 7 }
    let s (q : JobState) := holding (.delivery 3)
      { working { record 3 .read with nextUnit := some 3, jobsHeld := 3, transfer := some 24 } j with
        ubp := { jobs := [j, jobAt 1 3 2 .deliverWait, jobAt 2 3 1 q], mem := [] } }
    (s .deliverWait).BuffersOk ∧
    (after .readDataSent (s .deliverWait)).ubp.jobs.map (fun k => (k.unit, k.state)) =
      [(2, .deliverWait), (1, .delivering)] ∧
    (after .readDataSent (s .decrypting)).ubp.jobs.map (fun k => (k.unit, k.state)) =
      [(2, .deliverWait), (1, .decrypting)] := by decide +kernel
/-- The CE takes the lowest unit of the oldest transaction with a job queued (R57). -/
theorem test_cipher_oldest :
    ((after .cipherCompletion { working (record 3 .read) (jobIn .decrypting .read .absent) with
      txns := [record 3 .read, record 5 .read],
      ubp := { jobs := [jobIn .decrypting .read .absent, jobAt 1 5 1 .decryptWait, jobAt 2 3 3 .decryptWait,
        jobAt 3 3 2 .decryptWait], mem := [] } }).ubp.jobs.map Job.state) =
      [.delivering, .decryptWait, .decryptWait, .decrypting] := by decide +kernel
/-- A freed slot goes to the oldest transaction's lowest unit, before a younger one's request made earlier (R67). -/
theorem test_arbiter_oldest :
    let full := [1, 2, 3].map (fun d => ({ dtag := d, op := .pageRead 30, owner := .nobody } : Slot))
    ((after (.syncCompletion 0 0 []) { open1 with
      txns := [flushRecord, record 3 .read, record 5 .read],
      ubp := { jobs := [jobAt 1 5 1 .mediaRead, jobAt 2 3 9 .mediaRead, jobAt 3 3 2 .mediaRead], mem := [] },
      dli := { open1.dli with
        slots := { dtag := 0, op := .sync, owner := .flush 4 } :: full,
        requests := [⟨.pageRead 1, .job 1⟩, ⟨.pageRead 9, .job 2⟩, ⟨.pageRead 2, .job 3⟩] } }).dli.slots.map Slot.op) =
      [.pageRead 30, .pageRead 30, .pageRead 30, .pageRead 2] := by decide +kernel
/-- A freed buffer goes to the oldest transaction that wants one (R46). -/
theorem test_buffer_oldest :
    let want (t : Fin 16) (l : Nat) := { record t .read with lba := some l, nextUnit := some (l / 8), jobsHeld := 0 }
    let others := [1, 2, 3, 4, 5, 6, 7].map (fun b => { jobAt b 0 (20 + b.val) .mediaRead with abandoned := true })
    ((after (.pageWriteCompletion 0 0 []) { pageWriting with
      txns := [record 3 .write, want 5 8, want 6 16],
      ubp := { jobs := jobIn .mediaWrite .writeFull (.issued 0) :: others, mem := [] } }).ubp.jobs.getLast?.map Job.owner) =
      some 5 := by decide +kernel

theorem meets_IdentAndMediaLost :
    open1.power ≠ .off ∧ open1.dli.media = .ok ∧ 32768 ≤ (32768 : BitVec 32).toNat ∧ idle.dli.media = .unknown ∧
      (let s := { open1 with dli := { open1.dli with usable := some 32768 } }
       s.dli.usable = some (min (32768 : BitVec 32).toNat 536870912)) ∧
      (verifying .unlock .lockedVerifying).ac.presentation = .overlay ∧
      (erring .sync .nobody idle).dli.media = .absent := by decide +kernel
/-- At the loss a slot's operation and a request are completed ERROR toward their owners; where the lock ends a job at once,
its request has no owner left (R60, R73). -/
theorem test_loss_completes :
    let s := { slotted (.pageRead 0) (.job 0) (inState .lockedIdle) with ubp := (pageReading true).ubp }
    let u := working (record 3 .read) (jobIn .mediaRead .read .requested)
    let v := { u with dli := { u.dli with requests := [⟨.pageRead 0, .job 0⟩] } }
    (after (.mediaLost []) (withMedia s)).dli.errors = [⟨.pageRead 0, .job 0, true⟩] ∧
    (after (.mediaLost []) v).dli.errors = [] ∧ (after (.mediaLost []) v).ubp.jobs = [] ∧
    asking.dli.media = .ok ∧ (after (.mediaLost []) asking).dli.errors.map PendingError.owner = [.flush 4, .job 0] := by
  decide +kernel
theorem meets_LossOfIdentAndMediaLost :
    asking.dli.media = .ok ∧ (32767 : BitVec 32).toNat < 32768 ∧ asking.TagsOk ∧ asking.BuffersOk ∧ asking.RequestsOk ∧
      asking.ActiveOk ∧ asking.dli.usable ≠ some (min (32768 : BitVec 32).toNat 536870912) ∧
      (verifying .unlock .lockedVerifying).dli.media = .ok :=
  ⟨rfl, by decide, by decide +kernel, by decide +kernel, asking_requestsOk, by decide +kernel, by decide +kernel, rfl⟩
/-- An IDENT with another U, or with P below 32,768, completes what the link held ERROR and frees the slots (R72, R73), and a
verify for an unlock marks the loss as seen (R86). -/
theorem test_ident_loss :
    let v := verifying .unlock .lockedVerifying
    [32768, 32767].map (fun p => ((after (.ident p []) asking).dli.errors.map PendingError.owner,
      (after (.ident p []) asking).dli.slots, (after (.ident p []) asking).dli.requests,
      (after (.ident p []) { v with ac := { v.ac with scope := some .unlock } }).ac.lossSeen)) =
      List.replicate 2 ([.flush 4, .job 0], [], [], true) := by decide +kernel
/-- A sweep PAUSED at this page, the media not identified. -/
def pausedAt (c : Nat) : State := { idle with swu := { idle.swu with state := .paused, cursor := some c } }

theorem meets_SweepOfIdentAndMediaLost :
    (pausedAt 32767).power = .running ∧ (pausedAt 32767).dli.media ≠ .ok ∧ 32768 ≤ (32768 : BitVec 32).toNat ∧
      (pausedAt 32767).swu.state = .paused ∧ (pausedAt 32767).swu.hold = false ∧
      (pausedAt 32767).swu.discardOut = false ∧ (pausedAt 32767).swu.writeOut = false ∧
      .sweep ∉ (pausedAt 32767).opOwners ∧ (pausedAt 32767).swu.cursor = some 32767 := by decide +kernel
/-- The last page of the new U is a window of one; at U the pass completes (R147). -/
theorem test_sweep_resumes :
    (after (.ident 32768 []) (pausedAt 32767)).dli.slots.map Slot.op = [.discard 32767 1] ∧
    [32768, 40000].map (fun c => ((after (.ident 32768 []) (pausedAt c)).swu.cursor,
      (after (.ident 32768 []) (pausedAt c)).ks.queue.map KsReq.body)) =
      List.replicate 2 (some 32768, [.dev { DevUpdate.none with cursor := some none }]) := by decide +kernel
/-- P at the boundaries of R4's table. -/
theorem test_ident_boundaries :
    (after (.ident 32767 []) idle).dli.media = .unusable ∧ (after (.ident 32768 []) idle).dli.media = .ok ∧
    (after (.ident 536870912 []) idle).dli.clamped = false ∧ (after (.ident 536870913 []) idle).dli.clamped = true ∧
    (after (.ident 536870913 []) idle).dli.usable = some 536870912 := by decide +kernel
theorem meets_IdentWait :
    { idle with power := .off }.power = .off ∧ idle.power ≠ .off ∧ idle.dli.media ≠ .absent ∧
      idle.dli.media = .unknown ∧ { idle.dli with identWait := some 0 }.identWait = some 0 ∧
      Instr.tick ≠ .powerOn ∧
      (after .tick (withMedia { idle with dli := { idle.dli with identWait := none } })).dli.identWait = none := by decide +kernel

/-- Entries recognised and `n` already in the FIFO. -/
def producing (k : EntryKey) (n : Nat) : State :=
  { idle with kps := { idle.kps with due := [press k], fifo := List.replicate n (press (.digit 1)) } }

theorem meets_EntriesPlaced :
    (producing .key 5).power ≠ .off ∧ (producing .key 5).kps.due = [press .key] ∧
      (producing .key 5).kps.fifo.length < 6 ∧ (producing .shiftTap 6).kps.fifo.length = 6 := by decide +kernel
theorem meets_FullFifoMarksOverrun :
    (producing .key 6).power ≠ .off ∧ (producing .key 6).kps.due = [press .key] ∧
      (producing .key 6).kps.fifo = List.replicate 5 (press (.digit 1)) ++ [press (.digit 1)] ∧
      (List.replicate 5 (press (.digit 1))).length = 5 := by decide +kernel

/-- The twelve keys with those of `down` DOWN and the count of position `p` at 2. -/
def matrix (down : List Nat) (p : Nat) (g : Option Group) (h : Option Bool) : State :=
  { idle with kps := { idle.kps with
      keys := (List.range 12).map (fun i => { down := down.contains i, run := if i = p then 2 else 0 }),
      group := g, hold := h } }

theorem meets_ScanRecognises :
    (matrix [] 0 none none).power ≠ .off ∧ (matrix [] 0 none none).kps.scanning = true ∧
    (after (.scan 1) (matrix [] 0 none none)).kps.group = some { lead := 0, shifted := false, chorded := false } ∧
    (after (.scan 0) (matrix [0] 0 (some ⟨0, false, false⟩) none)).kps.due = [press (.digit 1)] ∧
    (after (.scan 3) (matrix [0] 1 (some ⟨0, false, false⟩) none)).kps.group = some ⟨0, false, true⟩ ∧
    (after (.scan 0) (matrix [9] 9 none (some true))).kps.due = [press .shiftTap] ∧
    (after (.scan 0) (matrix [9] 9 none (some false))).kps.due = [] ∧
    (after (.scan 512) (matrix [] 9 none none)).kps.hold = some true ∧
    (after (.scan 513) (matrix [0] 9 (some ⟨0, false, false⟩) none)).kps.hold = some false ∧
    (after (.scan 513) (matrix [9] 0 none (some true))).kps.hold = some false ∧
    { idle.kps with scanning := false }.scanning = false := by decide +kernel
/-- No key recognised DOWN and one still DOWN: the group stays, and none opens; at its close it makes one entry, before a
SHIFT_TAP of the same scan (R102, R103). -/
theorem test_group_stays :
    let g : Group := { lead := 4, shifted := true, chorded := true }
    (after (.scan 1) (matrix [0, 4] 4 (some g) none)).kps.group = some g ∧
    (after (.scan 1) (matrix [0, 4] 4 (some g) none)).kps.due = [] ∧
    (after (.scan 1) (matrix [0] 5 none none)).kps.group = none ∧
    (after (.scan 0) { matrix [4, 9] 4 (some g) (some true) with kps := { (matrix [4, 9] 4 (some g) (some true)).kps with
      keys := (matrix [4, 9] 4 none none).kps.keys.map (fun k => { k with run := 2 }) } }).kps.due =
      [{ key := .digit 5, shifted := true, chord := true, overrun := false }, press .shiftTap] := by decide +kernel
/-- 1 and 5 recognised DOWN at one scan open a chorded group led by 1, and the SHIFT let go at the scan of a key's press
still makes its SHIFT_TAP (R102, notes/assumptions/38.md). -/
theorem test_same_scan :
    let both := { idle with kps := { idle.kps with keys := idle.kps.keys.map (fun k => { k with run := 2 }) } }
    (after (.scan 17) both).kps.group = some { lead := 0, shifted := false, chorded := true } ∧
    (after (.scan 1) { matrix [9] 9 none (some true) with kps := { (matrix [9] 9 none (some true)).kps with
      keys := (matrix [9] 9 none (some true)).kps.keys.map (fun k => { k with run := 2 }) } }).kps.due =
      [press .shiftTap] := by decide +kernel
theorem meets_EntriesEditStack :
    let s := keyed (press (.digit 4)) (stacked (List.replicate 14 1) (inState .lockedEntry))
    let u := keyed (press (.digit 4) true) (inState .adminSession)
    s.TakesEntry (press (.digit 4)) [] ∧ (press (.digit 4)).Is (.digit 4) false ∧ s.ecp.adminTable = false ∧
      s.ac.access.pushes = true ∧ s.ecp.stack.length < 15 ∧ (List.replicate 15 (1 : Digit)).length = 15 ∧
      (inState .settling).ac.access.pushes = false ∧ u.TakesEntry (press (.digit 4) true) [] ∧
      u.ecp.adminTable = true ∧ u.ac.access = .adminSession ∧ (press .shiftTap).Is .shiftTap false := by
  decide +kernel
/-- A sixteenth digit of a command's entry is lost, and the SHIFT_TAP that empties the stack stops the entry timer in
PRESENTED, though not in CHANGE (R107, R108). -/
theorem test_entry_timer :
    let full := { inState .adminSession with ecp := { (inState .adminSession).ecp with command := some 1 } }
    let tap (a : Access) (n : Nat) := (after .shiftTapTaken
      (keyed (press .shiftTap) (stacked (List.replicate n 1) (inState a)))).ecp.timer
    (after .digitTaken (keyed (press (.digit 4)) (stacked (List.replicate 15 1) full))).ecp.overlong = true ∧
    [tap .presented 1, tap .presented 2, tap .blankFirst 1, tap .change 1] = [none, some 100, none, some 100] := by
  decide +kernel
theorem meets_KeySubmits :
    let s := keyed (press .key) (stacked (List.replicate 7 1) (withMedia (inState .lockedEntry)))
    s.TakesEntry (press .key) [] ∧ (press .key).Is .key false ∧ s.ecp.adminTable = false ∧
      s.ac.access = .lockedEntry ∧ 7 ≤ s.ecp.stack.length ∧ s.ecp.overlong = false ∧ s.swu.state = .idle ∧
      s.ks.dev.fields.erasePending = false ∧ s.dli.media = .ok ∧ s.cu.work = .idle ∧
      (inState .adminSession).ecp.adminTable = true ∧ (inState .adminSession).ecp.command = none ∧
      (keyed (press .key) (inState .lockout)).TakesEntry (press .key) [] ∧
      (inState .lockout).ac.access = .lockout ∧ (inState .lockout).ecp.adminTable = false ∧
      (inState .settling).ac.access = .settling ∧ (inState .erasing).ac.access = .erasing ∧
      open1.ac.sessionSlot = some 1 := by decide +kernel
/-- 6 and 7 digits from ENTRY. -/
theorem test_submit_length :
    (after .keyTaken (keyed (press .key) (stacked (List.replicate 6 1) (withMedia (inState .lockedEntry))))).ind.slot =
      some (.verdict .format) ∧
    (after .keyTaken (keyed (press .key) (stacked (List.replicate 7 1) (withMedia (inState .lockedEntry))))).ac.access =
      .lockedVerifying := by decide +kernel
/-- A submission of the wrong length clears the stack and OVERLONG, and so does the session's end (R83, R107). -/
theorem test_submission_clears :
    let s (a : Access) := keyed (press .key) (stacked (List.replicate 15 1) (withMedia (inState a)))
    [Access.lockedEntry, .lockedAdminEntry, .adminSession].map (fun a =>
      let t := after .keyTaken { s a with ecp := { (s a).ecp with overlong := true } }
      (t.ac.access, t.ecp.stack, t.ecp.overlong)) =
      [(.lockedIdle, [], false), (.lockedIdle, [], false), (.lockedIdle, [], false)] := by decide +kernel
/-- An unlocked part on the recovery slot, where a PIN cannot be changed (R92). -/
def openRecovery : State := { open1 with ac := { open1.ac with sessionSlot := some 7 } }

/-- The change asked for on slot 7 is REFUSED, and as a submission it leaves OVERLONG no (R92, R107, R116). -/
theorem test_change_refused_clears :
    let s := keyed (press .key true) { openRecovery with ecp := { openRecovery.ecp with overlong := true } }
    (after .shiftedKeyTaken s).ind.slot = some (.verdict .refused) ∧ (after .shiftedKeyTaken s).ecp.overlong = false ∧
      (after .shiftedKeyTaken s).ac.access = .presented := by decide +kernel

/-- A session with this command pending, these digits and this first entry, KEY at the head of the FIFO. -/
def commanded (cmd : Fin 10) (d : List Digit) (copy : Option (List Digit) := none) : State :=
  let s := keyed (press .key) (stacked d (inState .adminSession))
  { s with ecp := { s.ecp with command := some cmd, copy := copy } }

/-- Every user slot ACTIVE. -/
def noneEmpty (s : State) : State :=
  { s with ks := { s.ks with creds := List.replicate 8 { fields := CredFields.bare .active, check := 0 } } }

theorem meets_PinTakenTwice :
    let pin : List Digit := [1, 2, 3, 4, 5, 6, 8]
    let s := keyed (press .key) (stacked pin (inState .blankFirst))
    let u := { s with ecp := { s.ecp with copy := some pin },
                      ac := { s.ac with access := .change, sessionSlot := some 1 } }
    let c := commanded 1 pin (some pin)
    s.TakesEntry (press .key) [] ∧ s.ecp.adminTable = false ∧ s.ac.access = .blankFirst ∧ s.ecp.copy = none ∧
      7 ≤ s.ecp.stack.length ∧ s.ecp.overlong = false ∧ u.ecp.copy = some u.ecp.stack ∧ u.cu.work = .idle ∧
      u.ac.access = .change ∧ u.ac.sessionSlot.isSome = true ∧ c.TakesEntry (press .key) [] ∧
      c.ecp.adminTable = true ∧ c.ac.access = .adminSession ∧ c.ecp.command = some 1 ∧
      (commanded 6 pin).ecp.command = some 6 ∧ (commanded 7 pin).ecp.command = some 7 ∧
      c.ecp.copy = some c.ecp.stack ∧ c.cu.work = .idle ∧ (c.cred 1).status = .empty ∧ c.cu.overtaken = false ∧
      (∀ i : Fin 8, ((noneEmpty c).cred i).status ≠ .empty) := by decide +kernel
/-- Commands 1, 6 and 7 enrol slots 1, 7 and 0 of an empty key store; with no EMPTY user slot command 1 is REFUSED (R131). -/
theorem test_enrol_targets :
    let pin : List Digit := [1, 2, 3, 4, 5, 6, 8]
    [1, 6, 7].map (fun cmd => (after .keyTaken (commanded cmd pin (some pin))).cu.target) =
      [some 1, some 7, some 0] ∧
    (after .keyTaken (noneEmpty (commanded 1 pin (some pin)))).ind.slot = some (.verdict .refused) := by
  decide +kernel
theorem meets_SettingsCommands :
    let u := commanded 3 [1]
    let c := { keyed (press .key true) u with ecp := { u.ecp with command := some 2 } }
    u.TakesEntry (press .key) [] ∧ u.ecp.adminTable = true ∧ u.ac.access = .adminSession ∧ u.cu.work = .idle ∧
      u.ecp.command = some 3 ∧ u.ecp.stack = [1] ∧ u.ecp.overlong = false ∧ c.TakesEntry (press .key true) [] ∧
      (press .key true).Is .key true ∧ c.ecp.command = some 2 ∧ (c.cred 1).status = .empty ∧ c.cu.overtaken = false ∧
      ((noneEmpty c).cred 1).status ≠ .empty ∧ (commanded 5 [2, 1]).ecp.stack = [2, 1] ∧
      7 ≤ (commanded 9 [1, 2, 3, 4, 5, 6, 8]).ecp.stack.length ∧ (commanded 9 [1]).ecp.stack.length < 7 := by
  decide +kernel
/-- One digit for commands 4 and 5, two digits clamped, and 0 for command 2 from slot 6 down (R114, R132). -/
theorem test_settings :
    [after .keyTaken (commanded 4 [7]), after .keyTaken (commanded 5 [3]), after .keyTaken (commanded 4 [9, 9]),
      after .keyTaken (commanded 5 [2, 1]), after .keyTaken (noneEmpty (commanded 2 [0]))].map
        (fun t => t.ks.queue.map KsReq.body) =
      [[.dev { DevUpdate.none with autoLock := some 7 }], [.dev { DevUpdate.none with limit := some 4 }],
        [.dev { DevUpdate.none with autoLock := some 60 }], [.dev { DevUpdate.none with limit := some 20 }],
        [.cred 6 (CredFields.bare .empty)]] := by decide +kernel
/-- Two digits for commands 3 and 8 are FORMAT, 7 for command 2 is REFUSED (R114). -/
theorem test_settings_malformed :
    [after .keyTaken (commanded 3 [0, 1]), after .keyTaken (commanded 8 [0, 1]), after .keyTaken (commanded 2 [7])].map
      (fun t => t.ind.slot) = [some (.verdict .format), some (.verdict .format), some (.verdict .refused)] := by
  decide +kernel
theorem meets_CompositionGivenUp :
    let e := { press .key with chord := true }
    let s := keyed e (inState .lockedEntry)
    s.power = .running ∧ s.TakesEntry e [] ∧ e.flagged = true ∧ s.ac.access.pushes = true ∧ s.ecp.ready = true ∧
      { s.ecp with timer := some 0 }.timer = some 0 ∧ (keyed e idle).ac.access = .lockedIdle := by decide +kernel
/-- A chorded KEY in PRESENTED gives FORMAT and nothing else: the key stays and no write is asked for (R109). -/
theorem test_flagged :
    let t := after .flaggedEntryTaken (keyed { press .key with chord := true } (stacked [1] open1))
    t.ac.access = .presented ∧ t.ce.key = some 5 ∧ t.ind.slot = some (.verdict .format) ∧ t.ks.queue = [] ∧
      t.cu = open1.cu ∧ t.ecp.stack = [] := by decide +kernel
theorem meets_NoMatchIsCounted :
    let s := verifying .unlock .lockedVerifying
    s.power = .running ∧ s.cu.work = .verify ∧ s.cu.kind = some .unlock ∧ VerifyKind.unlock ≠ .enrol ∧
      s.cu.digits = some [1, 2, 3, 4, 5, 6, 8] ∧ (∀ i, (s.cred i).status ≠ .active) ∧
      s.ks.dev.fields.failures + 1 < s.ks.dev.fields.limit ∧
      (failed 9 s).ks.dev.fields.limit ≤ (failed 9 s).ks.dev.fields.failures + 1 := by
  refine ⟨rfl, rfl, rfl, by decide, rfl, ?_, ?_, ?_⟩ <;> decide +kernel

/-- An ACTIVE record that the digits of `verifying` match, in slot `i` alone. -/
def enrolled (i : Fin 8) (s : State) : State :=
  let f : CredFields :=
    { CredFields.bare .active with
      digitCount := 7, salt := 1, verifier := Config.verifierOf [1, 2, 3, 4, 5, 6, 8] 1 }
  { s with ks := { s.ks with creds := s.ks.creds.set i.val { fields := f, check := 0 } } }

/-- Slot 2 alone would open with the digits of an admin verify, whose set is slot 0. -/
theorem meets_OwnSetOfNoMatchIsCounted :
    let s := enrolled 2 (verifying .admin .lockedAdminVerifying)
    s.cu.kind = some .admin ∧ (s.cred 2).status = .active ∧ ∀ i : Fin 8, VerifyKind.admin = .unlock ∨ i = 0 →
      (s.cred i).status ≠ .active := by
  refine ⟨rfl, rfl, ?_⟩
  rintro i (h | rfl)
  · cases h
  · decide +kernel
/-- A user's PIN opens no admin session: it is counted (R125, R128). -/
theorem test_admin_set :
    (after .verifyEnd (enrolled 2 (verifying .admin .lockedAdminVerifying))).cu.task = .failure 1 := rfl
/-- The count at the attempt limit stays there (R128). -/
theorem test_count_at_limit :
    (after .verifyEnd (failed 10 (verifying .unlock .lockedVerifying))).cu.task = .failure 10 := rfl

/-- The one match of `enrolled`. -/
theorem enrolled_matches (i : Fin 8) (k : VerifyKind) (a : Access) :
    let s := enrolled i (verifying k a)
    (s.cred i).status = .active ∧ (s.cred i).digitCount = ([1, 2, 3, 4, 5, 6, 8] : List Digit).length ∧
      Config.verifierOf [1, 2, 3, 4, 5, 6, 8] (s.cred i).salt = (s.cred i).verifier ∧
      ∀ j, j ≠ i → (s.cred j).status ≠ .active := by
  fin_cases i <;> refine ⟨rfl, rfl, rfl, ?_⟩ <;> intro j <;> fin_cases j <;> intro h <;>
    first | exact absurd rfl h | exact (by decide : CredStatus.empty ≠ .active)

theorem meets_MatchIsReported :
    let s := enrolled 1 (verifying .unlock .lockedVerifying)
    let u := enrolled 0 (verifying .admin .lockedAdminVerifying)
    let e := enrolled 0 (verifying .eraseConfirm .adminSession)
    let gone := { s with dli := { s.dli with media := .absent } }
    s.power = .running ∧ s.PresentationOk ∧ s.TagsOk ∧ s.ActiveOk ∧ s.cu.work = .verify ∧ s.cu.kind = some .unlock ∧
      s.cu.digits = some [1, 2, 3, 4, 5, 6, 8] ∧ ¬ s.UnlockRefused s.ks.dev.fields.lockOnStandby ∧
      gone.UnlockRefused gone.ks.dev.fields.lockOnStandby ∧ s.ac.access = .lockedVerifying ∧
      s.ks.dev.fields.failures = 0 ∧ (failed 2 s).ks.dev.fields.failures ≠ 0 ∧
      ¬ (failed 2 s).UnlockRefused (failed 2 s).ks.dev.fields.lockOnStandby ∧
      u.cu.kind = some .admin ∧ u.PresentationOk ∧ u.ks.dev.fields.failures = 0 ∧ u.ks.dev.fields.rebuilt = false ∧
      (failed 1 u).ks.dev.fields.failures ≠ 0 ∧ e.cu.kind = some .eraseConfirm ∧ e.PresentationOk ∧
      (∀ r ∈ e.dli.requests, r.owner ≠ .sweep) := by
  decide +kernel

/-- An ENROL verify of slot 1 in a session that holds the media key. -/
def enrolling (overtaken : Bool) : State :=
  let s := verifying .enrol .adminSession
  { s with cu := { s.cu with target := some 1, purpose := some .userSlot, sessionKey := some 5, overtaken := overtaken } }

theorem meets_EnrolOfMatchIsReported :
    (enrolling true).power = .running ∧ (enrolling true).cu.work = .verify ∧ (enrolling true).cu.kind = some .enrol ∧
      (enrolling true).cu.target = some 1 ∧ (enrolling true).cu.overtaken = true ∧
      (enrolling false).cu.overtaken = false ∧ (enrolling false).ac.access = .adminSession ∧
      (enrolling false).cu.purpose ≠ some .blank ∧ (enrolling false).cu.purpose ≠ some .change ∧
      (enrolling false).cu.sessionKey = some 5 ∧ (∀ j, ((enrolling false).cred j).status ≠ .active) ∧
      ((enrolled 2 (enrolling false)).cred 2).status = .active ∧ (2 : Fin 8) ≠ 1 := by
  refine ⟨rfl, rfl, rfl, rfl, rfl, rfl, rfl, by decide, by decide, rfl, ?_, rfl, by decide⟩
  decide +kernel
/-- A PIN that opens another slot is REFUSED, and a new one is written to its target (R131). -/
theorem test_enrol :
    (after .verifyEnd (enrolling false)).ks.queue.map KsReq.body =
      [.cred 1 (newRecord [1, 2, 3, 4, 5, 6, 8] 5 0)] := rfl

/-- A CU write of slot 7 in flight, awaited by this task, in VERIFYING. -/
def awaiting (task : CuTask) (a : Access := .lockedVerifying) : State :=
  let s := writing { bySweep := false, body := .cred 7 (CredFields.bare .spent) }
    (.cred 7 { fields := CredFields.bare .spent, check := 0 }) (withMedia (inState a))
  { s with cu := { s.cu with work := .writes, task := task, result := some (.hit 7 5) } }

theorem meets_WriteCompletion :
    (writingDev 3).power = .running ∧
      (writingDev 3).ks.queue = [{ bySweep := false, body := .dev { DevUpdate.none with failures := some 3 } }] ∧
      (writingDev 3).ks.writing = some (.dev { fields := { DevFields.defaults with failures := 3 }, check := 0 }) ∧
      (writingDev 3).cu.task = .failure 3 ∧
      writingCred.ks.writing = some (.cred 2 { fields := CredFields.bare .empty, check := 0 }) := by decide +kernel
theorem meets_TasksOfWriteCompletion :
    let f := CredFields.bare .active
    let s := awaiting (.spendRecovery f)
    let gone := { s with ac := { s.ac with lossSeen := true } }
    (failed 2 s).cu.task = .spendRecovery f ∧ (failed 2 s).ks.dev.fields.failures ≠ 0 ∧
      s.ks.dev.fields.failures = 0 ∧ ¬ s.UnlockRefused s.ks.dev.fields.lockOnStandby ∧
      s.cu.result = some (.hit 7 5) ∧ gone.UnlockRefused gone.ks.dev.fields.lockOnStandby ∧
      (awaiting (.zeroFailures 2 (some f))).cu.task = .zeroFailures 2 (some f) ∧
      (awaiting (.restoreFailures none)).cu.task = .restoreFailures none ∧
      (awaiting .adminMatch .lockedAdminVerifying).cu.result = some (.hit 7 5) ∧
      (awaiting .enrol .blankRepeat).ac.access = .blankRepeat ∧ (awaiting .enrol .change).ac.access = .change ∧
      (awaiting (.clear []) .adminSession).cu.overtaken = false ∧
      (awaiting (.stage (.slot 0)) .erasing).cu.task = .stage (.slot 0) := by decide +kernel
/-- A PIN handed over during the rebuild write is verified at its end; with none waiting the CU is idle (R165). -/
theorem test_rebuild_end :
    let s := awaiting .rebuild
    let u := { s with cu := { s.cu with waiting := some (.unlock [1, 2, 3, 4, 5, 6, 8]) } }
    s.cu.waiting = none ∧ (after .ksWriteComplete s).cu.work = .idle ∧ (after .ksWriteComplete u).cu.work = .verify ∧
      (after .ksWriteComplete u).cu.digits = some [1, 2, 3, 4, 5, 6, 8] ∧ (after .ksWriteComplete u).cu.waiting = none :=
  ⟨rfl, rfl, rfl, rfl, rfl⟩
theorem meets_RebuildOfWriteCompletion :
    let s := awaiting .rebuild
    let w (h : Handover) := { s with cu := { s.cu with waiting := some h } }
    s.cu.task = .rebuild ∧ (w (.enrol .userSlot [1])).cu.waiting = some (.enrol .userSlot [1]) ∧
      ((after .ksWriteComplete (w (.enrol .userSlot [1]))).cred 1).status = .empty ∧
      (w (.setting DevUpdate.none)).cu.waiting = some (.setting DevUpdate.none) ∧
      ((after .ksWriteComplete (w (.clear [7, 1]))).cred 7).status ≠ .empty ∧
      ((after .ksWriteComplete (w (.clear [7, 1]))).cred 1).status = .empty := by
  refine ⟨rfl, rfl, rfl, rfl, ?_, rfl⟩
  exact fun h => CredStatus.noConfusion h
theorem meets_SweepOfWriteCompletion :
    let q := { bySweep := true, body := .dev { DevUpdate.none with cursor := some (some 16) } }
    let w := { sweeping.swu with cursor := some 16, discardOut := false, writeOut := true }
    let s := writing q (q.body.content idle.ks) { sweeping with swu := w, dli := { sweeping.dli with slots := [] } }
    let n : KsReq := { bySweep := true, body := .dev { DevUpdate.none with cursor := some none } }
    s.power = .running ∧ s.ks.queue = [q] ∧ s.swu.hold = false ∧ q.body.isNone = false ∧ n.body.isNone = true ∧
      s.swu.discardOut = false ∧ s.swu.cursor = some 16 ∧ s.dli.usable = some 40 ∧ s.dli.media = .ok ∧
      { w with hold := true, state := .paused }.state ≠ .issuing := by decide +kernel
theorem meets_FinalOfWriteCompletion :
    let s := awaiting (.stage .final) .erasing
    s.power = .running ∧ s.cu.task = .stage .final ∧ s.swu.discardOut = false ∧ s.swu.writeOut = false ∧ s.userOps = 0 ∧
      s.txns = [] ∧ s.dli.media = .ok ∧ s.dli.usable = some 40 := by decide +kernel
/-- The new pass asks for its first window at once, or waits PAUSED for the media (R141, R142). -/
theorem test_new_pass :
    let s := awaiting (.stage .final) .erasing
    (after .ksWriteComplete s).dli.slots.map Slot.op = [.discard 0 40] ∧
    (after .ksWriteComplete { s with dli := { s.dli with media := .absent } }).swu.state = .paused := ⟨rfl, rfl⟩
/-- A recovery match whose unlock is refused at the second query gives the slot its former record back and reports only
then; one still allowed opens the drive (R127). -/
theorem test_second_query :
    let s := awaiting (.spendRecovery (CredFields.bare .active))
    let gone := { s with ac := { s.ac with lossSeen := true } }
    (after .ksWriteComplete s).ac.access = .settling ∧ (after .ksWriteComplete s).ce.key = some 5 ∧
      (after .ksWriteComplete gone).ac.access = .lockedVerifying ∧
      (after .ksWriteComplete gone).ks.queue.map KsReq.body = [.cred 7 (CredFields.bare .active)] ∧
      (after .ksWriteComplete (after .ksWriteComplete gone)).ac.access = .lockedIdle ∧
      (after .ksWriteComplete (after .ksWriteComplete gone)).ind.slot = some (.verdict .refused) := by
  refine ⟨rfl, rfl, rfl, rfl, rfl, rfl⟩
/-- f = 2, 3, 9 and 10 under the default attempt limit (R87). -/
theorem test_failure_boundaries :
    [2, 3, 9, 10].map (fun f => (after .ksWriteComplete (writingDev f)).ac.access) =
      [.lockedIdle, .lockout, .lockout, .erasing] := by decide +kernel
theorem meets_ThrottleDelay :
    (writingDev 3).power = .running ∧ (writingDev 3).cu.task = .failure 3 ∧ 3 < DevFields.defaults.limit ∧
      DevFields.defaults.limit ≤ 10 ∧ (inState .lockout).ac.access = .lockout ∧ State.reset.power = .reading ∧
      State.reset.uli.link = [] ∧ (DevRecord.seal { DevFields.defaults with failures := 3 }).passes = true ∧
      (CredRecord.seal (CredFields.bare .active)).passes = true := by
  refine ⟨rfl, rfl, by decide, by decide, rfl, rfl, rfl, ?_, ?_⟩ <;>
    simp [DevRecord.passes, DevRecord.seal, CredRecord.passes, CredRecord.seal]
theorem meets_TimerExpiries :
    (inState .settling).power = .running ∧ (inState .settling).PresentationOk ∧ (inState .lockout).PresentationOk ∧
      (inState .adminSession).PresentationOk ∧ { idle.ac with settle := some 0 }.settle = some 0 := by decide +kernel
theorem meets_BriefPatterns :
    let i := { idle.ind with slot := some (.verdict .accept), pendingVerdict := some .reject, rest := some 0 }
    idle.power ≠ .off ∧ i.remaining = 0 ∧ i.slot = some (.verdict .accept) ∧ i.pendingVerdict = some .reject ∧
      i.rest = some 0 ∧ 0 < Pattern.sweep.period ∧ Pattern.baseRed.period = 0 := by decide +kernel
theorem meets_VerdictsOfBriefPatterns :
    let e := { press .key with chord := true }
    let s := keyed e (inState .lockedEntry)
    let u := awaiting .restoreRecovery
    let v := { u with ac := { u.ac with standby := true } }
    s.TakesEntry e [] ∧ e.flagged = true ∧ s.ac.access.pushes = true ∧ s.ind.slot = none ∧
      u.power = .running ∧ u.ks.queue = [{ bySweep := false, body := .cred 7 (CredFields.bare .spent) }] ∧
      u.ks.writing = some (.cred 7 { fields := CredFields.bare .spent, check := 0 }) ∧
      u.cu.task = .restoreRecovery ∧ u.ac.standby = false ∧ v.ac.standby = true := by decide +kernel
/-- A verdict takes ACTIVITY's place, waits behind a verdict, and is held in standby (R99, R156). -/
theorem test_verdicts :
    let f (b : Option Brief) (sb : Bool) :=
      let u := awaiting .restoreRecovery
      let t := after .ksWriteComplete
        { u with ac := { u.ac with standby := sb }, ind := { u.ind with slot := b, remaining := 1 } }
      (t.ind.slot, t.ind.remaining, t.ind.pendingVerdict, t.ac.held)
    f (some .activity) false = (some (.verdict .refused), 15, none, none) ∧
    f (some (.verdict .accept)) false = (some (.verdict .accept), 1, some .refused, none) ∧
    f none true = (none, 1, none, some .refused) := by decide +kernel
/-- The LED lines: the dark flicker of ACTIVITY, REJECT's third flash, FAULT's blue half and the green base (R153, R154). -/
theorem test_leds :
    let s := { idle with ind := { idle.ind with pattern := .brief } }
    ({ s with ind := { s.ind with slot := some .activity } } : State).leds = Leds.dark ∧
    ({ s with ind := { s.ind with slot := some (.verdict .reject), remaining := 6 } } : State).leds =
      { red := true, green := false, blue := false } ∧
    ({ s with ind := { s.ind with slot := some (.verdict .reject), remaining := 5 } } : State).leds = Leds.dark ∧
    ({ s with ind := { s.ind with pattern := .fault, elapsed := 250 } } : State).leds =
      { red := false, green := false, blue := true } ∧
    ({ s with ind := { s.ind with pattern := .baseGreen } } : State).leds =
      { red := false, green := true, blue := false } := by decide
theorem meets_LedsOfBriefPatterns :
    let s := { idle with ind := { idle.ind with
      slot := some (.verdict .accept), remaining := 15, shown := .verdict, pattern := .brief } }
    s.power ≠ .off ∧ s.PatternOk ∧ s.ind.shown = .verdict ∧ s.ind.slot = some (.verdict .accept) := by
  refine ⟨by decide, ⟨⟨fun h => (by cases h), ?_⟩, rfl, .inl rfl⟩, rfl, rfl⟩
  rintro ⟨b, x, hb, hx, hp⟩
  cases hb
  cases x with
  | fault => exact absurd hx.2 (by decide)
  | verdict => exact absurd hp (by decide)
  | _ => exact absurd hp (by decide)
theorem meets_UnitSplitAndPercent :
    1 ≤ 20 ∧ 1000005 / 8 ≤ 125000 ∧ 125003 ≤ (1000005 + 20 - 1) / 8 ∧ 0 < 32768 ∧ 12288 ≤ 32768 ∧
      2 * (100 * 12288 % 32768) = 32768 := by decide +kernel

end Sys2Proof.Tests
end

/-! PROOF. ABORT and the refusals with REQUEST_FAULT: what a failure and the closure of an event leave of the table, the
refusal queue and the records sent, and obligation O26 from it. -/

namespace Sys2Proof.Machine

open Sys2Proof

/-! ## A record without what an allocation advances -/

@[simp] theorem Txn.fixedPart_tag (x : Txn) : x.fixedPart.tag = x.tag := rfl
@[simp] theorem Txn.fixedPart_failure (x : Txn) : x.fixedPart.failure = x.failure := rfl
@[simp] theorem Txn.fixedPart_phase (x : Txn) : x.fixedPart.phase = x.phase := rfl

/-- Records of one fixed part agree on the tag, the failure and the phase. -/
theorem Txn.fields_of_fixedPart_eq {x y : Txn} (h : y.fixedPart = x.fixedPart) :
    y.tag = x.tag ∧ y.failure = x.failure ∧ y.phase = x.phase := by
  rw [← y.fixedPart_tag, ← y.fixedPart_failure, ← y.fixedPart_phase, h]
  exact ⟨rfl, rfl, rfl⟩

/-- The tags of a table are those of its records' fixed parts. -/
theorem tags_of_fixedPart (l : List Txn) : (l.map Txn.fixedPart).map Txn.tag = l.map Txn.tag := by
  simp [List.map_map, Function.comp_def]

/-- The record of a tag is found by the fixed parts alone. -/
theorem State.txn?_fixedPart (s : State) (t : Fin 16) :
    (s.txn? t).map Txn.fixedPart = (s.txns.map Txn.fixedPart).find? (fun x => x.tag == t) := by
  rw [List.find?_map]
  rfl

/-! ## Changing the record of a tag -/

/-- What a change of one record does to the table. -/
theorem updTxn_txns (t : Fin 16) (f : Txn → Txn) (s : State) :
    (updTxn t f s).txns = s.txns.map (fun x => if x.tag = t then f x else x) := rfl

/-- A change that keeps each tag keeps the tags of the table, in their order (R21). -/
theorem updTxn_tags (t : Fin 16) {f : Txn → Txn} (hf : ∀ x, (f x).tag = x.tag) (s : State) :
    (updTxn t f s).txns.map Txn.tag = s.txns.map Txn.tag := by
  rw [updTxn_txns, List.map_map]
  refine List.map_congr_left fun x _ => ?_
  by_cases h : x.tag = t <;> simp [h, hf]

/-- The changed record stands on its tag. -/
theorem updTxn_txn? (t : Fin 16) {f : Txn → Txn} (hf : ∀ x, (f x).tag = x.tag) (s : State) :
    (updTxn t f s).txn? t = (s.txn? t).map f := by
  have hfind : ((fun x : Txn => x.tag == t) ∘ fun x => if x.tag = t then f x else x) = fun x => x.tag == t := by
    funext x
    by_cases h : x.tag = t <;> simp [h, hf]
  unfold State.txn?
  rw [updTxn_txns, List.find?_map, hfind]
  cases hx : s.txns.find? (fun x => x.tag == t) with
  | none => rfl
  | some x =>
    have htag : x.tag = t := by simpa using List.find?_some hx
    simp [htag]

/-- A record on another tag stays as it was. -/
theorem mem_updTxn_of_ne {t : Fin 16} {x : Txn} {s : State} (f : Txn → Txn) (hx : x ∈ s.txns) (ht : x.tag ≠ t) :
    x ∈ (updTxn t f s).txns :=
  List.mem_map.2 ⟨x, hx, if_neg ht⟩

/-- A further change of one record is one change with the first, where the first keeps the tag. -/
theorem updTxn_txns_trans {t : Fin 16} {g : Txn → Txn} {s u : State} (h : u.txns = (updTxn t g s).txns)
    (hg : ∀ x, (g x).tag = x.tag) (f : Txn → Txn) : (updTxn t f u).txns = (updTxn t (f ∘ g) s).txns := by
  simp only [updTxn_txns, h, List.map_map]
  refine List.map_congr_left fun x _ => ?_
  by_cases hx : x.tag = t <;> simp [hx, hg]

/-- A change that leaves each record's fixed part leaves the table's. -/
theorem updTxn_fixedPart (t : Fin 16) {f : Txn → Txn} (hf : ∀ x, (f x).fixedPart = x.fixedPart) (s : State) :
    (updTxn t f s).txns.map Txn.fixedPart = s.txns.map Txn.fixedPart := by
  rw [updTxn_txns, List.map_map]
  refine List.map_congr_left fun x _ => ?_
  by_cases h : x.tag = t <;> simp [h, hf]

/-- A change by the identity leaves the table. -/
theorem updTxn_id_txns (t : Fin 16) (s : State) : (updTxn t id s).txns = s.txns := by
  simp [updTxn_txns]

/-! ## A failure (R24, R60) -/

/-- The disposal of the jobs lowers the jobs held of their record by those that leave it, and changes nothing else of the
table (R44, R60). -/
theorem disposeJobs_txns (t : Fin 16) (s : State) :
    (disposeJobs t s).txns =
      (releaseHeld t ((s.ubp.jobs.filter (fun j => j.isOf t)).filter (fun j => j.leavesAtFailure)).length s).txns := by
  simp [disposeJobs, releaseHeld, updTxn_txns]

/-- What a failure does to the work of a transaction lowers its record's jobs held at most, and changes nothing else of the
table. -/
theorem disposeWork_txns (x : Txn) (s : State) : ∃ n, (disposeWork x s).txns = (releaseHeld x.tag n s).txns := by
  have hnone : s.txns = (releaseHeld x.tag 0 s).txns := (updTxn_id_txns x.tag s).symm
  unfold disposeWork
  split
  · exact ⟨0, by simpa using hnone⟩
  · split
    · exact ⟨_, by simpa using disposeJobs_txns x.tag s⟩
    · exact ⟨0, hnone⟩

/-- A failure changes the record of its tag alone, keeps the tag, and is recorded where that record is ACTIVE with none
recorded (R24). -/
theorem failTxn_txns (t : Fin 16) (f : Failure) (s : State) :
    ∃ g : Txn → Txn, (∀ y, (g y).tag = y.tag) ∧ (failTxn t f s).txns = (updTxn t g s).txns ∧
      ∀ x, s.txn? t = some x → x.phase = .active → x.failure = none → (g x).failure = some f := by
  unfold failTxn setDone
  split
  next hnone => exact ⟨id, fun _ => rfl, (updTxn_id_txns t s).symm, by simp [hnone]⟩
  next x hx =>
    have htag : x.tag = t := by simpa using List.find?_some hx
    dsimp only
    split
    next hkept =>
      refine ⟨id, fun _ => rfl, (updTxn_id_txns t s).symm, fun y hy hactive hfresh => ?_⟩
      cases hx.symm.trans hy
      simp [hactive, hfresh] at hkept
    next =>
      obtain ⟨n, hn⟩ := disposeWork_txns x (updTxn t (fun y => { y with failure := some f, flushMark := none }) s)
      rw [htag] at hn
      -- `by` puts off each side condition until the change it speaks of has been found by unification
      have hdisposed := hn.trans (updTxn_txns_trans (by rfl) (by exact fun _ => rfl) _)
      split
      all_goals exact ⟨_, by exact fun _ => rfl, updTxn_txns_trans hdisposed (by exact fun _ => rfl) _,
        by exact fun _ _ _ _ => rfl⟩

/-- A failure's disposal neither queues a refusal nor sends a record. -/
theorem disposeWork_refusals_sent (x : Txn) (s : State) :
    (disposeWork x s).uli.refusals = s.uli.refusals ∧ (disposeWork x s).uli.sent = s.uli.sent := by
  unfold disposeWork withdrawWanted
  split
  · simp
  · split
    · split <;> simp [freeOutput, closeIntake]
    · exact ⟨rfl, rfl⟩

/-- A failure neither queues a refusal nor sends a record. -/
theorem failTxn_refusals_sent (t : Fin 16) (f : Failure) (s : State) :
    (failTxn t f s).uli.refusals = s.uli.refusals ∧ (failTxn t f s).uli.sent = s.uli.sent := by
  unfold failTxn
  split
  · exact ⟨rfl, rfl⟩
  · dsimp only
    split
    · exact ⟨rfl, rfl⟩
    · split <;> simp [disposeWork_refusals_sent]

/-! ## The closure of an event -/

/-- A unit job's start advances the next unit and the jobs held of its record, and nothing else of the table (R47). -/
theorem startJob_fixedPart (b : Fin 8) (x : Txn) (u : Nat) (s : State) :
    (startJob b x u s).txns.map Txn.fixedPart = s.txns.map Txn.fixedPart := by
  have hadvance (s1 : State) :
      (updTxn x.tag (fun y => { y with nextUnit := some (u + 1), jobsHeld := y.jobsHeld + 1 }) s1).txns.map
        Txn.fixedPart = s1.txns.map Txn.fixedPart := updTxn_fixedPart _ (by exact fun _ => rfl) s1
  unfold startJob
  dsimp only
  split <;> simp [hadvance]

/-- Allocation leaves the fixed part of every record (R46, R47). -/
theorem allocate_fixedPart (n : Nat) (s : State) :
    (allocate n s).txns.map Txn.fixedPart = s.txns.map Txn.fixedPart := by
  induction n generalizing s with
  | zero => rfl
  | succ n ih =>
    unfold allocate
    split
    · rw [ih, startJob_fixedPart]
    · rfl

/-- The closure of an event leaves the fixed part of every record. -/
theorem settle_fixedPart (s : State) : (settle s).txns.map Txn.fixedPart = s.txns.map Txn.fixedPart := by
  simp [settle, allocate_fixedPart]

/-- The grant of the upstream output neither queues a refusal nor sends a record (R29). -/
theorem grant_refusals_sent (s : State) :
    (grant s).uli.refusals = s.uli.refusals ∧ (grant s).uli.sent = s.uli.sent := by
  unfold grant
  split <;> simp

/-- The closure of an event neither queues a refusal nor sends a record. -/
theorem settle_refusals_sent (s : State) :
    (settle s).uli.refusals = s.uli.refusals ∧ (settle s).uli.sent = s.uli.sent := by
  simp [settle, grant_refusals_sent]

/-! ## Requests taken as they arrive (R18, R34) -/

/-- A request that nothing holds back is taken as it arrives (R19, R163). -/
theorem requestArrives_of_takesRequests {s : State} (h : s.TakesRequests) (r : Request) :
    requestArrives r s = settle (takeRequest r s) := by
  obtain ⟨hpower, hfree⟩ := h
  simp [requestArrives, hpower, hfree]

/-- An ABORT with a tag of 0 to 15 fails the transaction on its tag (R34). -/
theorem takeRequest_abort {tag : Byte} (h : tag.toNat ≤ 15) (lba : BitVec 32) (count : BitVec 16) (s : State) :
    takeRequest { kind := 6, tag := tag, lba := lba, count := count } s = failTxn (tagOf tag) .aborted s := by
  have hvalid : Request.valid { kind := 6, tag := tag, lba := lba, count := count } = true := by
    simp [Request.valid, Request.isTransfer, h]
  unfold takeRequest
  rw [hvalid]
  rfl

/-- A request that is no transfer and fails check 1 of R18 is refused with REQUEST_FAULT. -/
theorem takeRequest_of_invalid {r : Request} (htransfer : r.isTransfer = false) (hvalid : r.valid = false) (s : State) :
    takeRequest r s = refuse r .requestFault s := by
  simp [takeRequest, htransfer, hvalid]

/-- A tag above 15 fails check 1 of R18. -/
theorem Request.valid_of_tag {r : Request} (h : 15 < r.tag.toNat) : r.valid = false := by
  simp [Request.valid, Nat.not_le.2 h]

/-- An unknown kind fails check 1 of R18. -/
theorem Request.valid_of_unknownKind {r : Request} (h : unknownKind r.kind = true) : r.valid = false := by
  simp only [unknownKind, Bool.or_eq_true, beq_iff_eq, decide_eq_true_eq] at h
  obtain hzero | habove := h
  · simp [Request.valid, hzero]
  · simp [Request.valid, Nat.not_le.2 habove]

/-- An unknown kind is neither READ's nor WRITE's (R171). -/
theorem Request.isTransfer_of_unknownKind {r : Request} (h : unknownKind r.kind = true) : r.isTransfer = false := by
  have hread : r.kind ≠ 1 := fun hkind => by simp [unknownKind, hkind] at h
  have hwrite : r.kind ≠ 2 := fun hkind => by simp [unknownKind, hkind] at h
  simpa [Request.isTransfer] using ⟨hread, hwrite⟩

/-- A request that is no transfer and fails check 1 of R18 joins the refusal queue with REQUEST_FAULT and a residue of 0,
and the access control is as it was (R18, R19, R95). -/
theorem requestArrives_of_invalid {s : State} (h : s.TakesRequests) {r : Request} (htransfer : r.isTransfer = false)
    (hvalid : r.valid = false) :
    (requestArrives r s).uli.refusals = s.uli.refusals ++
        [{ tag := r.tag, outcome := .requestFault, detail := r.kind, residue := 0, payload := .none }] ∧
      (requestArrives r s).ac = s.ac := by
  rw [requestArrives_of_takesRequests h, takeRequest_of_invalid htransfer hvalid]
  simp [settle_refusals_sent, refuse, Request.refusal, htransfer]

/-! ## ABORT (R33, R34) -/

/-- A failure followed by the closure of its event keeps the tags of the table, is recorded where the record of its tag is
ACTIVE with none recorded, and reaches no other record (R24, R34). -/
theorem settle_failTxn_table (t : Fin 16) (f : Failure) (s : State) :
    (settle (failTxn t f s)).txns.map Txn.tag = s.txns.map Txn.tag ∧
      (∀ x, s.txn? t = some x → x.phase = .active → x.failure = none →
        ∃ y, (settle (failTxn t f s)).txn? t = some y ∧ y.failure = some f) ∧
      ∀ x ∈ s.txns, x.tag ≠ t →
        ∃ y ∈ (settle (failTxn t f s)).txns, y.tag = x.tag ∧ y.failure = x.failure ∧ y.phase = x.phase := by
  obtain ⟨g, hg, htable, hfails⟩ := failTxn_txns t f s
  have hfixed : (settle (failTxn t f s)).txns.map Txn.fixedPart = (updTxn t g s).txns.map Txn.fixedPart := by
    rw [settle_fixedPart, htable]
  refine ⟨?_, fun x hx hactive hfresh => ?_, fun x hx hother => ?_⟩
  · rw [← tags_of_fixedPart, hfixed, tags_of_fixedPart, updTxn_tags t hg]
  · have hrecord : ((settle (failTxn t f s)).txn? t).map Txn.fixedPart = some (g x).fixedPart := by
      rw [State.txn?_fixedPart, hfixed, ← State.txn?_fixedPart, updTxn_txn? t hg, hx]
      rfl
    obtain ⟨y, hy, hsame⟩ := Option.map_eq_some_iff.1 hrecord
    obtain ⟨-, hfailure, -⟩ := Txn.fields_of_fixedPart_eq hsame
    exact ⟨y, hy, hfailure.trans (hfails x hx hactive hfresh)⟩
  · have hmem : x.fixedPart ∈ (settle (failTxn t f s)).txns.map Txn.fixedPart := by
      rw [hfixed]
      exact List.mem_map_of_mem (mem_updTxn_of_ne g hx hother)
    obtain ⟨y, hy, hsame⟩ := List.mem_map.1 hmem
    exact ⟨y, hy, Txn.fields_of_fixedPart_eq hsame⟩

/-- Settles O26: an ABORT with a tag of 0 to 15 is a failure on that tag and the closure of its event, neither of which
queues a refusal or sends a record; the other requests are refused by check 1 of R18. -/
theorem abortIsNotAnswered : Obligations.AbortIsNotAnswered := by
  intro s tag lba count htakes
  refine ⟨fun htag => ⟨_, rfl, ?_⟩, fun htag => ⟨_, rfl, ?_⟩, fun kind hkind => ⟨_, rfl, ?_⟩⟩
  · rw [requestArrives_of_takesRequests htakes, takeRequest_abort htag]
    obtain ⟨htags, hfails, hothers⟩ := settle_failTxn_table (tagOf tag) .aborted s
    obtain ⟨hrefusals, hsent⟩ := failTxn_refusals_sent (tagOf tag) .aborted s
    obtain ⟨hclosedRefusals, hclosedSent⟩ := settle_refusals_sent (failTxn (tagOf tag) .aborted s)
    exact ⟨htags, hclosedRefusals.trans hrefusals, hclosedSent.trans hsent, by simp, hfails, hothers⟩
  · exact requestArrives_of_invalid htakes rfl (Request.valid_of_tag htag)
  · exact requestArrives_of_invalid htakes (Request.isTransfer_of_unknownKind hkind) (Request.valid_of_unknownKind hkind)

end Sys2Proof.Machine

/-! PROOF. The media condition and the IDENT wait: what every operation of the model but the media events, the tick and
the loss of power leaves of them, and obligation O45 from it. -/

namespace Sys2Proof.Machine

open Sys2Proof

/-! ## The DLI without its traffic -/

/-- What the DLI knows of the media: the condition, P, U, the capacity-clamped flag and the IDENT wait (R70, R71). The
operations in progress and the log of frames sent are left out. -/
def Dli.mediaPart (d : Dli) : Dli := { d with slots := [], requests := [], errors := [], sent := [] }

@[simp] theorem Dli.mediaPart_media (d : Dli) : d.mediaPart.media = d.media := rfl
@[simp] theorem Dli.mediaPart_usable (d : Dli) : d.mediaPart.usable = d.usable := rfl
@[simp] theorem Dli.mediaPart_identWait (d : Dli) : d.mediaPart.identWait = d.identWait := rfl

/-- A change of the traffic is none of the media part. -/
@[simp] theorem Dli.mediaPart_traffic (d : Dli) (slots : List Slot) (requests : List DReq) (errors : List PendingError)
    (sent : List DownRecord) :
    Dli.mediaPart { d with slots := slots, requests := requests, errors := errors, sent := sent } = d.mediaPart := rfl

/-- DLIs of one media part agree on the condition, U and the IDENT wait. -/
theorem Dli.fields_of_mediaPart_eq {d e : Dli} (h : e.mediaPart = d.mediaPart) :
    e.media = d.media ∧ e.usable = d.usable ∧ e.identWait = d.identWait := by
  rw [← e.mediaPart_media, ← e.mediaPart_usable, ← e.mediaPart_identWait, h]
  exact ⟨rfl, rfl, rfl⟩

/-! ## Requests, issues and withdrawals change the traffic alone -/

@[simp] theorem sendDown_mediaPart (r : DownRecord) (s : State) :
    (sendDown r s).dli.mediaPart = s.dli.mediaPart := rfl

@[simp] theorem makeRequest_mediaPart (op : DOp) (o : Owner) (s : State) :
    (makeRequest op o s).dli.mediaPart = s.dli.mediaPart := by
  unfold makeRequest
  split <;> rfl

@[simp] theorem requestRead_mediaPart (b : Fin 8) (u : Nat) (s : State) :
    (requestRead b u s).dli.mediaPart = s.dli.mediaPart := by
  simp [requestRead]

@[simp] theorem requestWrite_mediaPart (b : Fin 8) (u : Nat) (s : State) :
    (requestWrite b u s).dli.mediaPart = s.dli.mediaPart := by
  simp [requestWrite]

@[simp] theorem requestSync_mediaPart (t : Fin 16) (s : State) :
    (requestSync t s).dli.mediaPart = s.dli.mediaPart := makeRequest_mediaPart ..

@[simp] theorem withdrawJobs_mediaPart (l : List (Fin 8)) (s : State) :
    (withdrawJobs l s).dli.mediaPart = s.dli.mediaPart := rfl

@[simp] theorem withdrawSync_mediaPart (t : Fin 16) (s : State) :
    (withdrawSync t s).dli.mediaPart = s.dli.mediaPart := rfl

@[simp] theorem issue_mediaPart (d : Fin 4) (r : DReq) (s : State) :
    (issue d r s).dli.mediaPart = s.dli.mediaPart := by
  simp [issue]

@[simp] theorem issueAll_mediaPart (n : Nat) (s : State) :
    (issueAll n s).dli.mediaPart = s.dli.mediaPart := by
  induction n generalizing s with
  | zero => rfl
  | succ n ih => unfold issueAll; split <;> simp [ih]

/-! ## Failures and the ends of jobs -/

@[simp] theorem disposeJobs_mediaPart (t : Fin 16) (s : State) :
    (disposeJobs t s).dli.mediaPart = s.dli.mediaPart := by
  simp [disposeJobs]

@[simp] theorem disposeWork_mediaPart (x : Txn) (s : State) :
    (disposeWork x s).dli.mediaPart = s.dli.mediaPart := by
  unfold disposeWork
  split
  · simp
  · split <;> simp

@[simp] theorem failTxn_mediaPart (t : Fin 16) (f : Failure) (s : State) :
    (failTxn t f s).dli.mediaPart = s.dli.mediaPart := by
  unfold failTxn
  split
  · rfl
  · dsimp only
    split
    · rfl
    · split <;> simp

@[simp] theorem failVolume_mediaPart (v : TxVolume) (f : Failure) (s : State) :
    (failVolume v f s).dli.mediaPart = s.dli.mediaPart :=
  foldl_keeps (fun s => s.dli.mediaPart) _ (fun s (x : Txn) => failTxn_mediaPart x.tag f s) _ s

@[simp] theorem syncIfUnmarked_mediaPart (t : Fin 16) (s : State) :
    (syncIfUnmarked t s).dli.mediaPart = s.dli.mediaPart := by
  unfold syncIfUnmarked
  split
  · split <;> simp
  · rfl

@[simp] theorem leaveMarks_mediaPart (b : Fin 8) (s : State) :
    (leaveMarks b s).dli.mediaPart = s.dli.mediaPart :=
  foldl_keeps (fun s => s.dli.mediaPart) _ (fun s t => syncIfUnmarked_mediaPart t s) _ _

@[simp] theorem syncEnd_mediaPart (t : Fin 16) (ok : Bool) (s : State) :
    (syncEnd t ok s).dli.mediaPart = s.dli.mediaPart := by
  unfold syncEnd
  split
  · rfl
  · split
    · split <;> simp
    · simp
    · rfl

@[simp] theorem endAbandoned_mediaPart (j : Job) (op : DOp) (s : State) :
    (endAbandoned j op s).dli.mediaPart = s.dli.mediaPart := by
  unfold endAbandoned
  split <;> simp

@[simp] theorem readEnd_mediaPart (j : Job) (ok : Bool) (page : List Byte) (s : State) :
    (readEnd j ok page s).dli.mediaPart = s.dli.mediaPart := by
  unfold readEnd
  split <;> simp

@[simp] theorem writeEnd_mediaPart (j : Job) (ok : Bool) (s : State) :
    (writeEnd j ok s).dli.mediaPart = s.dli.mediaPart := by
  unfold writeEnd
  split <;> simp

@[simp] theorem jobCompletion_mediaPart (b : Fin 8) (op : DOp) (ok : Bool) (page : List Byte) (s : State) :
    (jobCompletion b op ok page s).dli.mediaPart = s.dli.mediaPart := by
  unfold jobCompletion
  split
  · rfl
  · split
    · split <;> simp
    · split <;> simp

@[simp] theorem emptyTable_mediaPart (s : State) : (emptyTable s).dli.mediaPart = s.dli.mediaPart := rfl

@[simp] theorem cipherEnd_mediaPart (s : State) : (cipherEnd s).dli.mediaPart = s.dli.mediaPart := by
  unfold cipherEnd
  split
  · dsimp only
    split <;> simp
  · rfl

/-! ## The sweep -/

@[simp] theorem requestWindow_mediaPart (c u : Nat) (s : State) :
    (requestWindow c u s).dli.mediaPart = s.dli.mediaPart := by
  simp [requestWindow]

@[simp] theorem makeDue_mediaPart (s : State) : (makeDue s).dli.mediaPart = s.dli.mediaPart := by
  unfold makeDue
  split
  · rfl
  · split
    · simp
    · split
      · split <;> simp
      · simp

@[simp] theorem afterAdvance_mediaPart (c : Nat) (skipped : Bool) (s : State) :
    (afterAdvance c skipped s).dli.mediaPart = s.dli.mediaPart := by
  unfold afterAdvance
  split
  · simp
  · split <;> simp

@[simp] theorem windowResult_mediaPart (r : WindowResult) (n : Nat) (s : State) :
    (windowResult r n s).dli.mediaPart = s.dli.mediaPart := by
  unfold windowResult
  dsimp only
  split
  · simp
  · split <;> simp

@[simp] theorem cursorWritten_mediaPart (wasNone : Bool) (s : State) :
    (cursorWritten wasNone s).dli.mediaPart = s.dli.mediaPart := by
  unfold cursorWritten
  dsimp only
  split
  · simp
  · split <;> simp

@[simp] theorem eraseHold_mediaPart (s : State) : (eraseHold s).dli.mediaPart = s.dli.mediaPart := by
  unfold eraseHold
  dsimp only
  split <;> rfl

@[simp] theorem releaseHold_mediaPart (s : State) : (releaseHold s).dli.mediaPart = s.dli.mediaPart := by
  unfold releaseHold
  split <;> simp

@[simp] theorem sweepReportOk_mediaPart (s : State) : (sweepReportOk s).dli.mediaPart = s.dli.mediaPart := by
  unfold sweepReportOk
  split <;> simp

/-! ## The closure of an event -/

@[simp] theorem startJob_mediaPart (b : Fin 8) (x : Txn) (u : Nat) (s : State) :
    (startJob b x u s).dli.mediaPart = s.dli.mediaPart := by
  unfold startJob
  dsimp only
  split <;> simp

@[simp] theorem allocate_mediaPart (n : Nat) (s : State) : (allocate n s).dli.mediaPart = s.dli.mediaPart := by
  induction n generalizing s with
  | zero => rfl
  | succ n ih => unfold allocate; split <;> simp [ih]

/-- The closure of an event issues and makes requests, and leaves what the DLI knows of the media. -/
@[simp] theorem settle_mediaPart (s : State) : (settle s).dli.mediaPart = s.dli.mediaPart := by
  simp [settle]

/-! ## The lock event, the access control and the credential unit -/

@[simp] theorem lockEvent_mediaPart (c : Cause) (s : State) : (lockEvent c s).dli.mediaPart = s.dli.mediaPart := by
  unfold lockEvent
  dsimp only
  split <;> simp

@[simp] theorem enterSettling_mediaPart (i : Fin 8) (k : Key) (s : State) :
    (enterSettling i k s).dli.mediaPart = s.dli.mediaPart := by
  simp [enterSettling]

@[simp] theorem reportUnlock_mediaPart (i : Fin 8) (k : Key) (s : State) :
    (reportUnlock i k s).dli.mediaPart = s.dli.mediaPart := by
  simp [reportUnlock]

@[simp] theorem enterErasing_mediaPart (p : StageStep) (s : State) :
    (enterErasing p s).dli.mediaPart = s.dli.mediaPart := by
  simp [enterErasing]

@[simp] theorem reportNoMatch_mediaPart (f : Nat) (s : State) :
    (reportNoMatch f s).dli.mediaPart = s.dli.mediaPart := by
  unfold reportNoMatch
  simp only [showVerdict_frame]
  split
  · simp
  · split <;> simp

@[simp] theorem reportErase_mediaPart (s : State) : (reportErase s).dli.mediaPart = s.dli.mediaPart := by
  simp [reportErase]

@[simp] theorem acLoss_mediaPart (s : State) : (acLoss s).dli.mediaPart = s.dli.mediaPart := by
  unfold acLoss
  split
  · simp
  · split <;> simp

@[simp] theorem reportMatch_mediaPart (s : State) : (reportMatch s).dli.mediaPart = s.dli.mediaPart := by
  unfold reportMatch
  split <;> simp

@[simp] theorem secondQuery_mediaPart (c : Option Nat) (f : Option CredFields) (s : State) :
    (secondQuery c f s).dli.mediaPart = s.dli.mediaPart := by
  unfold secondQuery
  split <;> simp

@[simp] theorem zeroFailures_mediaPart (f : Option CredFields) (s : State) :
    (zeroFailures f s).dli.mediaPart = s.dli.mediaPart := by
  unfold zeroFailures
  split <;> simp

@[simp] theorem unlockWrites_mediaPart (i : Fin 8) (s : State) :
    (unlockWrites i s).dli.mediaPart = s.dli.mediaPart := by
  unfold unlockWrites
  split <;> simp

@[simp] theorem verifyEnded_mediaPart (s : State) : (verifyEnded s).dli.mediaPart = s.dli.mediaPart := by
  unfold verifyEnded
  split
  · dsimp only
    split
    -- an unlock that matches asks whether it is allowed, and an enrolment whether it was overtaken
    case h_2 => split <;> simp
    case h_7 => split <;> simp
    all_goals simp
  · rfl

@[simp] theorem cuWritten_mediaPart (s : State) : (cuWritten s).dli.mediaPart = s.dli.mediaPart := by
  unfold cuWritten
  split
  -- the rebuild write may have a hand-over waiting behind it, and an admin match holds a key
  case h_2 => dsimp only; split <;> simp
  case h_7 => split <;> simp
  all_goals simp

@[simp] theorem ksWritten_mediaPart (s : State) : (ksWritten s).dli.mediaPart = s.dli.mediaPart := by
  unfold ksWritten
  split
  · dsimp only
    split <;> simp
  · rfl

/-! ## Entries -/

@[simp] theorem adminKey_mediaPart (s : State) : (adminKey s).dli.mediaPart = s.dli.mediaPart := by
  unfold adminKey
  split <;> simp

@[simp] theorem baseKey_mediaPart (shifted : Bool) (s : State) :
    (baseKey shifted s).dli.mediaPart = s.dli.mediaPart := by
  unfold baseKey
  split
  -- PRESENTED: a stack that is not empty, a request to change the PIN, or the lock event
  case h_7 =>
    split
    · simp
    · split <;> simp
  all_goals simp

@[simp] theorem keyEntry_mediaPart (shifted : Bool) (s : State) :
    (keyEntry shifted s).dli.mediaPart = s.dli.mediaPart := by
  unfold keyEntry
  split <;> simp

/-- An entry is taken with the effect its table gives it, so what every such effect leaves is left (R106). -/
theorem takeEntry_mediaPart {f : KeyEntry → Option (State → State)}
    (hf : ∀ e act, f e = some act → ∀ s, (act s).dli.mediaPart = s.dli.mediaPart) (s : State) :
    (takeEntry f s).dli.mediaPart = s.dli.mediaPart := by
  unfold takeEntry
  split
  · rfl
  · split
    · rfl
    · split
      · rfl
      next act hact => simp [hf _ act hact]

/-! ## Requests and the upstream link -/

@[simp] theorem admitRequest_mediaPart (k : TxKind) (t : Fin 16) (r : Request) (s : State) :
    (admitRequest k t r s).dli.mediaPart = s.dli.mediaPart := by
  simp [admitRequest]

@[simp] theorem takeRequest_mediaPart (r : Request) (s : State) :
    (takeRequest r s).dli.mediaPart = s.dli.mediaPart := by
  have hreload : (if r.isTransfer then reloadIdle s else s).dli = s.dli := by split <;> simp
  unfold takeRequest
  rw [← hreload]
  generalize (if r.isTransfer then reloadIdle s else s) = s1
  dsimp only
  split
  · simp
  · split
    · simp
    · split <;> simp

@[simp] theorem requestArrives_mediaPart (r : Request) (s : State) :
    (requestArrives r s).dli.mediaPart = s.dli.mediaPart := by
  unfold requestArrives
  split
  · rfl
  · split <;> simp

@[simp] theorem takeLinkReset_mediaPart (s : State) : (takeLinkReset s).dli.mediaPart = s.dli.mediaPart := by
  simp [takeLinkReset]

@[simp] theorem suspendLock_mediaPart (s : State) : (suspendLock s).dli.mediaPart = s.dli.mediaPart := by
  unfold suspendLock
  split <;> simp

@[simp] theorem takeSuspend_mediaPart (s : State) : (takeSuspend s).dli.mediaPart = s.dli.mediaPart := by
  unfold takeSuspend
  dsimp only
  split <;> simp

@[simp] theorem LinkItem.take_mediaPart (i : LinkItem) (s : State) :
    (i.take s).dli.mediaPart = s.dli.mediaPart := by
  cases i <;> simp [LinkItem.take]

@[simp] theorem drain_mediaPart (n : Nat) (s : State) : (drain n s).dli.mediaPart = s.dli.mediaPart := by
  induction n generalizing s with
  | zero => rfl
  | succ n ih => unfold drain; split <;> simp [ih]

@[simp] theorem settleLink_mediaPart (s : State) : (settleLink s).dli.mediaPart = s.dli.mediaPart := by
  simp [settleLink]

@[simp] theorem signalArrives_mediaPart (i : LinkItem) (s : State) :
    (signalArrives i s).dli.mediaPart = s.dli.mediaPart := by
  unfold signalArrives
  split <;> simp

/-! ## Records sent and the data-wait expiry -/

@[simp] theorem refusalSent_mediaPart (s : State) : (refusalSent s).dli.mediaPart = s.dli.mediaPart := by
  unfold refusalSent
  split <;> simp

@[simp] theorem completeSent_mediaPart (s : State) : (completeSent s).dli.mediaPart = s.dli.mediaPart := by
  unfold completeSent
  split
  · split
    next x _ => dsimp only; split <;> simp
    · rfl
  · rfl

@[simp] theorem dataWantedSent_mediaPart (s : State) : (dataWantedSent s).dli.mediaPart = s.dli.mediaPart := by
  unfold dataWantedSent
  split
  · split <;> simp
  · rfl

@[simp] theorem readDataSent_mediaPart (s : State) : (readDataSent s).dli.mediaPart = s.dli.mediaPart := by
  unfold readDataSent
  split
  · split
    next j _ =>
      dsimp only
      split
      · simp only [settle_mediaPart, progress_frame]
        split <;> simp
      · simp
    · rfl
  · rfl

@[simp] theorem overlaySent_mediaPart (s : State) : (overlaySent s).dli.mediaPart = s.dli.mediaPart := by
  unfold overlaySent
  split
  · split
    next x _ => dsimp only; split <;> simp
    · rfl
  · rfl

@[simp] theorem dataWaitExpired_mediaPart (t : Fin 16) (s : State) :
    (dataWaitExpired t s).dli.mediaPart = s.dli.mediaPart := by
  unfold dataWaitExpired
  split
  · split <;> simp
  · rfl

/-! ## Downstream completions -/

@[simp] theorem ownerTakes_mediaPart (op : DOp) (o : Owner) (ok lost : Bool) (page : List Byte) (s : State) :
    (ownerTakes op o ok lost page s).dli.mediaPart = s.dli.mediaPart := by
  unfold ownerTakes
  split
  -- the SWU takes the completion of a DISCARD alone
  case h_3 => split <;> simp
  all_goals simp

@[simp] theorem takeCompletion_mediaPart (opByte dtag status : Byte) (rest : List Byte) (s : State) :
    (takeCompletion opByte dtag status rest s).dli.mediaPart = s.dli.mediaPart := by
  unfold takeCompletion
  split
  · rfl
  · split <;> simp

@[simp] theorem takeError_mediaPart (o : Owner) (s : State) : (takeError o s).dli.mediaPart = s.dli.mediaPart := by
  unfold takeError
  split <;> simp

@[simp] theorem takeEarly_mediaPart (early : List Owner) (s : State) :
    (takeEarly early s).dli.mediaPart = s.dli.mediaPart :=
  foldl_keeps (fun s => s.dli.mediaPart) _ (fun s o => takeError_mediaPart o s) _ s

/-! ## The media events -/

@[simp] theorem reportMedia_mediaPart (s : State) : (reportMedia s).dli.mediaPart = s.dli.mediaPart := by
  unfold reportMedia
  split <;> simp

/-- A loss taken stops the IDENT wait (R71, R73). -/
theorem mediaLost_identWait (early : List Owner) {s : State} (h : s.dli.media ≠ .absent) :
    (mediaLost early s).dli.identWait = none := by
  have hpart : (mediaLost early s).dli.mediaPart = (loseMedia s).dli.mediaPart := by
    simp [mediaLost, h]
  exact (Dli.fields_of_mediaPart_eq hpart).2.2

/-- An IDENT leaves of the media what it gives, also where it is a loss followed by a new identification (R70, R72). -/
theorem identTaken_mediaPart (p : BitVec 32) (early : List Owner) (s : State) :
    (identTaken p early s).dli.mediaPart = (identify p s).dli.mediaPart := by
  unfold identTaken
  split
  · split
    · simp
    · simp only [settle_mediaPart, reportMedia_mediaPart, acLoss_mediaPart, takeEarly_mediaPart]
      rfl
  · simp

/-- An IDENT gives the condition its P gives and stops the IDENT wait (R70, R71). -/
theorem identTaken_fields (p : BitVec 32) (early : List Owner) (s : State) :
    (identTaken p early s).dli.media = identMedia p.toNat ∧ (identTaken p early s).dli.identWait = none := by
  obtain ⟨hmedia, -, hwait⟩ := Dli.fields_of_mediaPart_eq (identTaken_mediaPart p early s)
  exact ⟨hmedia, hwait⟩

/-- P gives OK or UNUSABLE (R4). -/
theorem identMedia_ok_or_unusable (p : Nat) : identMedia p = .ok ∨ identMedia p = .unusable := by
  unfold identMedia
  split
  · exact .inr rfl
  · exact .inl rfl

/-- The IDENT wait's expiry, while the condition is UNKNOWN, makes it ABSENT, stops the wait and leaves U (R71). -/
theorem identWaitExpired_fields {s : State} (hmedia : s.dli.media = .unknown) (hwait : s.dli.identWait = some 0) :
    (identWaitExpired s).dli.media = .absent ∧ (identWaitExpired s).dli.usable = s.dli.usable ∧
      (identWaitExpired s).dli.identWait = none := by
  have hpart : (identWaitExpired s).dli.mediaPart =
      (s.setDli { s.dli with media := .absent, identWait := none }).dli.mediaPart := by
    simp [identWaitExpired, hmedia, hwait, Timer.due]
  exact Dli.fields_of_mediaPart_eq hpart

/-! ## The tick and the power-on sequence -/

/-- A tick counts the IDENT wait while the condition is UNKNOWN (R71, R162). -/
theorem tickAll_identWait (s : State) : (tickAll s).dli.identWait =
    if s.dli.media = .unknown then s.dli.identWait.map (· - 1) else s.dli.identWait := by
  by_cases h : s.dli.media = .unknown <;> cases hwait : s.dli.identWait <;>
    simp [tickAll, Timer.tickIf, Timer.tick, h, hwait]

@[simp] theorem startAccess_mediaPart (s : State) : (startAccess s).dli.mediaPart = s.dli.mediaPart := by
  unfold startAccess
  split <;> simp

@[simp] theorem readingComplete_mediaPart (s : State) : (readingComplete s).dli.mediaPart = s.dli.mediaPart := by
  unfold readingComplete
  split
  · simp
  · rfl

/-! ## The commands -/

/-- A command that may change what the DLI knows of the media: one of power, the tick, or a media event (R71). -/
def reachesMedia : Instr → Bool
  | .powerOn | .powerLoss _ | .tick | .ident .. | .mediaLost _ | .identWaitExpiry => true
  | _ => false

/-- Every other command leaves what the DLI knows of the media. -/
theorem exec_mediaPart {c : Instr} (hc : reachesMedia c = false) {s t : State} (h : exec c s = .next t) :
    t.dli.mediaPart = s.dli.mediaPart := by
  cases c with
  | powerOn | powerLoss | tick | ident | mediaLost | identWaitExpiry => cases hc
  | upstreamFrameDropped | downstreamFrameDropped => cases h; rfl
  | ksReadingComplete => cases h; simp
  | readRequest | writeRequest | flushRequest | sizeRequest | stateRequest | abort | unknownKindRequest =>
    cases h; simp
  | writeData => cases h; split <;> simp
  | linkReset | suspend | resume => cases h; simp
  | refusalSent | completeSent | dataWantedSent | readDataSent | overlayReadDataSent | dataWaitExpiry =>
    cases h; split <;> simp
  | pageReadCompletion | pageWriteCompletion | syncCompletion | discardCompletion | errorCompletionTaken =>
    cases h; split <;> simp
  | cipherCompletion | verifyEnd | ksWriteComplete => cases h; split <;> simp
  | keyEntryProduced | shiftTapProduced | scan => cases h; split <;> simp
  | briefPatternRunout | activityRestEnd | patternClock => cases h; split <;> simp
  | entryTimeout | settleTimerExpiry | lockoutTimerExpiry | adminSessionTimerExpiry | idleCounterExpiry =>
    cases h
    split
    · dsimp only
      split <;> simp
    · rfl
  | digitTaken =>
    cases h
    split
    · refine takeEntry_mediaPart (fun e act hact s => ?_) s
      split at hact
      · obtain ⟨-, hact⟩ := Option.ite_none_left_eq_some.1 hact
        cases hact; simp
      · cases hact
    · rfl
  | shiftedDigitTaken =>
    cases h
    split
    · refine takeEntry_mediaPart (fun e act hact s => ?_) s
      split at hact
      · obtain ⟨-, hact⟩ := Option.ite_none_left_eq_some.1 hact
        split at hact <;> cases hact <;> simp
      · cases hact
    · rfl
  | shiftTapTaken | keyTaken | shiftedKeyTaken | flaggedEntryTaken =>
    cases h
    split
    · refine takeEntry_mediaPart (fun e act hact s => ?_) s
      obtain ⟨-, hact⟩ := Option.ite_none_right_eq_some.1 hact
      cases hact; simp
    · rfl

/-! ## The IDENT wait (R71) -/

/-- A stopped IDENT wait stays stopped over a MEDIA_LOST. -/
theorem mediaLost_keeps_stopped (early : List Owner) {s : State} (h : s.dli.identWait = none) :
    (mediaLost early s).dli.identWait = none := by
  by_cases habsent : s.dli.media = .absent
  · simpa [mediaLost, habsent] using h
  · exact mediaLost_identWait early habsent

/-- The expiry of the IDENT wait has no effect while the wait is stopped. -/
theorem identWaitExpired_of_stopped {s : State} (h : s.dli.identWait = none) : identWaitExpired s = s := by
  simp [identWaitExpired, h, Timer.due]

/-- No command but POWER_ON starts the IDENT wait (R71). -/
theorem exec_keeps_stopped {c : Instr} (hc : c ≠ .powerOn) {s t : State} (h : exec c s = .next t)
    (hwait : s.dli.identWait = none) : t.dli.identWait = none := by
  cases hreach : reachesMedia c with
  | false =>
    obtain ⟨-, -, hkept⟩ := Dli.fields_of_mediaPart_eq (exec_mediaPart hreach h)
    exact hkept.trans hwait
  | true =>
    cases c with
    | powerOn => exact absurd rfl hc
    | powerLoss fate =>
      cases h
      unfold powerLoss
      split
      · exact hwait
      · rfl
    | tick =>
      cases h
      split
      · exact hwait
      · simp [tickAll_identWait, hwait]
    | ident p early =>
      cases h
      split
      · exact hwait
      · exact (identTaken_fields p early s).2
    | mediaLost early =>
      cases h
      split
      · exact hwait
      · exact mediaLost_keeps_stopped early hwait
    | identWaitExpiry =>
      cases h
      split
      · exact hwait
      · rwa [identWaitExpired_of_stopped hwait]
    | _ => cases hreach

/-- With power, a command that acts whenever the part has power acts. -/
theorem State.whenPowered_of_ne_off {s : State} (h : s.power ≠ .off) (f : State → State) :
    s.whenPowered f = .next (f s) := by
  simp [State.whenPowered, h]

/-- With power, an IDENT is taken as one that makes the condition OK or UNUSABLE and stops the IDENT wait (R4, R71). -/
theorem exec_ident (p : BitVec 32) (early : List Owner) {s : State} (h : s.power ≠ .off) :
    ∃ t, exec (.ident p early) s = .next t ∧ t.dli.identWait = none ∧
      (t.dli.media = .ok ∨ t.dli.media = .unusable) := by
  obtain ⟨hmedia, hwait⟩ := identTaken_fields p early s
  exact ⟨_, s.whenPowered_of_ne_off h _, hwait, hmedia ▸ identMedia_ok_or_unusable p.toNat⟩

/-- Settles O45: POWER_ON alone starts the IDENT wait, the tick counts it, and IDENT, MEDIA_LOST and its expiry stop it;
no command starts it again, for those left reach nothing of what the DLI knows of the media. -/
theorem identWait : Obligations.IdentWait := by
  refine ⟨fun s hoff => ⟨powerOn s, rfl, ?_⟩, fun s hon => ⟨_, s.whenPowered_of_ne_off hon _, tickAll_identWait s⟩,
    fun s p early hon hmedia => ⟨exec_ident p early hon, _, s.whenPowered_of_ne_off hon _,
      mediaLost_identWait early hmedia⟩,
    fun s p early hon hmedia hdue => ?_, fun c s t hc h hwait => exec_keeps_stopped hc h hwait⟩
  · rw [powerOn, if_pos hoff]
    exact ⟨rfl, rfl⟩
  · obtain ⟨habsent, husable, hstopped⟩ := identWaitExpired_fields hmedia hdue
    have hpower : (identWaitExpired s).power ≠ .off := by simpa using hon
    obtain ⟨r, hident, -, hcondition⟩ := exec_ident p early hpower
    exact ⟨_, s.whenPowered_of_ne_off hon _, habsent, hstopped, husable, r, hident, hcondition⟩

end Sys2Proof.Machine

/-! PROOF. The key FIFO: what the production of an entry leaves of the state, the entry placed over the tail of a full
FIFO, and obligation O47 from it. -/

namespace Sys2Proof.Machine

open Sys2Proof

/-! ## The placing of an entry (R104, R105) -/

/-- In a FIFO of six the entry takes the tail's place with OVERRUN set, behind the five older entries (R105). -/
theorem placeEntry_of_full {older : List KeyEntry} (h : older.length = 5) (last e : KeyEntry) :
    placeEntry (older ++ [last]) e = older ++ [{ e with overrun := true }] := by
  have hfull : ¬ (older ++ [last]).length < 6 := by simp [h]
  rw [placeEntry, if_neg hfull, List.take_left' h]

/-- An entry with OVERRUN set is flagged, chorded or not (R109). -/
theorem KeyEntry.flagged_of_overrun {e : KeyEntry} (h : e.overrun = true) : e.flagged = true := by
  simp [KeyEntry.flagged, h]

/-! ## The production of an entry -/

/-- The oldest entry recognised is placed, where it is one that `p` admits. -/
theorem produce_of_due {p : EntryKey → Bool} {s : State} {e : KeyEntry} {rest : List KeyEntry}
    (hdue : s.kps.due = e :: rest) (hp : p e.key = true) :
    produce p s = reloadIdle (s.setKps { s.kps with due := rest, fifo := placeEntry s.kps.fifo e }) := by
  simp only [produce, hdue, hp, if_true]

/-- With power, the command of an entry's kind, SHIFT_TAP_PRODUCED for a SHIFT_TAP and KEY_ENTRY_PRODUCED for any other,
places the oldest entry recognised and reloads the idle counter (R104). -/
theorem exec_produced {s : State} {e : KeyEntry} {rest : List KeyEntry} (hon : s.power ≠ .off)
    (hdue : s.kps.due = e :: rest) :
    exec (if e.key = .shiftTap then .shiftTapProduced else .keyEntryProduced) s =
      .next (reloadIdle (s.setKps { s.kps with due := rest, fifo := placeEntry s.kps.fifo e })) := by
  split
  case isTrue htap =>
    calc exec .shiftTapProduced s
        = .next (produce (fun k => k == .shiftTap) s) := s.whenPowered_of_ne_off hon _
      _ = _ := by rw [produce_of_due hdue (by simpa using htap)]
  case isFalse hkey =>
    calc exec .keyEntryProduced s
        = .next (produce (fun k => k != .shiftTap) s) := s.whenPowered_of_ne_off hon _
      _ = _ := by rw [produce_of_due hdue (by simpa using hkey)]

/-- Settles O47: the entry produced is placed over the tail of the full FIFO, and the reload of the idle counter leaves
the FIFO as it is. -/
theorem fullFifoMarksOverrun : Obligations.FullFifoMarksOverrun := by
  intro s e rest older last hon hdue hfifo hfive
  have hplaced : placeEntry s.kps.fifo e = older ++ [{ e with overrun := true }] :=
    hfifo ▸ placeEntry_of_full hfive last e
  refine ⟨_, { e with overrun := true }, exec_produced hon hdue, ?_, rfl, rfl, rfl, rfl,
    KeyEntry.flagged_of_overrun rfl, ?_⟩
  · simpa using hplaced
  · simp [hplaced, hfive]

end Sys2Proof.Machine

/-! PROOF. The throttle delay: what a move of the AC does to the lockout timer, where a counted failure and the completion
of the KS reading load it, the tick that counts it, and obligation O57 from them. -/

namespace Sys2Proof.Machine

open Sys2Proof

/-! ## The sub-state and the lockout timer under the AC's operations (R80, R88) -/

/-- A presentation moves neither the AC nor its lockout timer. -/
@[simp] theorem present_access_lockout (v : Volume) (s : State) :
    (present v s).ac.access = s.ac.access ∧ (present v s).ac.lockout = s.ac.lockout := by
  unfold present
  split <;> simp

/-- A move enters its sub-state and keeps the lockout timer in LOCKOUT alone (R88). -/
@[simp] theorem moveTo_access_lockout (a : Access) (s : State) :
    (moveTo a s).ac.access = a ∧ (moveTo a s).ac.lockout = if a = .lockout then s.ac.lockout else none := by
  simp [moveTo, enter]

/-- A verdict moves neither the AC nor its lockout timer. -/
@[simp] theorem showVerdict_access_lockout (v : Verdict) (s : State) :
    (showVerdict v s).ac.access = s.ac.access ∧ (showVerdict v s).ac.lockout = s.ac.lockout := by
  unfold showVerdict
  split <;> simp

/-- Outside UNLOCKED the lock event moves neither the AC nor its lockout timer (R94). -/
theorem lockEvent_access_lockout (c : Cause) {s : State} (h : s.ac.access.unlocked = false) :
    (lockEvent c s).ac.access = s.ac.access ∧ (lockEvent c s).ac.lockout = s.ac.lockout := by
  simp [lockEvent, h]

/-- ERASING is entered with the lockout timer stopped. -/
@[simp] theorem enterErasing_access_lockout (first : StageStep) (s : State) :
    (enterErasing first s).ac.access = .erasing ∧ (enterErasing first s).ac.lockout = none := by
  have hlocked : (moveTo .erasing s).ac.access.unlocked = false := by simp [Access.unlocked]
  simp [enterErasing, lockEvent_access_lockout .erase hlocked]

/-! ## The load at the report of a failure (R87, R130) -/

/-- Once the part runs, a command that waits for the KS reading acts. -/
theorem State.whenRunning_of_running {s : State} (h : s.power = .running) (f : State → State) :
    s.whenRunning f = .next (f s) := by
  simp [State.whenRunning, h]

/-- The end of a device-record write leaves the record written as the image (R122). -/
theorem Ks.endWrite_dev (k : Ks) (q : DevRecord) : (k.endWrite (.dev q)).dev = q :=
  Ks.begin_dev _

/-- The no-match report moves the AC by the new count, loading the full throttle delay where that is to LOCKOUT (R87). -/
theorem reportNoMatch_access_lockout (f : Nat) (s : State) :
    (reportNoMatch f s).ac.access =
      (if s.ks.dev.fields.limit ≤ f then .erasing else if 3 ≤ f then .lockout else .lockedIdle) ∧
    (reportNoMatch f s).ac.lockout =
      if s.ks.dev.fields.limit ≤ f then none else if 3 ≤ f then some (throttleTicks f) else none := by
  simp only [reportNoMatch, showVerdict_access_lockout]
  by_cases herase : s.ks.dev.fields.limit ≤ f
  · simp [herase]
  · by_cases hlock : 3 ≤ f <;> simp [herase, hlock]

/-- The completion of a failure write is the report of the count written, under the attempt limit of the image the write
leaves (R122, R128). -/
theorem exec_failureWritten {s : State} {r : KsReq} {rest : List KsReq} {q : DevRecord} {f : Nat}
    (hrun : s.power = .running) (hqueue : s.ks.queue = r :: rest) (hwriting : s.ks.writing = some (.dev q))
    (hcu : r.bySweep = false) (htask : s.cu.task = .failure f) :
    exec .ksWriteComplete s = .next (settle (reportNoMatch f (s.setKs (s.ks.endWrite (.dev q))))) := by
  have hwritten : ksWritten s = reportNoMatch f (s.setKs (s.ks.endWrite (.dev q))) := by
    simp [ksWritten, hqueue, hwriting, hcu, cuWritten, htask]
  rw [← hwritten]
  exact s.whenRunning_of_running hrun (fun u => settle (ksWritten u))

/-- Where the completion of a failure write leaves the AC and its lockout timer (R87, R130). -/
theorem exec_failureWritten_access_lockout {s : State} {r : KsReq} {rest : List KsReq} {q : DevRecord} {f : Nat}
    (hrun : s.power = .running) (hqueue : s.ks.queue = r :: rest) (hwriting : s.ks.writing = some (.dev q))
    (hcu : r.bySweep = false) (htask : s.cu.task = .failure f) :
    ∃ t, exec .ksWriteComplete s = .next t ∧
      t.ac.access = (if q.fields.limit ≤ f then .erasing else if 3 ≤ f then .lockout else .lockedIdle) ∧
      t.ac.lockout = if q.fields.limit ≤ f then none else if 3 ≤ f then some (throttleTicks f) else none := by
  refine ⟨_, exec_failureWritten hrun hqueue hwriting hcu htask, ?_⟩
  simpa [Ks.endWrite_dev] using reportNoMatch_access_lockout f (s.setKs (s.ks.endWrite (.dev q)))

/-! ## What waits on the link (R163) -/

/-- A presentation takes nothing from the link. -/
@[simp] theorem present_link (v : Volume) (s : State) : (present v s).uli.link = s.uli.link := by
  unfold present
  split <;> simp [attention]

/-- A move takes nothing from the link. -/
@[simp] theorem moveTo_link (a : Access) (s : State) : (moveTo a s).uli.link = s.uli.link := by
  simp [moveTo, enter]

/-- The closure of an event takes nothing from the link. -/
@[simp] theorem settle_link (s : State) : (settle s).uli.link = s.uli.link := by
  have hgrant (u : State) : (grant u).uli.link = u.uli.link := by
    unfold grant
    split <;> simp
  simp [settle, hgrant]

/-- With nothing waiting on the link, the end of an event is its closure alone. -/
theorem settleLink_of_link_nil {s : State} (h : s.uli.link = []) : settleLink s = settle s := by
  simp [settleLink, h, drain]

/-! ## The load at power-on (R81, R130, R164) -/

/-- A device record that passes its check is its own image (R121). -/
theorem readImages_dev_of_passes {s : State} (h : s.ks.nvm.dev.passes = true) :
    (readImages s).ks.dev = s.ks.nvm.dev := by
  simp [readImages, DevRecord.image, h]

/-- The image of slot 0 is not EMPTY where its record passes its check and is not EMPTY (R121). -/
theorem readImages_cred_zero_ne_empty {s : State} (hcreds : s.ks.nvm.creds.length = 8)
    (hzero : ∀ r, s.ks.nvm.creds[0]? = some r → r.passes = true ∧ r.fields.status ≠ .empty) :
    ((readImages s).cred 0).status ≠ .empty := by
  have hlt : 0 < s.ks.nvm.creds.length := by omega
  obtain ⟨hpasses, hstatus⟩ := hzero _ (List.getElem?_eq_getElem hlt)
  simpa [State.cred, readImages, List.getD, hlt, CredRecord.image, hpasses] using hstatus

/-- With no erase pending, slot 0 in use and three failures or more, the AC starts in LOCKOUT (R81). -/
theorem initialAccess_lockout {s : State} (herase : s.ks.dev.fields.erasePending = false)
    (hzero : (s.cred 0).status ≠ .empty) (hfailures : 3 ≤ s.ks.dev.fields.failures) :
    initialAccess s = .lockout := by
  simp [initialAccess, herase, hzero, hfailures]

/-- A start in LOCKOUT loads the full throttle delay and takes nothing from the link (R130). -/
theorem startAccess_of_lockout {s : State} (h : initialAccess s = .lockout) :
    (startAccess s).ac.access = .lockout ∧
    (startAccess s).ac.lockout = some (throttleTicks s.ks.dev.fields.failures) ∧
    (startAccess s).uli.link = s.uli.link ∧ (startAccess s).ks = s.ks := by
  simp [startAccess, h]

/-- Without a rebuild and with nothing waiting on the link, the completion of the KS reading leaves the AC as its start
put it (R164). -/
theorem readingComplete_ac {s : State} (hreading : s.power = .reading)
    (hlink : (startAccess (sweepAtStart (readImages s))).uli.link = [])
    (hpasses : (startAccess (sweepAtStart (readImages s))).ks.nvm.dev.passes = true) :
    (readingComplete s).ac = (startAccess (sweepAtStart (readImages s))).ac := by
  simp [readingComplete, hreading, startRebuild, hpasses, settleLink_of_link_nil, hlink]

/-- With three failures or more counted in a device record that passes its check, no erase pending, slot 0 in use and
nothing waiting on the link, the part starts in LOCKOUT with the full throttle delay (R81, R130). -/
theorem readingComplete_lockout {s : State} (hreading : s.power = .reading) (hlink : s.uli.link = [])
    (hcreds : s.ks.nvm.creds.length = 8) (hpasses : s.ks.nvm.dev.passes = true)
    (herase : s.ks.nvm.dev.fields.erasePending = false) (hfailures : 3 ≤ s.ks.nvm.dev.fields.failures)
    (hzero : ∀ r, s.ks.nvm.creds[0]? = some r → r.passes = true ∧ r.fields.status ≠ .empty) :
    (readingComplete s).ac.access = .lockout ∧
    (readingComplete s).ac.lockout = some (throttleTicks s.ks.nvm.dev.fields.failures) := by
  have hks : (sweepAtStart (readImages s)).ks = (readImages s).ks := by simp
  have hdev : (sweepAtStart (readImages s)).ks.dev = s.ks.nvm.dev := hks ▸ readImages_dev_of_passes hpasses
  have hnvm : (sweepAtStart (readImages s)).ks.nvm = s.ks.nvm := hks ▸ rfl
  have hcred : ((sweepAtStart (readImages s)).cred 0).status ≠ .empty := by
    rw [State.cred, hks]
    exact readImages_cred_zero_ne_empty hcreds hzero
  obtain ⟨haccess, hlockout, hstartLink, hstartKs⟩ := startAccess_of_lockout
    (initialAccess_lockout (by rwa [hdev]) hcred (by rwa [hdev]))
  rw [readingComplete_ac hreading (by simpa [hlink] using hstartLink) (by rwa [hstartKs, hnvm]), ← hdev]
  exact ⟨haccess, hlockout⟩

/-! ## The delay and its count (R130, R162) -/

/-- No throttle delay follows the first two failures (R130). -/
theorem throttleTicks_of_le_two {f : Nat} (h : f ≤ 2) : throttleTicks f = 0 := if_pos h

/-- From the third failure the throttle delay doubles from 5 s up to 300 s, ten ticks a second (R130, R162). -/
theorem throttleTicks_of_three_le {f : Nat} (h : 3 ≤ f) :
    throttleTicks f = min (10 * 300) (10 * (5 * 2 ^ (f - 3))) := by
  rw [throttleTicks, if_neg (by omega), ← Nat.mul_assoc]

/-- The tick counts a lockout timer that runs in LOCKOUT, whether the part is AWAKE or in STANDBY (R88, R162). -/
theorem tickAll_lockout {s : State} {n : Nat} (haccess : s.ac.access = .lockout) (htimer : s.ac.lockout = some n) :
    (tickAll s).ac.lockout = some (n - 1) := by
  simp [tickAll, State.acTick, haccess, htimer, Timer.tickIf, Timer.tick]

/-- Settles O57: the delay as R130 gives it, its loads where the report of a counted failure and the start of the AC move
to LOCKOUT, and its count by the tick, which asks nothing of the standby. -/
theorem throttleDelay : Obligations.ThrottleDelay := by
  refine ⟨fun _ => throttleTicks_of_le_two, fun _ => throttleTicks_of_three_le,
    fun s r rest q f hrun hqueue hwriting hcu htask => ?_,
    fun s n hrun haccess htimer => ⟨_, s.whenPowered_of_ne_off (by simp [hrun]) _, tickAll_lockout haccess htimer⟩,
    fun s hreading hlink hcreds hpasses herase hfailures hzero =>
      ⟨_, rfl, readingComplete_lockout hreading hlink hcreds hpasses herase hfailures hzero⟩⟩
  obtain ⟨t, hexec, haccess, hlockout⟩ := exec_failureWritten_access_lockout hrun hqueue hwriting hcu htask
  refine ⟨fun hthree hbelow => ⟨t, hexec, ?_, ?_⟩, fun htwo hbelow => ⟨t, hexec, ?_⟩, fun hlimit => ⟨t, hexec, ?_, ?_⟩⟩
  · rw [haccess, if_neg (Nat.not_le.2 hbelow), if_pos hthree]
  · rw [hlockout, if_neg (Nat.not_le.2 hbelow), if_pos hthree]
  · rw [haccess, if_neg (Nat.not_le.2 hbelow), if_neg (by omega)]
  · rw [haccess, if_pos hlimit]
  · rw [hlockout, if_pos hlimit]

end Sys2Proof.Machine


/-! PROOF. The blocks an operation touches: for each operation of the model the list of blocks it can change, and from the
lists obligations O8 (each command changes only the blocks its rules touch), O2 and O16. -/

namespace Sys2Proof.Machine

open Sys2Proof

/-! ## Touching blocks -/

/-- From `s` to `t` no block changes but those listed. -/
def Touches (B : List Block) (s t : State) : Prop := ∀ b, b ∉ B → b.same s t

/-- To show that only the blocks listed change, each block is listed or the same. -/
theorem Touches.of_forall {B : List Block} {s t : State} (h : ∀ b, b ∈ B ∨ b.same s t) : Touches B s t :=
  fun b hb => (h b).resolve_left hb

@[refl] theorem Touches.refl (B : List Block) (s : State) : Touches B s s := by
  intro b _
  cases b <;> simp [Block.same]

theorem Block.same_trans {b : Block} {s t u : State} (h1 : b.same s t) (h2 : b.same t u) : b.same s u := by
  cases b <;> simp_all [Block.same]

theorem Touches.trans {B : List Block} {s t u : State} (h1 : Touches B s t) (h2 : Touches B t u) : Touches B s u :=
  fun b hb => Block.same_trans (h1 b hb) (h2 b hb)

theorem Touches.mono {B C : List Block} {s t : State} (h : Touches B s t) (hs : B ⊆ C) : Touches C s t :=
  fun b hb => h b (fun hB => hb (hs hB))

/-- One operation after another touches the blocks of both. -/
theorem Touches.append {B C : List Block} {s t u : State} (h1 : Touches B s t) (h2 : Touches C t u) :
    Touches (B ++ C) s u :=
  (h1.mono (List.subset_append_left B C)).trans (h2.mono (List.subset_append_right B C))

/-- A fold touches what each of its steps touches. -/
theorem Touches.foldl {α : Type} {B : List Block} {f : State → α → State} (h : ∀ s a, Touches B s (f s a)) (l : List α)
    (s : State) : Touches B s (l.foldl f s) := by
  induction l generalizing s with
  | nil => exact .refl B s
  | cons a l ih => exact (h s a).trans (ih (f s a))

/-! ## Buffers, records, jobs and the links -/

theorem placePage_touches (b : Fin 8) (page : List Byte) (s : State) : Touches [.memory] s (placePage b page s) := by
  refine .of_forall fun k => ?_
  unfold placePage
  split <;> cases k <;> simp [Block.same]

theorem placeSector_touches (b j : Fin 8) (sector : List Byte) (s : State) :
    Touches [.memory] s (placeSector b j sector s) := by
  refine .of_forall fun k => ?_
  unfold placeSector
  split <;> cases k <;> simp [Block.same]

theorem putUnit_touches (b : Fin 8) (u : Fin 4096 → Byte) (s : State) : Touches [.memory] s (putUnit b u s) :=
  placePage_touches b _ s

theorem updTxn_touches (t : Fin 16) (f : Txn → Txn) (s : State) : Touches [.table] s (updTxn t f s) :=
  .of_forall fun b => by cases b <;> simp [Block.same]

theorem dropTxn_touches (t : Fin 16) (s : State) : Touches [.table] s (dropTxn t s) :=
  .of_forall fun b => by cases b <;> simp [Block.same]

theorem updJob_touches (b : Fin 8) (f : Job → Job) (s : State) : Touches [.jobs] s (updJob b f s) :=
  .of_forall fun k => by cases k <;> simp [Block.same, updJob]

theorem dropJob_touches (b : Fin 8) (s : State) : Touches [.jobs] s (dropJob b s) :=
  .of_forall fun k => by cases k <;> simp [Block.same, dropJob]

theorem closeIntake_touches (t : Fin 16) (s : State) : Touches [.intakes] s (closeIntake t s) :=
  .of_forall fun b => by cases b <;> simp [Block.same, closeIntake]

theorem freeOutput_touches (s : State) : Touches [.output] s (freeOutput s) :=
  .of_forall fun b => by cases b <;> simp [Block.same, freeOutput]

theorem sendUp_touches (r : UpRecord) (s : State) : Touches [.sentUp] s (sendUp r s) :=
  .of_forall fun b => by cases b <;> simp [Block.same, sendUp]

theorem sendDown_touches (r : DownRecord) (s : State) : Touches [.downstream] s (sendDown r s) :=
  .of_forall fun b => by cases b <;> simp [Block.same, sendDown]

theorem attention_touches (r : Reason) (s : State) : Touches [.attn] s (attention r s) :=
  .of_forall fun b => by cases b <;> simp [Block.same, attention]

theorem makeRequest_touches (op : DOp) (o : Owner) (s : State) : Touches [.downstream] s (makeRequest op o s) := by
  refine .of_forall fun b => ?_
  unfold makeRequest
  split <;> cases b <;> simp [Block.same]

theorem requestRead_touches (b : Fin 8) (u : Nat) (s : State) : Touches [.jobs, .downstream] s (requestRead b u s) :=
  (updJob_touches b _ s).append (makeRequest_touches _ _ _)

theorem requestWrite_touches (b : Fin 8) (u : Nat) (s : State) : Touches [.jobs, .downstream] s (requestWrite b u s) :=
  (updJob_touches b _ s).append (makeRequest_touches _ _ _)

theorem requestSync_touches (t : Fin 16) (s : State) : Touches [.downstream] s (requestSync t s) :=
  makeRequest_touches _ _ s

theorem withdrawJobs_touches (l : List (Fin 8)) (s : State) : Touches [.downstream] s (withdrawJobs l s) :=
  .of_forall fun b => by cases b <;> simp [Block.same, withdrawJobs]

theorem withdrawSync_touches (t : Fin 16) (s : State) : Touches [.downstream] s (withdrawSync t s) :=
  .of_forall fun b => by cases b <;> simp [Block.same, withdrawSync]

theorem tellIssued_touches (d : Fin 4) (o : Owner) (s : State) : Touches [.jobs, .sweep] s (tellIssued d o s) := by
  unfold tellIssued
  split
  · exact (updJob_touches _ _ s).mono (by decide)
  · exact .of_forall fun b => by cases b <;> simp [Block.same]
  · exact .refl _ s

theorem issue_touches (d : Fin 4) (r : DReq) (s : State) :
    Touches [.downstream, .jobs, .sweep] s (issue d r s) := by
  have htaken : Touches [.downstream] s (s.setDli { s.dli with
      requests := s.dli.requests.erase r,
      slots := s.dli.slots ++ [{ dtag := d, op := r.op, owner := r.owner }] }) :=
    .of_forall fun b => by cases b <;> simp [Block.same]
  exact ((htaken.append (tellIssued_touches d r.owner _)).append (sendDown_touches _ _)).mono (by decide)

theorem issueAll_touches (n : Nat) (s : State) : Touches [.downstream, .jobs, .sweep] s (issueAll n s) := by
  induction n generalizing s with
  | zero => exact .refl _ s
  | succ n ih =>
    unfold issueAll
    split
    · exact (issue_touches _ _ s).trans (ih _)
    · exact .refl _ s

theorem loseMedia_touches (s : State) : Touches [.media, .identWait, .downstream] s (loseMedia s) :=
  .of_forall fun b => by cases b <;> simp [Block.same, loseMedia]

theorem identify_touches (p : BitVec 32) (s : State) : Touches [.media, .identWait] s (identify p s) :=
  .of_forall fun b => by cases b <;> simp [Block.same, identify]

/-! ## The indicator and the key store -/

theorem judge_touches (s : State) : Touches [.indicator] s (judge s) :=
  .of_forall fun b => by cases b <;> simp [Block.same]

theorem verdictRequest_touches (v : Verdict) (s : State) : Touches [.indicator] s (verdictRequest v s) :=
  .of_forall fun b => by cases b <;> simp [Block.same]

theorem activityRequest_touches (s : State) : Touches [.indicator] s (activityRequest s) :=
  .of_forall fun b => by cases b <;> simp [Block.same]

theorem briefRunout_touches (s : State) : Touches [.indicator] s (briefRunout s) :=
  .of_forall fun b => by cases b <;> simp [Block.same]

theorem restEnd_touches (s : State) : Touches [.indicator] s (restEnd s) :=
  .of_forall fun b => by cases b <;> simp [Block.same]

theorem darken_touches (s : State) : Touches [.indicator] s (darken s) :=
  .of_forall fun b => by cases b <;> simp [Block.same]

theorem Ks.begin_fields (k : Ks) : k.begin.nvm = k.nvm ∧ k.begin.creds = k.creds ∧ k.begin.dev = k.dev := by
  unfold Ks.begin
  split <;> exact ⟨rfl, rfl, rfl⟩

theorem ksRequest_touches (r : KsReq) (s : State) : Touches [.writeQueue] s (ksRequest r s) :=
  .of_forall fun b => by cases b <;> simp [Block.same, ksRequest, Ks.begin_fields]

theorem readImages_touches (s : State) : Touches [.images] s (readImages s) :=
  .of_forall fun b => by cases b <;> simp [Block.same, readImages]

/-! ## Failures and the ends of jobs -/

/-- What a failure can change: its record, its jobs, their requests, its intake, and a DATA_WANTED held at the output (R60,
R77). -/
def Block.failure : List Block := [.table, .jobs, .downstream, .output, .intakes]

theorem setDone_touches (t : Fin 16) (s : State) : Touches [.table] s (setDone t s) := updTxn_touches t _ s

theorem addDone_touches (t : Fin 16) (k : Nat) (s : State) : Touches [.table] s (addDone t k s) := updTxn_touches t _ s

theorem releaseHeld_touches (t : Fin 16) (n : Nat) (s : State) : Touches [.table] s (releaseHeld t n s) :=
  updTxn_touches t _ s

theorem progress_touches (t : Fin 16) (s : State) : Touches [.table] s (progress t s) := by
  unfold progress
  split
  · exact .refl _ s
  · split
    · split
      · exact setDone_touches t s
      · exact .refl _ s
    · split
      · exact .refl _ s
      · exact setDone_touches t s
    · exact .refl _ s

theorem endJob_touches (j : Job) (s : State) : Touches [.jobs, .table] s (endJob j s) := by
  unfold endJob
  split
  · exact (dropJob_touches _ s).mono (by decide)
  · exact (dropJob_touches _ s).append (releaseHeld_touches _ _ _)

theorem disposeJobs_touches (t : Fin 16) (s : State) : Touches [.jobs, .downstream, .table] s (disposeJobs t s) := by
  have hjobs (l : List Job) : Touches [.jobs] s (s.setUbp { s.ubp with jobs := l }) :=
    .of_forall fun b => by cases b <;> simp [Block.same]
  exact ((hjobs _).append (withdrawJobs_touches _ _)).append (releaseHeld_touches _ _ _)

theorem withdrawWanted_touches (t : Fin 16) (s : State) : Touches [.output] s (withdrawWanted t s) := by
  unfold withdrawWanted
  split
  · exact freeOutput_touches s
  · exact .refl _ s

theorem disposeWork_touches (x : Txn) (s : State) : Touches Block.failure s (disposeWork x s) := by
  unfold disposeWork
  split
  · exact (withdrawSync_touches _ s).mono (by decide)
  · split
    · exact (((disposeJobs_touches _ s).append (closeIntake_touches _ _)).append (withdrawWanted_touches _ _)).mono
        (by decide)
    · exact .refl _ s

theorem failTxn_touches (t : Fin 16) (f : Failure) (s : State) : Touches Block.failure s (failTxn t f s) := by
  unfold failTxn
  split
  · exact .refl _ s
  · dsimp only
    split
    · exact .refl _ s
    · have hwork (x : Txn) (g : Txn → Txn) : Touches Block.failure s (disposeWork x (updTxn t g s)) :=
        ((updTxn_touches t g s).mono (by decide)).trans (disposeWork_touches x _)
      split
      · exact (hwork _ _).trans ((updTxn_touches t _ _).mono (by decide))
      · exact (hwork _ _).trans ((setDone_touches t _).mono (by decide))

theorem failVolume_touches (v : TxVolume) (f : Failure) (s : State) : Touches Block.failure s (failVolume v f s) :=
  .foldl (fun s (x : Txn) => failTxn_touches x.tag f s) _ s

theorem syncIfUnmarked_touches (t : Fin 16) (s : State) : Touches [.downstream] s (syncIfUnmarked t s) := by
  unfold syncIfUnmarked
  split
  · split
    · exact requestSync_touches t s
    · exact .refl _ s
  · exact .refl _ s

theorem leaveMarks_touches (b : Fin 8) (s : State) : Touches [.table, .downstream] s (leaveMarks b s) := by
  have hmarks (l : List Txn) : Touches [.table] s (s.setTxns l) :=
    .of_forall fun k => by cases k <;> simp [Block.same]
  exact (hmarks _).append (.foldl (fun s t => syncIfUnmarked_touches t s) _ _)

theorem syncEnd_touches (t : Fin 16) (ok : Bool) (s : State) : Touches Block.failure s (syncEnd t ok s) := by
  unfold syncEnd
  split
  · exact .refl _ s
  · split
    · split
      · exact (setDone_touches t s).mono (by decide)
      · exact failTxn_touches t _ s
    · exact (progress_touches t s).mono (by decide)
    · exact .refl _ s

theorem endAbandoned_touches (j : Job) (op : DOp) (s : State) :
    Touches [.jobs, .table, .downstream] s (endAbandoned j op s) := by
  unfold endAbandoned
  split
  · exact (dropJob_touches _ s).append (leaveMarks_touches _ _)
  · exact (dropJob_touches _ s).mono (by decide)

/-- A failure after the end of a job, and what follows in its transaction. -/
theorem failAfter_touches {B : List Block} (t : Fin 16) (f : Failure) {s u : State} (h : Touches B s u)
    (hB : B ⊆ Block.failure) : Touches Block.failure s (progress t (failTxn t f u)) :=
  ((h.mono hB).trans (failTxn_touches t f u)).trans ((progress_touches t _).mono (by decide))

theorem readEnd_touches (j : Job) (ok : Bool) (page : List Byte) (s : State) :
    Touches (.memory :: Block.failure) s (readEnd j ok page s) := by
  unfold readEnd
  split
  · exact ((placePage_touches _ _ s).append (updJob_touches _ _ _)).mono (by decide)
  · exact (failAfter_touches _ _ (endJob_touches j s) (by decide)).mono (by decide)

theorem readEnd_error_touches (j : Job) (page : List Byte) (s : State) :
    Touches Block.failure s (readEnd j false page s) :=
  failAfter_touches _ _ (endJob_touches j s) (by decide)

theorem writeEnd_touches (j : Job) (ok : Bool) (s : State) :
    Touches (.indicator :: Block.failure) s (writeEnd j ok s) := by
  unfold writeEnd
  split
  · exact (((((endJob_touches j s).append (addDone_touches _ _ _)).append (leaveMarks_touches _ _)).append
      (activityRequest_touches _)).append (progress_touches _ _)).mono (by decide)
  · exact (failAfter_touches _ _ ((endJob_touches j s).append (leaveMarks_touches _ _)) (by decide)).mono (by decide)

theorem jobCompletion_touches (b : Fin 8) (op : DOp) (ok : Bool) (page : List Byte) (s : State) :
    Touches (.memory :: .indicator :: Block.failure) s (jobCompletion b op ok page s) := by
  unfold jobCompletion
  split
  · exact .refl _ s
  · split
    · split
      · exact ((placePage_touches _ _ s).append (endAbandoned_touches _ _ _)).mono (by decide)
      · exact (endAbandoned_touches _ _ s).mono (by decide)
    · split
      · exact (readEnd_touches _ _ _ s).mono (by decide)
      · exact (writeEnd_touches _ _ s).mono (by decide)
      · exact .refl _ s

/-- A list that is no page is not placed (R173). -/
theorem placePage_of_length_ne (b : Fin 8) {page : List Byte} (h : page.length ≠ 4096) (s : State) :
    placePage b page s = s := if_neg h

/-- A completion that carries no page places none: one that is an ERROR, or whose data is not the length of a page. -/
theorem jobCompletion_noPage_touches (b : Fin 8) (op : DOp) {ok : Bool} {page : List Byte}
    (h : ok = false ∨ page.length ≠ 4096) (s : State) :
    Touches (.indicator :: Block.failure) s (jobCompletion b op ok page s) := by
  have hplaced : (if ok then placePage b page s else s) = s := by
    obtain rfl | hlen := h
    · rfl
    · simp [placePage_of_length_ne b hlen]
  unfold jobCompletion
  split
  · exact .refl _ s
  · split
    · rw [hplaced]
      exact (endAbandoned_touches _ _ s).mono (by decide)
    · split
      · obtain rfl | hlen := h
        · exact (readEnd_error_touches _ _ s).mono (by decide)
        · unfold readEnd
          split
          · rw [placePage_of_length_ne _ hlen]
            exact (updJob_touches _ _ s).mono (by decide)
          · exact (failAfter_touches _ _ (endJob_touches _ s) (by decide)).mono (by decide)
      · exact (writeEnd_touches _ _ s).mono (by decide)
      · exact .refl _ s

theorem emptyTable_touches (s : State) :
    Touches [.table, .refusals, .intakes, .output, .attn, .jobs, .downstream] s (emptyTable s) :=
  .of_forall fun b => by cases b <;> simp [Block.same, emptyTable, withdrawJobs]

/-! ## The Cipher Engine, data waits, allocation and the output -/

theorem cipherTake_touches (s : State) : Touches [.jobs] s (cipherTake s) := by
  unfold cipherTake
  split
  · exact .refl _ s
  · split
    · exact .refl _ s
    · exact updJob_touches _ _ s

theorem stopCipher_touches (s : State) : Touches [.jobs, .table] s (stopCipher s) :=
  .foldl (fun s j => endJob_touches j s) _ s

theorem cipherEnd_touches (s : State) : Touches [.memory, .jobs, .downstream] s (cipherEnd s) := by
  unfold cipherEnd
  split
  · dsimp only
    split
    · exact ((putUnit_touches _ _ s).append (updJob_touches _ _ _)).mono (by decide)
    · exact ((putUnit_touches _ _ s).append (updJob_touches _ _ _)).mono (by decide)
    · exact (((putUnit_touches _ _ s).append (updJob_touches _ _ _)).append (requestWrite_touches _ _ _)).mono (by decide)
  · exact .refl _ s

theorem dataWaits_touches (s : State) : Touches [.jobs] s (dataWaits s) :=
  .of_forall fun b => by cases b <;> simp [Block.same, dataWaits]

theorem startJob_touches (b : Fin 8) (x : Txn) (u : Nat) (s : State) :
    Touches [.jobs, .table, .downstream] s (startJob b x u s) := by
  have hjoined (l : List Job) (f : Txn → Txn) :
      Touches [.jobs, .table] s (updTxn x.tag f (s.setUbp { s.ubp with jobs := l })) := by
    have hjobs : Touches [.jobs] s (s.setUbp { s.ubp with jobs := l }) :=
      .of_forall fun k => by cases k <;> simp [Block.same]
    exact hjobs.append (updTxn_touches _ _ _)
  unfold startJob
  dsimp only
  split
  · exact ((hjoined _ _).append (updJob_touches _ _ _)).mono (by decide)
  · exact (((hjoined _ _).append (updJob_touches _ _ _)).append (requestRead_touches _ _ _)).mono (by decide)

theorem allocate_touches (n : Nat) (s : State) : Touches [.jobs, .table, .downstream] s (allocate n s) := by
  induction n generalizing s with
  | zero => exact .refl _ s
  | succ n ih =>
    unfold allocate
    split
    · exact (startJob_touches _ _ _ s).trans (ih _)
    · exact .refl _ s

theorem startRun_touches (o : Output) (s : State) : Touches [.jobs] s (startRun o s) := by
  unfold startRun
  split
  · split
    · exact updJob_touches _ _ s
    · exact .refl _ s
  · exact .refl _ s

theorem grant_touches (s : State) : Touches [.output, .jobs] s (grant s) := by
  unfold grant
  split
  · exact .refl _ s
  · have hgiven (o : Output) : Touches [.output] s (s.setUli { s.uli with output := o }) :=
      .of_forall fun b => by cases b <;> simp [Block.same]
    exact (hgiven _).append (startRun_touches _ _)

/-! ## The sweep and the closure of an event -/

/-- What a window made due can change: the sweep, its DISCARD and its write (R143, R145). -/
def Block.window : List Block := [.downstream, .sweep, .writeQueue]

theorem setSwu_touches (w : Swu) (s : State) : Touches [.sweep] s (s.setSwu w) :=
  .of_forall fun b => by cases b <;> simp [Block.same]

theorem requestWindow_touches (c u : Nat) (s : State) : Touches Block.window s (requestWindow c u s) :=
  ((setSwu_touches _ s).append (makeRequest_touches _ _ _)).mono (by decide)

theorem requestCursor_touches (c : Option Nat) (skipped : Bool) (s : State) :
    Touches Block.window s (requestCursor c skipped s) :=
  ((setSwu_touches _ s).append (ksRequest_touches _ _)).mono (by decide)

theorem makeDue_touches (s : State) : Touches Block.window s (makeDue s) := by
  have hswu (w : Swu) : Touches Block.window s (s.setSwu w) := (setSwu_touches w s).mono (by decide)
  unfold makeDue
  split
  · exact .refl _ s
  · split
    · exact hswu _
    · split
      · split
        · exact requestWindow_touches _ _ s
        · exact (hswu _).trans (requestCursor_touches _ _ _)
      · exact hswu _

theorem afterAdvance_touches (c : Nat) (skipped : Bool) (s : State) :
    Touches Block.window s (afterAdvance c skipped s) := by
  unfold afterAdvance
  split
  · exact requestCursor_touches _ _ s
  · split
    · exact requestCursor_touches _ _ s
    · exact makeDue_touches s

theorem windowResult_touches (r : WindowResult) (n : Nat) (s : State) : Touches Block.window s (windowResult r n s) := by
  have hswu (w : Swu) : Touches Block.window s (s.setSwu w) := (setSwu_touches w s).mono (by decide)
  unfold windowResult
  dsimp only
  split
  · exact hswu _
  · split
    · exact (hswu _).trans (makeDue_touches _)
    · exact (hswu _).trans (makeDue_touches _)
    · exact (hswu _).trans (afterAdvance_touches _ _ _)
    · exact (hswu _).trans (afterAdvance_touches _ _ _)

theorem cursorWritten_touches (wasNone : Bool) (s : State) :
    Touches (.attn :: Block.window) s (cursorWritten wasNone s) := by
  have hswu (w : Swu) : Touches Block.window s (s.setSwu w) := (setSwu_touches w s).mono (by decide)
  unfold cursorWritten
  dsimp only
  split
  · exact (hswu _).mono (by decide)
  · split
    · exact ((hswu _).append (attention_touches _ _)).mono (by decide)
    · exact ((hswu _).trans (makeDue_touches _)).mono (by decide)

theorem eraseHold_touches (s : State) : Touches [.downstream, .sweep] s (eraseHold s) := by
  refine .of_forall fun b => ?_
  unfold eraseHold
  dsimp only
  split <;> cases b <;> simp [Block.same]

theorem sweepStart_touches (s : State) : Touches [.sweep] s (sweepStart s) := setSwu_touches _ s

theorem releaseHold_touches (s : State) : Touches Block.window s (releaseHold s) := by
  unfold releaseHold
  split
  · exact makeDue_touches s
  · exact .refl _ s

theorem sweepReportOk_touches (s : State) : Touches Block.window s (sweepReportOk s) := by
  unfold sweepReportOk
  split
  · exact makeDue_touches s
  · exact .refl _ s

theorem sweepAtStart_touches (s : State) : Touches [.sweep] s (sweepAtStart s) := by
  unfold sweepAtStart
  split <;> exact setSwu_touches _ s

theorem settle_touches (s : State) : Touches Block.follow s (settle s) :=
  (((((((allocate_touches 8 s).append (dataWaits_touches _)).append (releaseHold_touches _)).append
    (issueAll_touches 4 _)).append (cipherTake_touches _)).append (grant_touches _)).append (judge_touches _)).mono
    (by decide)

/-! ## The Access Controller -/

/-- What an event of the AC, the CU or the ECP can change before and in its closure: an intake at a failure, the AC's move,
and what follows. -/
def Block.event : List Block := .intakes :: (Block.moves ++ Block.follow)

theorem setAc_touches (a : Ac) (s : State) : Touches [.access, .acTimers, .idle, .standby] s (s.setAc a) :=
  .of_forall fun b => by cases b <;> simp [Block.same]

theorem setCu_touches (c : Cu) (s : State) : Touches [.credential] s (s.setCu c) :=
  .of_forall fun b => by cases b <;> simp [Block.same]

theorem setEcp_touches (e : Ecp) (s : State) : Touches [.composer] s (s.setEcp e) :=
  .of_forall fun b => by cases b <;> simp [Block.same]

theorem setCe_touches (c : Ce) (s : State) : Touches [.key] s (s.setCe c) :=
  .of_forall fun b => by cases b <;> simp [Block.same]

theorem present_touches (v : Volume) (s : State) : Touches [.attn, .atr, .access, .standby] s (present v s) := by
  unfold present
  split
  · exact .refl _ s
  · exact .of_forall fun b => by cases b <;> simp [Block.same, attention]

theorem enter_touches (a : Access) (s : State) : Touches Block.moves s (enter a s) :=
  (((((setAc_touches _ s).append (setCe_touches _ _)).append (setCu_touches _ _)).append (setEcp_touches _ _)).append
    (present_touches _ _)).mono (by decide)

theorem clearComposition_touches (s : State) : Touches [.composer] s (clearComposition s) := setEcp_touches _ s

theorem moveTo_touches (a : Access) (s : State) : Touches Block.moves s (moveTo a s) :=
  (enter_touches a s).trans ((clearComposition_touches _).mono (by decide))

theorem showVerdict_touches (v : Verdict) (s : State) : Touches [.standby, .indicator] s (showVerdict v s) := by
  unfold showVerdict
  split
  · exact .of_forall fun b => by cases b <;> simp [Block.same]
  · exact (verdictRequest_touches v s).mono (by decide)

theorem reloadIdle_touches (s : State) : Touches [.idle] s (reloadIdle s) := by
  unfold reloadIdle
  split
  · exact .of_forall fun b => by cases b <;> simp [Block.same]
  · exact .refl _ s

theorem loadIdle_touches (s : State) : Touches [.idle] s (loadIdle s) :=
  .of_forall fun b => by cases b <;> simp [Block.same, loadIdle]

theorem overtake_touches (s : State) : Touches [.credential] s (overtake s) := by
  unfold overtake
  split
  · exact setCu_touches _ s
  · exact .refl _ s

theorem lockEvent_touches (c : Cause) (s : State) : Touches (Block.moves ++ Block.failure) s (lockEvent c s) := by
  have hfailed : Touches (Block.moves ++ Block.failure) s
      (failVolume .user (.volumeChanged c) ((stopCipher s).setCe { key := none })) :=
    (((stopCipher_touches s).append (setCe_touches _ _)).append (failVolume_touches _ _ _)).mono (by decide)
  unfold lockEvent
  dsimp only
  split
  · exact hfailed.trans (((overtake_touches _).append (moveTo_touches _ _)).mono (by decide))
  · exact hfailed.trans (((setAc_touches _ _).append (present_touches _ _)).mono (by decide))

theorem ecpReady_touches (s : State) : Touches [.composer] s (ecpReady s) := setEcp_touches _ s

theorem cuIdle_touches (s : State) : Touches [.credential] s (cuIdle s) := setCu_touches _ s

theorem clearScope_touches (s : State) : Touches [.access, .acTimers, .idle, .standby] s (clearScope s) :=
  setAc_touches _ s

/-- The end of the CU's work, with the ECP READY again. -/
theorem cuEnd_touches (s : State) : Touches Block.moves s (ecpReady (cuIdle s)) :=
  ((cuIdle_touches s).append (ecpReady_touches _)).mono (by decide)

/-- The end of the CU's work with the verify scope cleared. -/
theorem cuReported_touches (s : State) : Touches Block.moves s (clearScope (ecpReady (cuIdle s))) :=
  (cuEnd_touches s).trans ((clearScope_touches _).mono (by decide))

/-- A move of the AC is one of its events. -/
theorem Touches.event_of_moves {s t : State} (h : Touches Block.moves s t) : Touches Block.event s t :=
  h.mono (by decide)

/-- A verdict given at the end of an event of the AC. -/
theorem Touches.event_verdict {s t : State} (h : Touches Block.event s t) (v : Verdict) :
    Touches Block.event s (showVerdict v t) :=
  h.trans ((showVerdict_touches v t).mono (by decide))

theorem enterSettling_touches (i : Fin 8) (k : Key) (s : State) : Touches Block.event s (enterSettling i k s) :=
  ((((moveTo_touches _ s).append (setAc_touches _ _)).append (setCe_touches _ _)).append (failVolume_touches _ _ _)).mono
    (by decide)

theorem enterPresented_touches (s : State) : Touches Block.moves s (enterPresented s) :=
  (moveTo_touches _ s).trans ((loadIdle_touches _).mono (by decide))

theorem reportUnlock_touches (i : Fin 8) (k : Key) (s : State) : Touches Block.event s (reportUnlock i k s) :=
  ((cuReported_touches s).event_of_moves.trans (enterSettling_touches i k _)).event_verdict _

theorem reportRefused_touches (s : State) : Touches Block.event s (reportRefused s) :=
  ((cuReported_touches s).trans (moveTo_touches _ _)).event_of_moves.event_verdict _

theorem reportAdmin_touches (k : Key) (s : State) : Touches Block.event s (reportAdmin k s) :=
  Touches.event_verdict (((((cuReported_touches s).trans (moveTo_touches _ _)).append (setAc_touches _ _)).append
    (setCu_touches _ _)).mono (by decide)) _

theorem reportEnd_touches (v : Verdict) (s : State) : Touches Block.event s (reportEnd v s) := by
  have hend := (cuEnd_touches s).event_of_moves
  have hmoved (a : Access) := (hend.trans (moveTo_touches a _).event_of_moves).event_verdict v
  unfold reportEnd
  dsimp only
  split
  · exact hend
  · split
    · exact hmoved _
    · exact hmoved _
    · exact (hend.trans (((clearComposition_touches _).append (setAc_touches _ _)).mono (by decide))).event_verdict v
    · exact hend

theorem stage_touches (p : StageStep) (s : State) : Touches [.credential, .writeQueue] s (stage p s) :=
  (setCu_touches _ s).append (ksRequest_touches _ _)

theorem enterErasing_touches (p : StageStep) (s : State) : Touches Block.event s (enterErasing p s) :=
  ((((moveTo_touches _ s).append (lockEvent_touches _ _)).append (eraseHold_touches _)).append (stage_touches p _)).mono
    (by decide)

theorem reportNoMatch_touches (f : Nat) (s : State) : Touches Block.event s (reportNoMatch f s) := by
  have hreported := (cuReported_touches s).event_of_moves
  unfold reportNoMatch
  dsimp only
  refine Touches.event_verdict ?_ _
  split
  · exact hreported.trans (enterErasing_touches _ _)
  · split
    · exact hreported.trans (((moveTo_touches _ _).append (setAc_touches _ _)).mono (by decide))
    · exact hreported.trans (moveTo_touches _ _).event_of_moves

theorem reportErase_touches (s : State) : Touches Block.event s (reportErase s) :=
  ((cuEnd_touches s).event_of_moves.trans (enterErasing_touches _ _)).event_verdict _

theorem eraseDone_touches (s : State) : Touches Block.event s (eraseDone s) :=
  (((cuEnd_touches s).trans (moveTo_touches _ _)).append (sweepStart_touches _)).mono (by decide)

theorem acLoss_touches (s : State) : Touches (Block.moves ++ Block.failure) s (acLoss s) := by
  unfold acLoss
  split
  · exact lockEvent_touches _ s
  · split
    · exact (setAc_touches _ s).mono (by decide)
    · exact .refl _ s

/-! ## The Credential Unit -/

theorem cuWrite_touches (task : CuTask) (body : KsBody) (s : State) :
    Touches [.credential, .writeQueue] s (cuWrite task body s) :=
  (setCu_touches _ s).append (ksRequest_touches _ _)

/-- A write that the CU asks for is one of the events' effects. -/
theorem cuWrite_touches_event (task : CuTask) (body : KsBody) (s : State) :
    Touches Block.event s (cuWrite task body s) :=
  (cuWrite_touches task body s).mono (by decide)

theorem startVerify_touches (k : VerifyKind) (d : List Digit) (target : Option (Fin 8)) (p : Option EnrolFor)
    (s : State) : Touches [.credential] s (startVerify k d target p s) := setCu_touches _ s

theorem enrolWrite_touches (s : State) : Touches (.draws :: Block.event) s (enrolWrite s) := by
  unfold enrolWrite
  split
  · have hdrawn : Touches [.draws] s { s with draws := s.draws + 1 } :=
      .of_forall fun b => by cases b <;> simp [Block.same]
    exact (hdrawn.append (cuWrite_touches _ _ _)).mono (by decide)
  · exact (cuEnd_touches s).mono (by decide)

theorem failureWrite_touches (s : State) : Touches Block.event s (failureWrite s) := by
  unfold failureWrite
  dsimp only
  split <;> exact cuWrite_touches_event _ _ s

theorem reportMatch_touches (s : State) : Touches Block.event s (reportMatch s) := by
  unfold reportMatch
  split
  · exact reportUnlock_touches _ _ s
  · exact reportRefused_touches s

theorem restore_touches (c : Option Nat) (f : Option CredFields) (s : State) : Touches Block.event s (restore c f s) := by
  unfold restore
  split
  · exact cuWrite_touches_event _ _ s
  · exact cuWrite_touches_event _ _ s
  · exact reportRefused_touches s

theorem secondQuery_touches (c : Option Nat) (f : Option CredFields) (s : State) :
    Touches Block.event s (secondQuery c f s) := by
  unfold secondQuery
  split
  · exact reportMatch_touches s
  · exact restore_touches c f s

theorem zeroFailures_touches (f : Option CredFields) (s : State) : Touches Block.event s (zeroFailures f s) := by
  unfold zeroFailures
  split
  · exact secondQuery_touches _ _ s
  · exact cuWrite_touches_event _ _ s

theorem unlockWrites_touches (i : Fin 8) (s : State) : Touches Block.event s (unlockWrites i s) := by
  unfold unlockWrites
  split
  · exact cuWrite_touches_event _ _ s
  · exact zeroFailures_touches _ s

theorem adminMatch_touches (s : State) : Touches Block.event s (adminMatch s) := by
  unfold adminMatch
  split
  · split
    · exact reportAdmin_touches _ s
    · exact .refl _ s
  · exact cuWrite_touches_event _ _ s

theorem verifyEnded_touches (s : State) : Touches (.draws :: Block.event) s (verifyEnded s) := by
  unfold verifyEnded
  split
  · dsimp only
    have hresult (c : Cu) {t : State} (h : Touches Block.event (s.setCu c) t) : Touches (.draws :: Block.event) s t :=
      ((setCu_touches c s).append h).mono (by decide)
    split
    · exact hresult _ (failureWrite_touches _)
    · split
      · exact hresult _ (unlockWrites_touches _ _)
      · exact hresult _ (reportRefused_touches _)
    · exact hresult _ (failureWrite_touches _)
    · exact hresult _ (adminMatch_touches _)
    · exact hresult _ (failureWrite_touches _)
    · exact hresult _ (reportErase_touches _)
    · split
      · exact hresult _ (cuEnd_touches _).event_of_moves
      · exact ((setCu_touches _ s).append (enrolWrite_touches _)).mono (by decide)
    · exact hresult _ (reportEnd_touches _ _)
  · exact .refl _ s

theorem clearNext_touches (l : List (Fin 8)) (s : State) : Touches Block.event s (clearNext l s) := by
  unfold clearNext
  split
  · exact reportEnd_touches _ s
  · exact cuWrite_touches_event _ _ s

theorem takeHandover_touches (h : Handover) (s : State) : Touches Block.event s (takeHandover h s) := by
  have hverify (k : VerifyKind) (d : List Digit) (i : Option (Fin 8)) (p : Option EnrolFor) :
      Touches Block.event s (startVerify k d i p s) := (startVerify_touches k d i p s).mono (by decide)
  unfold takeHandover
  split
  · exact hverify _ _ _ _
  · exact hverify _ _ _ _
  · exact hverify _ _ _ _
  · split
    · exact hverify _ _ _ _
    · exact reportEnd_touches _ s
  · exact clearNext_touches _ s
  · exact cuWrite_touches_event _ _ s

theorem handOver_touches (h : Handover) (s : State) : Touches Block.event s (handOver h s) := by
  have hcleared (e : Ecp) : Touches Block.event s (s.setEcp e) := (setEcp_touches e s).mono (by decide)
  unfold handOver
  dsimp only
  split
  · exact (hcleared _).trans (takeHandover_touches h _)
  · exact (hcleared _).trans ((setCu_touches _ _).mono (by decide))

theorem nextStage_touches (p : StageStep) (s : State) : Touches Block.event s (nextStage p s) := by
  have hstage (q : StageStep) : Touches Block.event s (stage q s) := (stage_touches q s).mono (by decide)
  unfold nextStage
  split
  · exact hstage _
  · split <;> exact hstage _
  · exact eraseDone_touches s

theorem cuWritten_touches (s : State) : Touches Block.event s (cuWritten s) := by
  have hidle : Touches Block.event s (cuIdle s) := (cuIdle_touches s).mono (by decide)
  unfold cuWritten
  split
  · exact .refl _ s
  · dsimp only
    split
    · exact hidle
    · exact (hidle.trans ((setCu_touches _ _).mono (by decide))).trans (takeHandover_touches _ _)
  · exact zeroFailures_touches _ s
  · exact secondQuery_touches _ _ s
  · exact restore_touches _ _ s
  · exact reportRefused_touches s
  · split
    · exact reportAdmin_touches _ s
    · exact .refl _ s
  · exact reportNoMatch_touches _ s
  · exact reportEnd_touches _ s
  · exact reportEnd_touches _ s
  · exact clearNext_touches _ s
  · exact nextStage_touches _ s

theorem ksWritten_touches (s : State) : Touches ([.medium, .images] ++ Block.event) s (ksWritten s) := by
  unfold ksWritten
  split
  · have htaken (k : Ks) : Touches [.medium, .images, .writeQueue] s (s.setKs k) :=
      .of_forall fun b => by cases b <;> simp [Block.same]
    dsimp only
    split
    · exact ((htaken _).append (cursorWritten_touches _ _)).mono (by decide)
    · exact ((htaken _).append (cuWritten_touches _)).mono (by decide)
  · exact .refl _ s

/-! ## The keypad and the composer -/

theorem setKps_touches (k : Kps) (s : State) : Touches [.keypad] s (s.setKps k) :=
  .of_forall fun b => by cases b <;> simp [Block.same]

theorem produce_touches (p : EntryKey → Bool) (s : State) : Touches [.keypad, .idle] s (produce p s) := by
  unfold produce
  split
  · exact .refl _ s
  · split
    · exact (setKps_touches _ s).append (reloadIdle_touches _)
    · exact .refl _ s

theorem push_touches (d : Digit) (s : State) : Touches [.composer] s (push d s) := by
  unfold push
  split <;> exact setEcp_touches _ s

theorem pop_touches (s : State) : Touches [.composer] s (pop s) := setEcp_touches _ s

theorem cancel_touches (s : State) : Touches Block.moves s (cancel s) := moveTo_touches _ s

theorem cancelWith_touches (v : Verdict) (s : State) : Touches Block.event s (cancelWith v s) :=
  (cancel_touches s).event_of_moves.event_verdict v

theorem submit_touches (admin : Bool) (s : State) : Touches Block.event s (submit admin s) := by
  have hentered (a : Access) (c : Ac) : Touches Block.event s ((enter a s).setAc c) :=
    ((enter_touches a s).append (setAc_touches _ _)).mono (by decide)
  unfold submit
  split
  · exact (moveTo_touches _ s).event_of_moves.event_verdict _
  · dsimp only
    split
    · exact (hentered _ _).trans (handOver_touches _ _)
    · exact (hentered _ _).trans (handOver_touches _ _)

theorem changeRequest_touches (s : State) : Touches Block.event s (changeRequest s) := by
  have hrefused : Touches Block.event s (showVerdict .refused (clearComposition s)) :=
    Touches.event_verdict ((clearComposition_touches s).mono (by decide)) _
  unfold changeRequest
  split
  · split
    · exact hrefused
    · exact (moveTo_touches _ s).event_of_moves
  · exact hrefused

theorem firstEntry_touches (s : State) : Touches Block.event s (firstEntry s) := by
  unfold firstEntry
  split
  · exact cancelWith_touches _ s
  · have hcopied (e : Ecp) : Touches Block.event s (s.setEcp e) := (setEcp_touches e s).mono (by decide)
    dsimp only
    split
    · exact (hcopied _).trans (enter_touches _ _).event_of_moves
    · exact hcopied _

theorem pinEntry_touches (p : EnrolFor) (s : State) : Touches Block.event s (pinEntry p s) := by
  unfold pinEntry
  split
  · exact firstEntry_touches s
  · split
    · exact handOver_touches _ s
    · exact cancelWith_touches _ s

theorem oneDigit_touches {s : State} {f : Digit → State} (h : ∀ d, Touches Block.event s (f d)) :
    Touches Block.event s (oneDigit s f) := by
  unfold oneDigit
  split
  · exact h _
  · exact cancelWith_touches _ s

theorem oneOrTwoDigits_touches {s : State} {f : Nat → State} (h : ∀ v, Touches Block.event s (f v)) :
    Touches Block.event s (oneOrTwoDigits s f) := by
  unfold oneOrTwoDigits
  split
  · exact h _
  · exact cancelWith_touches _ s

theorem submitCommand_touches (c : Fin 10) (s : State) : Touches Block.event s (submitCommand c s) := by
  have hchecked (p : Prop) [Decidable p] (h : Handover) :
      Touches Block.event s (if p then handOver h s else cancelWith .refused s) := by
    split
    · exact handOver_touches h s
    · exact cancelWith_touches _ s
  unfold submitCommand
  split
  · exact pinEntry_touches _ s
  · exact oneDigit_touches fun d => hchecked _ _
  · exact oneDigit_touches fun d => hchecked _ _
  · exact oneOrTwoDigits_touches fun v => handOver_touches _ s
  · exact oneOrTwoDigits_touches fun v => handOver_touches _ s
  · exact pinEntry_touches _ s
  · exact pinEntry_touches _ s
  · exact oneDigit_touches fun d => hchecked _ _
  · split
    · exact handOver_touches _ s
    · exact cancelWith_touches _ s
  · exact .refl _ s

theorem keyEntry_touches (shifted : Bool) (s : State) : Touches Block.event s (keyEntry shifted s) := by
  have hmoved (a : Access) : Touches Block.event s (moveTo a s) := (moveTo_touches a s).event_of_moves
  unfold keyEntry adminKey baseKey
  split
  · split
    · exact hmoved _
    · exact submitCommand_touches _ s
  · split
    · exact hmoved _
    · exact submit_touches _ s
    · exact submit_touches _ s
    · exact pinEntry_touches _ s
    · exact pinEntry_touches _ s
    · exact pinEntry_touches _ s
    · split
      · exact cancelWith_touches _ s
      · split
        · exact changeRequest_touches s
        · exact (lockEvent_touches _ s).mono (by decide)
    · exact .refl _ s

theorem digitEntry_touches (d : Digit) (s : State) : Touches [.composer] s (digitEntry d s) := by
  unfold digitEntry
  split
  · split
    · exact push_touches d s
    · exact .refl _ s
  · split
    · exact push_touches d s
    · exact .refl _ s

theorem tapTaken_touches (s : State) : Touches [.composer] s (tapTaken s) := by
  unfold tapTaken
  split
  · split
    · exact pop_touches s
    · exact .refl _ s
  · split
    · exact pop_touches s
    · exact .refl _ s

theorem selectCommand_touches (d : Digit) (s : State) : Touches [.composer] s (selectCommand d s) := by
  unfold selectCommand
  split
  · split
    · exact clearComposition_touches s
    · exact .refl _ s
  · exact setEcp_touches _ s

theorem flaggedEntry_touches (s : State) : Touches Block.event s (flaggedEntry s) := by
  unfold flaggedEntry
  split
  case h_8 => exact .refl _ s
  all_goals exact cancelWith_touches _ s

theorem afterTake_touches (s : State) : Touches [.composer, .acTimers] s (afterTake s) :=
  .of_forall fun b => by cases b <;> simp [Block.same, afterTake]

/-- An entry taken leaves the FIFO, has the effect its table gives it, and reloads its timers; the closure follows (R106). -/
theorem takeEntry_touches {f : KeyEntry → Option (State → State)}
    (hf : ∀ e act, f e = some act → ∀ s, Touches Block.event s (act s)) (s : State) :
    Touches (.keypad :: Block.event) s (takeEntry f s) := by
  unfold takeEntry
  split
  · exact .refl _ s
  · split
    · exact .refl _ s
    · split
      · exact .refl _ s
      next act hact =>
        exact ((((setKps_touches _ s).append (hf _ act hact _)).append (afterTake_touches _)).append
          (settle_touches _)).mono (by decide)

/-! ## Requests and the upstream link -/

theorem refuse_touches (r : Request) (o : Result) (s : State) : Touches [.refusals] s (refuse r o s) :=
  .of_forall fun b => by cases b <;> simp [Block.same, refuse]

theorem admitRequest_touches (k : TxKind) (t : Fin 16) (r : Request) (s : State) :
    Touches [.table, .downstream] s (admitRequest k t r s) := by
  have hjoined (l : List Txn) : Touches [.table] s (s.setTxns l) :=
    .of_forall fun b => by cases b <;> simp [Block.same]
  exact (hjoined _).append (syncIfUnmarked_touches _ _)

/-- What follows the idle counter's reload at a request record: a refusal, an abort or an admission. -/
theorem takeRequest_touches (r : Request) (s : State) :
    Touches ([.refusals, .idle] ++ Block.failure) s (takeRequest r s) := by
  have hreported : Touches [.idle] s (if r.isTransfer then reloadIdle s else s) := by
    split
    · exact reloadIdle_touches s
    · exact .refl _ s
  unfold takeRequest
  generalize (if r.isTransfer then reloadIdle s else s) = u at hreported
  dsimp only
  split
  · exact (hreported.append (refuse_touches _ _ _)).mono (by decide)
  · split
    · exact (hreported.append (failTxn_touches _ _ _)).mono (by decide)
    · split
      · exact (hreported.append (refuse_touches _ _ _)).mono (by decide)
      · exact (hreported.append (admitRequest_touches _ _ _ _)).mono (by decide)

theorem takeSector_touches (i : Intake) (j : Job) (sector : List Byte) (s : State) :
    Touches [.memory, .intakes, .jobs] s (takeSector i j sector s) := by
  unfold takeSector
  dsimp only
  split
  · exact (((placeSector_touches _ _ _ s).append (closeIntake_touches _ _)).append (updJob_touches _ _ _)).mono (by decide)
  · have hcounted (t : State) (l : List Intake) : Touches [.intakes] t (t.setUli { t.uli with intakes := l }) :=
      .of_forall fun b => by cases b <;> simp [Block.same]
    exact ((placeSector_touches _ _ _ s).append (hcounted _ _)).mono (by decide)

theorem takeWriteData_touches (tag : Byte) (sector : List Byte) (s : State) :
    Touches [.memory, .intakes, .jobs] s (takeWriteData tag sector s) := by
  unfold takeWriteData
  split
  · exact .refl _ s
  · split
    · exact takeSector_touches _ _ _ s
    · exact .refl _ s

theorem waitOnLink_touches (i : LinkItem) (s : State) : Touches [.link] s (waitOnLink i s) :=
  .of_forall fun b => by cases b <;> simp [Block.same, waitOnLink]

theorem requestArrives_touches (r : Request) (s : State) :
    Touches ([.link, .refusals, .intakes, .idle] ++ Block.follow) s (requestArrives r s) := by
  unfold requestArrives
  split
  · exact .refl _ s
  · split
    · exact (waitOnLink_touches _ s).mono (by decide)
    · exact ((takeRequest_touches r s).append (settle_touches _)).mono (by decide)

/-- What an item taken from the link can change: a link signal moves the AC and the keypad, WRITE_DATA a buffer. -/
def Block.taken : List Block := [.refusals, .memory, .keypad] ++ Block.event

theorem takeLinkReset_touches (s : State) : Touches Block.taken s (takeLinkReset s) :=
  ((emptyTable_touches s).append (reloadIdle_touches _)).mono (by decide)

theorem suspendComposer_touches (s : State) : Touches Block.moves s (suspendComposer s) := by
  unfold suspendComposer
  split
  · exact cancel_touches s
  · exact (clearComposition_touches s).mono (by decide)

theorem suspendLock_touches (s : State) : Touches Block.event s (suspendLock s) := by
  unfold suspendLock
  split
  · exact (lockEvent_touches _ s).mono (by decide)
  · exact .refl _ s

theorem takeSuspend_touches (s : State) : Touches Block.taken s (takeSuspend s) := by
  have hemptied : Touches Block.taken s (emptyTable s) := (emptyTable_touches s).mono (by decide)
  unfold takeSuspend
  dsimp only
  split
  · exact hemptied
  · exact hemptied.trans ((((((suspendLock_touches _).append (setAc_touches _ _)).append (setKps_touches _ _)).append
      (suspendComposer_touches _)).append (darken_touches _)).mono (by decide))

theorem resumeReason_touches (s : State) : Touches Block.taken s (resumeReason s) := by
  unfold resumeReason
  split
  · exact ((setAc_touches _ s).append (attention_touches _ _)).mono (by decide)
  · exact .refl _ s

theorem resumeVerdict_touches (s : State) : Touches Block.taken s (resumeVerdict s) := by
  unfold resumeVerdict
  split
  · exact .refl _ s
  · exact ((setAc_touches _ s).append (verdictRequest_touches _ _)).mono (by decide)

theorem takeResume_touches (s : State) : Touches Block.taken s (takeResume s) := by
  unfold takeResume
  split
  · have hawake (a : Ac) : Touches Block.taken s (startKeypad (s.setAc a)) :=
      ((setAc_touches a s).append (setKps_touches _ _)).mono (by decide)
    exact ((hawake _).trans (resumeReason_touches _)).trans (resumeVerdict_touches _)
  · exact .refl _ s

theorem LinkItem.take_touches (i : LinkItem) (s : State) : Touches Block.taken s (i.take s) := by
  cases i with
  | request r => exact (takeRequest_touches r s).mono (by decide)
  | writeData tag sector => exact (takeWriteData_touches tag sector s).mono (by decide)
  | linkReset => exact takeLinkReset_touches s
  | suspend => exact takeSuspend_touches s
  | resume => exact takeResume_touches s

theorem drain_touches (n : Nat) (s : State) : Touches (.link :: Block.taken) s (drain n s) := by
  induction n generalizing s with
  | zero => exact .refl _ s
  | succ n ih =>
    unfold drain
    split
    · exact .refl _ s
    · have hleft (l : List LinkItem) : Touches [.link] s (s.setUli { s.uli with link := l }) :=
        .of_forall fun b => by cases b <;> simp [Block.same]
      exact ((((hleft _).append (LinkItem.take_touches _ _)).append (settle_touches _)).mono (by decide)).trans (ih _)

theorem settleLink_touches (s : State) : Touches (.link :: Block.taken) s (settleLink s) :=
  ((settle_touches s).mono (by decide)).trans (drain_touches _ _)

theorem signalArrives_touches (i : LinkItem) (s : State) : Touches (.link :: Block.taken) s (signalArrives i s) := by
  unfold signalArrives
  split
  · exact .refl _ s
  · exact (waitOnLink_touches i s).mono (by decide)
  · exact ((LinkItem.take_touches i s).mono (by decide)).trans (settleLink_touches _)

/-! ## Records sent, completions and the media -/

theorem refusalSent_touches (s : State) : Touches (.sentUp :: .link :: Block.taken) s (refusalSent s) := by
  unfold refusalSent
  split
  · have hleft (l : List Complete) : Touches [.refusals] s (s.setUli { s.uli with refusals := l }) :=
      .of_forall fun b => by cases b <;> simp [Block.same]
    exact ((((hleft _).append (sendUp_touches _ _)).append (freeOutput_touches _)).append (settleLink_touches _)).mono
      (by decide)
  · exact .refl _ s

theorem stateSent_touches (s : State) : Touches [.attn, .sweep] s (stateSent s) :=
  .of_forall fun b => by cases b <;> simp [Block.same, stateSent]

theorem completeSent_touches (s : State) : Touches ([.sentUp, .attn] ++ Block.follow) s (completeSent s) := by
  unfold completeSent
  split
  · split
    · have hstate (p : Prop) [Decidable p] : Touches [.attn, .sweep] s (if p then stateSent s else s) := by
        split
        · exact stateSent_touches s
        · exact .refl _ s
      exact (((((hstate _).append (sendUp_touches _ _)).append (dropTxn_touches _ _)).append (freeOutput_touches _)).append
        (settle_touches _)).mono (by decide)
    · exact .refl _ s
  · exact .refl _ s

theorem dataWantedSent_touches (s : State) : Touches ([.sentUp, .intakes] ++ Block.follow) s (dataWantedSent s) := by
  unfold dataWantedSent
  split
  · split
    · have hopened (t : State) (l : List Intake) : Touches [.intakes] t (t.setUli { t.uli with intakes := l }) :=
        .of_forall fun b => by cases b <;> simp [Block.same]
      exact ((((sendUp_touches _ s).append (hopened _ _)).append (freeOutput_touches _)).append (settle_touches _)).mono
        (by decide)
    · exact .refl _ s
  · exact .refl _ s

theorem readDataSent_touches (s : State) : Touches (.sentUp :: Block.follow) s (readDataSent s) := by
  unfold readDataSent
  split
  · split
    · have hcounted (r : UpRecord) (t : Fin 16) : Touches (.sentUp :: Block.follow) s (addDone t 1 (sendUp r s)) :=
        ((sendUp_touches r s).append (addDone_touches t 1 _)).mono (by decide)
      dsimp only
      split
      · have hended (j : Job) (t : State) : Touches Block.follow t (freeOutput (endJob j t)) :=
          ((endJob_touches j t).append (freeOutput_touches _)).mono (by decide)
        have hclosed (t : Fin 16) (u : State) : Touches Block.follow u (settle (progress t u)) :=
          ((progress_touches t u).append (settle_touches _)).mono (by decide)
        split
        · exact (hcounted _ _).trans ((((hended _ _).trans ((activityRequest_touches _).mono (by decide))).trans
            (hclosed _ _)).mono (by decide))
        · exact (hcounted _ _).trans (((hended _ _).trans (hclosed _ _)).mono (by decide))
      · exact (hcounted _ _).trans ((updJob_touches _ _ _).mono (by decide))
    · exact .refl _ s
  · exact .refl _ s

theorem overlaySent_touches (s : State) : Touches (.sentUp :: Block.follow) s (overlaySent s) := by
  unfold overlaySent
  split
  · split
    · have hcounted (r : UpRecord) (t : Fin 16) : Touches (.sentUp :: Block.follow) s (addDone t 1 (sendUp r s)) :=
        ((sendUp_touches r s).append (addDone_touches t 1 _)).mono (by decide)
      dsimp only
      split
      · exact hcounted _ _
      · exact (hcounted _ _).trans ((((freeOutput_touches _).append (progress_touches _ _)).append (settle_touches _)).mono
          (by decide))
    · exact .refl _ s
  · exact .refl _ s

theorem dataWaitExpired_touches (t : Fin 16) (s : State) :
    Touches (.intakes :: Block.follow) s (dataWaitExpired t s) := by
  unfold dataWaitExpired
  split
  · split
    · exact (((closeIntake_touches t s).append (failTxn_touches _ _ _)).append (settle_touches _)).mono (by decide)
    · exact .refl _ s
  · exact .refl _ s

theorem ownerTakes_touches (op : DOp) (o : Owner) (ok lost : Bool) (page : List Byte) (s : State) :
    Touches ([.memory, .intakes] ++ Block.follow) s (ownerTakes op o ok lost page s) := by
  unfold ownerTakes
  split
  · exact (jobCompletion_touches _ _ _ _ s).mono (by decide)
  · exact (syncEnd_touches _ _ s).mono (by decide)
  · split
    · exact (windowResult_touches _ _ s).mono (by decide)
    · exact .refl _ s
  · exact .refl _ s

/-- A completion that carries no page leaves the buffers. -/
theorem ownerTakes_noPage_touches (op : DOp) (o : Owner) {ok : Bool} (lost : Bool) {page : List Byte}
    (h : ok = false ∨ page.length ≠ 4096) (s : State) :
    Touches (.intakes :: Block.follow) s (ownerTakes op o ok lost page s) := by
  unfold ownerTakes
  split
  · exact (jobCompletion_noPage_touches _ _ h s).mono (by decide)
  · exact (syncEnd_touches _ _ s).mono (by decide)
  · split
    · exact (windowResult_touches _ _ s).mono (by decide)
    · exact .refl _ s
  · exact .refl _ s

theorem setSlots_touches (l : List Slot) (s : State) : Touches [.downstream] s (s.setDli { s.dli with slots := l }) :=
  .of_forall fun b => by cases b <;> simp [Block.same]

theorem setErrors_touches (l : List PendingError) (s : State) :
    Touches [.downstream] s (s.setDli { s.dli with errors := l }) :=
  .of_forall fun b => by cases b <;> simp [Block.same]

theorem takeCompletion_touches (op d status : Byte) (rest : List Byte) (s : State) :
    Touches ([.memory, .intakes] ++ Block.follow) s (takeCompletion op d status rest s) := by
  unfold takeCompletion
  split
  · exact .refl _ s
  · split
    · exact .refl _ s
    · exact (((setSlots_touches _ s).append (ownerTakes_touches _ _ _ _ _ _)).append (settle_touches _)).mono (by decide)

/-- Only a completion of PAGE_READ's operation byte carries a page (R173). -/
theorem completionOk_noPage (op : DOp) {opByte : Byte} (h : opByte ≠ 1) (status : Byte) (rest : List Byte) :
    completionOk op opByte status rest = false ∨ rest.length ≠ 4096 := by
  simp only [completionOk, completionRest, h, false_and, if_false]
  by_cases hlen : rest.length = 0
  · exact .inr (by omega)
  · exact .inl (by simp [hlen])

theorem takeCompletion_noPage_touches {op : Byte} (hop : op ≠ 1) (d status : Byte) (rest : List Byte) (s : State) :
    Touches (.intakes :: Block.follow) s (takeCompletion op d status rest s) := by
  unfold takeCompletion
  split
  · exact .refl _ s
  · split
    · exact .refl _ s
    · exact (((setSlots_touches _ s).append
        (ownerTakes_noPage_touches _ _ _ (completionOk_noPage _ hop status rest) _)).append (settle_touches _)).mono
          (by decide)

theorem takeError_touches (o : Owner) (s : State) : Touches (.intakes :: Block.follow) s (takeError o s) := by
  unfold takeError
  split
  · exact .refl _ s
  · exact (((setErrors_touches _ s).append (ownerTakes_noPage_touches _ _ _ (.inl rfl) _)).append (settle_touches _)).mono
      (by decide)

theorem takeEarly_touches (early : List Owner) (s : State) :
    Touches (.intakes :: Block.follow) s (takeEarly early s) :=
  .foldl (fun s o => takeError_touches o s) _ s

theorem reportMedia_touches (s : State) : Touches Block.window s (reportMedia s) := by
  unfold reportMedia
  split
  · exact sweepReportOk_touches s
  · exact .refl _ s

/-- What an event of the media can change. -/
def Block.mediaEvent : List Block := [.media, .identWait] ++ Block.event

theorem mediaLost_touches (early : List Owner) (s : State) : Touches Block.mediaEvent s (mediaLost early s) := by
  unfold mediaLost
  split
  · exact .refl _ s
  · exact ((((loseMedia_touches s).append (takeEarly_touches _ _)).append (acLoss_touches _)).append
      (settle_touches _)).mono (by decide)

theorem identTaken_touches (p : BitVec 32) (early : List Owner) (s : State) :
    Touches Block.mediaEvent s (identTaken p early s) := by
  unfold identTaken
  split
  · split
    · exact ((identify_touches p s).append (settle_touches _)).mono (by decide)
    · exact ((((((loseMedia_touches s).append (identify_touches p _)).append (takeEarly_touches _ _)).append
        (acLoss_touches _)).append (reportMedia_touches _)).append (settle_touches _)).mono (by decide)
  · exact (((identify_touches p s).append (reportMedia_touches _)).append (settle_touches _)).mono (by decide)

theorem identWaitExpired_touches (s : State) :
    Touches ([.media, .identWait] ++ Block.follow) s (identWaitExpired s) := by
  unfold identWaitExpired
  split
  · have hexpired : Touches [.media, .identWait] s (s.setDli { s.dli with media := .absent, identWait := none }) :=
      .of_forall fun b => by cases b <;> simp [Block.same]
    exact hexpired.append (settle_touches _)
  · exact .refl _ s

/-! ## Power and time -/

theorem powerOn_touches (s : State) : Touches (blocksOf .powerOn) s (powerOn s) := by
  unfold powerOn
  split
  · exact .of_forall fun b => by cases b <;> simp [Block.same, State.atRelease, blocksOf]
  · exact .refl _ s

theorem powerLoss_touches (fate : WriteFate) (s : State) : Touches (blocksOf .powerOn) s (powerLoss fate s) := by
  unfold powerLoss
  split
  · exact .refl _ s
  · exact .of_forall fun b => by cases b <;> simp [Block.same, State.atRelease, blocksOf]

theorem startAccess_touches (s : State) : Touches Block.event s (startAccess s) := by
  unfold startAccess
  split
  · exact enterErasing_touches _ s
  · exact ((moveTo_touches _ s).append (setAc_touches _ _)).mono (by decide)
  · exact (moveTo_touches _ s).event_of_moves

theorem startRebuild_touches (s : State) : Touches Block.event s (startRebuild s) := by
  unfold startRebuild
  split
  · exact .refl _ s
  · exact cuWrite_touches_event _ _ s

theorem readingComplete_touches (s : State) :
    Touches ([.power, .images, .link] ++ Block.taken) s (readingComplete s) := by
  unfold readingComplete
  split
  · have hrunning (t : State) : Touches [.power] t { t with power := .running } :=
      .of_forall fun b => by cases b <;> simp [Block.same]
    exact (((((((readImages_touches s).append (sweepAtStart_touches _)).append (startAccess_touches _)).append
      (startRebuild_touches _)).append (hrunning _)).append (reportMedia_touches _)).append (settleLink_touches _)).mono
      (by decide)
  · exact .refl _ s

theorem tickAll_touches (s : State) :
    Touches [.intakes, .identWait, .acTimers, .idle, .composer, .indicator] s (tickAll s) :=
  .of_forall fun b => by cases b <;> simp [Block.same, tickAll, State.acTick]

/-! ## The commands -/

/-- A command that waits for power touches what its effect touches. -/
theorem whenPowered_touches {B : List Block} {f : State → State} {s t : State} (h : s.whenPowered f = .next t)
    (hf : Touches B s (f s)) : Touches B s t := by
  cases h
  split
  · exact .refl _ s
  · exact hf

/-- A command that waits for the KS reading touches what its effect touches. -/
theorem whenRunning_touches {B : List Block} {f : State → State} {s t : State} (h : s.whenRunning f = .next t)
    (hf : Touches B s (f s)) : Touches B s t := by
  cases h
  split
  · exact hf
  · exact .refl _ s

/-- What an entry taken touches, a command that takes one touches; the table may read the state. -/
theorem exec_takeEntry_touches {f : State → KeyEntry → Option (State → State)} {s t : State}
    (h : s.whenRunning (fun s => takeEntry (f s) s) = .next t)
    (hf : ∀ e act, f s e = some act → ∀ u, Touches Block.event u (act u)) :
    Touches ([.keypad, .intakes] ++ Block.moves ++ Block.follow) s t :=
  whenRunning_touches h (takeEntry_touches hf s)

/-- The table of the digits taken (R111, R113). -/
def digitTable (s : State) (e : KeyEntry) : Option (State → State) :=
  match e.key with
  | .digit d => if e.flagged ∨ (e.shifted ∧ s.ecp.adminTable) then none else some (digitEntry d)
  | _ => none

/-- The table of the shifted digits taken (R111, R113). -/
def shiftedDigitTable (s : State) (e : KeyEntry) : Option (State → State) :=
  match e.key with
  | .digit d =>
    if e.flagged ∨ e.shifted = false then none
    else if s.ecp.adminTable then some (selectCommand d) else some (digitEntry d)
  | _ => none

theorem exec_digitTaken (s : State) :
    exec .digitTaken s = s.whenRunning (fun s => takeEntry (digitTable s) s) := rfl

theorem exec_shiftedDigitTaken (s : State) :
    exec .shiftedDigitTaken s = s.whenRunning (fun s => takeEntry (shiftedDigitTable s) s) := rfl

theorem exec_digitTaken_touches {s t : State} (h : exec .digitTaken s = .next t) :
    Touches (blocksOf .digitTaken) s t := by
  rw [exec_digitTaken] at h
  refine exec_takeEntry_touches h fun e act hact u => ?_
  unfold digitTable at hact
  split at hact
  · obtain ⟨-, hact⟩ := Option.ite_none_left_eq_some.1 hact
    cases hact
    exact (digitEntry_touches _ u).mono (by decide)
  · cases hact

theorem exec_shiftedDigitTaken_touches {s t : State} (h : exec .shiftedDigitTaken s = .next t) :
    Touches (blocksOf .shiftedDigitTaken) s t := by
  rw [exec_shiftedDigitTaken] at h
  refine exec_takeEntry_touches h fun e act hact u => ?_
  unfold shiftedDigitTable at hact
  split at hact
  · obtain ⟨-, hact⟩ := Option.ite_none_left_eq_some.1 hact
    split at hact <;> cases hact
    · exact (selectCommand_touches _ u).mono (by decide)
    · exact (digitEntry_touches _ u).mono (by decide)
  · cases hact

/-- A command that takes an entry of one kind, with one effect. -/
theorem exec_takeKind_touches {p : KeyEntry → Prop} [DecidablePred p] {act : State → State} {s t : State}
    (h : s.whenRunning (takeEntry fun e => if p e then some act else none) = .next t)
    (hact : ∀ u, Touches Block.event u (act u)) :
    Touches ([.keypad, .intakes] ++ Block.moves ++ Block.follow) s t := by
  refine exec_takeEntry_touches (f := fun _ e => if p e then some act else none) h fun e act' hact' u => ?_
  obtain ⟨-, hact'⟩ := Option.ite_none_right_eq_some.1 hact'
  cases hact'
  exact hact u

/-- An effect under a condition, with the closure after it: a timer's expiry, taken once it is due. -/
theorem expiry_touches {B : List Block} {p : Prop} [Decidable p] {s t : State} (hf : Touches B s t)
    (hB : B ⊆ Block.event) : Touches (.intakes :: (Block.moves ++ Block.follow)) s (if p then settle t else s) := by
  split
  · exact (hf.mono hB).trans ((settle_touches _).mono (by decide))
  · exact .refl _ s

/-- Each command touches only the blocks that its rules touch. -/
theorem exec_touches {c : Instr} {s t : State} (h : exec c s = .next t) : Touches (blocksOf c) s t := by
  cases c with
  | powerOn => cases h; exact powerOn_touches s
  | powerLoss fate => cases h; exact powerLoss_touches fate s
  | ksReadingComplete => cases h; exact (readingComplete_touches s).mono (by decide)
  | tick => exact whenPowered_touches h (tickAll_touches s)
  | readRequest | writeRequest | flushRequest | sizeRequest | stateRequest | abort | unknownKindRequest =>
    cases h
    exact requestArrives_touches _ s
  | writeData tag sector =>
    cases h
    show Touches ([.link, .intakes, .memory] ++ Block.follow) s _
    split
    · exact .refl _ s
    · exact (waitOnLink_touches _ s).mono (by decide)
    · exact ((takeWriteData_touches tag sector s).append (settle_touches _)).mono (by decide)
  | linkReset | suspend | resume => cases h; exact (signalArrives_touches _ s).mono (by decide)
  | upstreamFrameDropped | downstreamFrameDropped => cases h; exact .refl _ s
  | refusalSent => exact whenRunning_touches h ((refusalSent_touches s).mono (by decide))
  | completeSent => exact whenRunning_touches h (completeSent_touches s)
  | dataWantedSent => exact whenRunning_touches h (dataWantedSent_touches s)
  | readDataSent => exact whenRunning_touches h (readDataSent_touches s)
  | overlayReadDataSent => exact whenRunning_touches h (overlaySent_touches s)
  | dataWaitExpiry tag => exact whenRunning_touches h (dataWaitExpired_touches tag s)
  | pageReadCompletion d status rest => exact whenPowered_touches h (takeCompletion_touches 1 d status rest s)
  | pageWriteCompletion d status rest =>
    exact whenPowered_touches h (takeCompletion_noPage_touches (by decide) d status rest s)
  | syncCompletion d status rest =>
    exact whenPowered_touches h (takeCompletion_noPage_touches (by decide) d status rest s)
  | discardCompletion d status rest =>
    exact whenPowered_touches h (takeCompletion_noPage_touches (by decide) d status rest s)
  | ident p early => exact whenPowered_touches h (identTaken_touches p early s)
  | mediaLost early => exact whenPowered_touches h (mediaLost_touches early s)
  | errorCompletionTaken o => exact whenPowered_touches h (takeError_touches o s)
  | identWaitExpiry => exact whenPowered_touches h (identWaitExpired_touches s)
  | cipherCompletion =>
    refine whenRunning_touches (f := fun s => settle (cipherEnd s)) h ?_
    exact ((cipherEnd_touches s).append (settle_touches _)).mono (by decide)
  | keyEntryProduced | shiftTapProduced => exact whenPowered_touches h (produce_touches _ s)
  | digitTaken => exact exec_digitTaken_touches h
  | shiftedDigitTaken => exact exec_shiftedDigitTaken_touches h
  | shiftTapTaken => exact exec_takeKind_touches h fun u => (tapTaken_touches u).mono (by decide)
  | keyTaken | shiftedKeyTaken => exact exec_takeKind_touches h fun u => keyEntry_touches _ u
  | flaggedEntryTaken => exact exec_takeKind_touches h fun u => flaggedEntry_touches u
  | entryTimeout =>
    exact whenRunning_touches (f := fun s => if s.ecp.timer.due ∧ s.ecp.ready then settle (cancel s) else s) h
      (expiry_touches (cancel_touches s) (by decide))
  | verifyEnd =>
    refine whenRunning_touches (f := fun s => settle (verifyEnded s)) h ?_
    exact ((verifyEnded_touches s).append (settle_touches _)).mono (by decide)
  | ksWriteComplete =>
    refine whenRunning_touches (f := fun s => settle (ksWritten s)) h ?_
    exact ((ksWritten_touches s).append (settle_touches _)).mono (by decide)
  | settleTimerExpiry =>
    exact whenRunning_touches
      (f := fun s => if s.ac.access = .settling ∧ s.ac.settle.due then settle (enterPresented s) else s) h
      (expiry_touches (enterPresented_touches s) (by decide))
  | lockoutTimerExpiry =>
    exact whenRunning_touches
      (f := fun s => if s.ac.access = .lockout ∧ s.ac.lockout.due then settle (moveTo .lockedIdle s) else s) h
      (expiry_touches (moveTo_touches _ s) (by decide))
  | adminSessionTimerExpiry =>
    exact whenRunning_touches
      (f := fun s => if s.ac.access = .adminSession ∧ s.ac.admin.due then settle (moveTo .lockedIdle s) else s) h
      (expiry_touches (moveTo_touches _ s) (by decide))
  | idleCounterExpiry =>
    exact whenRunning_touches
      (f := fun s =>
        if s.ac.access = .presented ∧ s.ac.standby = false ∧ s.ac.idle.due then settle (lockEvent .idle s) else s) h
      (expiry_touches (lockEvent_touches _ s) (by decide))
  | briefPatternRunout =>
    refine whenPowered_touches (f := fun s => settle (briefRunout s)) h ?_
    exact ((briefRunout_touches s).append (settle_touches _)).mono (by decide)
  | activityRestEnd => exact whenPowered_touches h (restEnd_touches s)
  | patternClock =>
    refine whenPowered_touches (f := fun s => s.setInd (patternTick s.ind)) h ?_
    exact .of_forall fun b => by cases b <;> simp [Block.same, blocksOf]
  | scan closed => exact whenPowered_touches (f := fun s => s.setKps (s.kps.scan closed)) h (setKps_touches _ s)

/-- Settles O8: each operation touches the blocks listed for it, and a command those of its operations. -/
theorem commandsChangeOnlyTheirBlocks : Obligations.CommandsChangeOnlyTheirBlocks :=
  fun _ _ _ h => exec_touches h

/-- Every command answers a next state: no meaning faults or refuses. -/
theorem exec_next (c : Instr) (s : State) : ∃ t, exec c s = .next t := by
  cases c <;> exact ⟨_, rfl⟩

/-- Settles O2: every meaning answers a next state, and the queue is a block that no command touches. -/
theorem everyCommandCompletes : Obligations.EveryCommandCompletes := by
  intro c s
  obtain ⟨t, ht⟩ := exec_next c s
  exact ⟨t, ht, exec_touches ht .pending (by cases c <;> simp [blocksOf, Block.moves, Block.follow])⟩

/-- Settles O16: the bytes of the buffers are a block that only the commands that place something touch. -/
theorem buffersChangeOnlyAtTransfers : Obligations.BuffersChangeOnlyAtTransfers := by
  intro c s t hc h a
  have hmem : t.ubp.mem = s.ubp.mem := by
    refine exec_touches h .memory ?_
    cases c with
    | writeData | pageReadCompletion | cipherCompletion | powerOn | powerLoss | ksReadingComplete | linkReset | suspend
    | resume | refusalSent => cases hc
    | _ => simp [blocksOf, Block.moves, Block.follow]
  rw [hmem]

end Sys2Proof.Machine


/-! PROOF. The queue, the part without power, the tick, and what a power loss and the release of NPOR leave: obligations O1,
O3, O17, O18 and O20. -/

namespace Sys2Proof.Machine

open Sys2Proof

/-! ## The queue -/

/-- Settles O1: both halves are the two branches of `step`. -/
theorem stepRunsFrontCommand : Obligations.StepRunsFrontCommand := by
  refine ⟨fun s c rest => rfl, fun s h => ?_⟩
  simp only [step, h]

/-! ## Without power, and before the reading has completed -/

theorem State.whenRunning_of_ne_running {s : State} (h : s.power ≠ .running) (f : State → State) :
    s.whenRunning f = .next s := by
  simp [State.whenRunning, h]

theorem requestArrives_of_off {s : State} (h : s.power = .off) (r : Request) : requestArrives r s = s := by
  simp [requestArrives, h]

theorem requestArrives_of_reading {s : State} (h : s.power = .reading) (r : Request) :
    requestArrives r s = waitOnLink (.request r) s := by
  simp [requestArrives, h]

theorem signalArrives_of_off {s : State} (h : s.power = .off) (i : LinkItem) : signalArrives i s = s := by
  simp [signalArrives, h]

theorem signalArrives_of_reading {s : State} (h : s.power = .reading) (i : LinkItem) :
    signalArrives i s = waitOnLink i s := by
  simp [signalArrives, h]

/-- Without power every command but POWER_ON leaves the state as it was. -/
theorem exec_of_off {c : Instr} {s : State} (h : s.power = .off) (hc : c ≠ .powerOn) : exec c s = .next s := by
  have hrun : s.power ≠ .running := by simp [h]
  cases c with
  | powerOn => exact absurd rfl hc
  | powerLoss fate => exact congrArg Host.Outcome.next (if_pos h)
  | ksReadingComplete => exact congrArg Host.Outcome.next (if_neg (by simp [h]))
  | readRequest | writeRequest | flushRequest | sizeRequest | stateRequest | abort | unknownKindRequest =>
    exact congrArg Host.Outcome.next (requestArrives_of_off h _)
  | writeData tag sector => simp [exec, execWriteData, h]
  | linkReset | suspend | resume => exact congrArg Host.Outcome.next (signalArrives_of_off h _)
  | upstreamFrameDropped | downstreamFrameDropped => rfl
  | tick | pageReadCompletion | pageWriteCompletion | syncCompletion | discardCompletion | ident | mediaLost
  | errorCompletionTaken | identWaitExpiry | keyEntryProduced | shiftTapProduced | briefPatternRunout
  | activityRestEnd | patternClock | scan => exact congrArg Host.Outcome.next (if_pos h)
  | _ => exact congrArg Host.Outcome.next (if_neg hrun)

/-- The command a request record is read as is the arrival of that record. -/
theorem exec_requestOf (r : Request) (s : State) :
    exec (requestOf r.kind r.tag r.lba r.count) s = .next (requestArrives r s) := by
  obtain ⟨kind, tag, lba, count⟩ := r
  unfold requestOf
  repeat' split
  all_goals
    subst_vars
    rfl

/-- Settles O3: the links and the keypad wait behind the guards of `whenRunning`, `requestArrives` and `signalArrives`. -/
theorem nothingIsTakenBeforeRunning : Obligations.NothingIsTakenBeforeRunning := by
  refine ⟨fun c s h hc => exec_of_off h hc, fun s h => ?_⟩
  have hrun : s.power ≠ .running := by simp [h]
  refine ⟨fun r => ?_, fun tag sector => ?_, congrArg Host.Outcome.next (signalArrives_of_reading h _),
    congrArg Host.Outcome.next (signalArrives_of_reading h _), congrArg Host.Outcome.next (signalArrives_of_reading h _),
    State.whenRunning_of_ne_running hrun _, State.whenRunning_of_ne_running hrun _,
    State.whenRunning_of_ne_running hrun _, State.whenRunning_of_ne_running hrun _,
    State.whenRunning_of_ne_running hrun _, State.whenRunning_of_ne_running hrun _⟩
  · rw [exec_requestOf, requestArrives_of_reading h]
    rfl
  · simp [exec, execWriteData, h, waitOnLink]

/-! ## The tick -/

theorem Timer.tick_eq_map (t : Timer) : t.tick = Option.map (· - 1) t := by
  cases t <;> rfl

/-- Settles O20: `tickAll` field by field. -/
theorem tickCountsTimers : Obligations.TickCountsTimers := by
  intro s h
  have hexec : exec .tick s = .next (tickAll s) := State.whenPowered_of_ne_off h _
  rw [hexec]
  simp [tickAll, State.acTick, Ind.tick, Timer.tickIf, Timer.tick_eq_map, State.adminCounts, State.idleCounts]

/-! ## Power-on values -/

theorem State.atRelease_atPowerOn (nvm : Nvm) (draws : Nat) (up : List UpRecord) (down : List DownRecord)
    (pending : List Instr) : (State.atRelease nvm draws up down pending).AtPowerOn where
  attn := rfl
  line := rfl
  table := ⟨rfl, rfl, rfl, rfl⟩
  jobs := rfl
  key := rfl
  downstream := ⟨rfl, rfl⟩
  media := ⟨rfl, rfl, rfl, rfl⟩
  wait := rfl
  presented := ⟨rfl, rfl⟩
  access := ⟨rfl, rfl, rfl, rfl, rfl, rfl, rfl, rfl, rfl⟩
  keypad := ⟨rfl, rfl, rfl⟩
  composer := ⟨rfl, rfl, rfl, rfl, rfl, rfl, rfl⟩
  credential := ⟨rfl, rfl, rfl, rfl, rfl, rfl⟩
  indicator := ⟨rfl, rfl, rfl, rfl⟩

/-- At the release BASE alone requests. -/
theorem State.atRelease_requests (nvm : Nvm) (draws : Nat) (up : List UpRecord) (down : List DownRecord)
    (pending : List Instr) (x : Source) : (State.atRelease nvm draws up down pending).requests x ↔ x = .base := by
  cases x <;> simp [State.requests, State.atRelease]

/-- The state at the release holds nothing that a rule could be broken by. -/
theorem State.atRelease_safe (nvm : Nvm) (draws : Nat) (up : List UpRecord) (down : List DownRecord)
    (pending : List Instr) : (State.atRelease nvm draws up down pending).Safe where
  memory := by simp [State.MemoryOk, Memory.wf, State.atRelease]
  presentation := ⟨rfl, rfl⟩
  key := by simp [State.KeyOk, State.atRelease]
  sessionKey := by simp [State.SessionKeyOk, State.atRelease]
  fifo := by simp [State.FifoOk, State.atRelease]
  refusals := by simp [State.RefusalsOk, State.atRelease]
  stack := by simp [State.StackOk, State.atRelease]
  tags := by simp [State.TagsOk, State.atRelease]
  buffers := by simp [State.BuffersOk, State.atRelease]
  units := by simp [State.UnitsOk, State.atRelease]
  held := by simp [State.HeldOk, State.atRelease]
  slots := by simp [State.SlotsOk, State.atRelease]
  active := by simp [State.ActiveOk, State.atRelease]
  table := by simp [State.TableOk, State.atRelease]
  shown := by
    refine ⟨(State.atRelease_requests ..).2 rfl, fun x hx => ?_⟩
    rw [(State.atRelease_requests ..).1 hx]
    rfl
  pattern := {
    condition := by simp [State.atRelease]
    pattern := rfl
    phase := .inl rfl }
  requests := {
    owners := by simp [State.opOwners, State.atRelease]
    named := by simp [State.atRelease]
    jobRequests := by simp [State.atRelease]
    jobSlots := by simp [State.atRelease]
    jobErrors := by simp [State.atRelease]
    syncs := by simp [State.opOwners, State.atRelease]
    sweep := by simp [State.opOwners, State.atRelease]
    flushes := by simp [State.atRelease]
    sending := by simp [State.atRelease] }
  waits := {
    lower := by simp [State.atRelease]
    one := by simp [State.atRelease]
    next := by simp [State.atRelease] }
  reading := fun _ => ⟨rfl, rfl, rfl, rfl, rfl, rfl, rfl⟩
  writing := {
    idle := fun _ => rfl
    cred := by simp [State.atRelease]
    dev := by simp [State.atRelease] }

/-- Settles O17: reset and the release of NPOR both hold `State.atRelease`. -/
theorem powerOnValues : Obligations.PowerOnValues := by
  refine ⟨rfl, State.atRelease_atPowerOn .., rfl, State.atRelease_safe .., fun s h => ⟨powerOn s, rfl, ?_⟩⟩
  rw [powerOn, if_pos h]
  exact ⟨rfl, State.atRelease_atPowerOn .., rfl⟩

/-! ## Power loss -/

/-- What a power loss takes from a part with power: all but the key store, whose medium it leaves as `Ks.afterLoss` says. -/
theorem powerLoss_fields (fate : WriteFate) {s : State} (h : s.power ≠ .off) :
    (powerLoss fate s).power = .off ∧ (powerLoss fate s).txns = [] ∧ (powerLoss fate s).ubp.jobs = [] ∧
      (powerLoss fate s).ce.key = none ∧ (powerLoss fate s).cu.sessionKey = none ∧ (powerLoss fate s).kps.fifo = [] ∧
      (powerLoss fate s).ecp.stack = [] ∧ (powerLoss fate s).uli.refusals = [] ∧ (powerLoss fate s).uli.intakes = [] ∧
      (powerLoss fate s).ac.held = none ∧ (powerLoss fate s).ac.standby = false ∧
      (powerLoss fate s).dli.usable = none ∧ (powerLoss fate s).ind.slot = none ∧
      (powerLoss fate s).ks.nvm = s.ks.afterLoss fate s.draws := by
  rw [powerLoss, if_neg h]
  exact ⟨rfl, rfl, rfl, rfl, rfl, rfl, rfl, rfl, rfl, rfl, rfl, rfl, rfl, rfl⟩

theorem CredRecord.torn_passes (n : Nat) : (CredRecord.torn n).passes = false := by
  simp [CredRecord.passes, CredRecord.torn]

theorem DevRecord.torn_passes (n : Nat) : (DevRecord.torn n).passes = false := by
  simp [DevRecord.passes, DevRecord.torn]

/-- The write of a credential record leaves the device record and the other slots of the medium. -/
theorem Nvm.write_cred (m : Nvm) (i : Fin 8) (r : CredRecord) (h : m.creds.length = 8) :
    (m.write (.cred i r)).dev = m.dev ∧ (∀ j : Fin 8, j ≠ i → (m.write (.cred i r)).creds[j.val]? = m.creds[j.val]?) ∧
      (m.write (.cred i r)).creds[i.val]? = some r := by
  refine ⟨rfl, fun j hj => ?_, ?_⟩
  · exact List.getElem?_set_ne (fun hij => hj (Fin.ext hij.symm))
  · exact List.getElem?_set_self (by omega)

/-- The record of a credential write in flight, by the fate of the write (R123). -/
theorem Ks.afterLoss_cred {k : Ks} {i : Fin 8} {r : CredRecord} (hw : k.writing = some (.cred i r))
    (h : k.nvm.creds.length = 8) (fate : WriteFate) (draws : Nat) :
    (k.afterLoss fate draws).dev = k.nvm.dev ∧
      (∀ j : Fin 8, j ≠ i → (k.afterLoss fate draws).creds[j.val]? = k.nvm.creds[j.val]?) ∧
      (fate = .asWritten → (k.afterLoss fate draws).creds[i.val]? = some r) ∧
      (fate = .failing → ∃ q, (k.afterLoss fate draws).creds[i.val]? = some q ∧ q.passes = false) := by
  cases fate with
  | asBefore => simp [Ks.afterLoss, hw]
  | asWritten =>
    obtain ⟨hdev, hother, hown⟩ := k.nvm.write_cred i r h
    simp only [Ks.afterLoss, hw]
    exact ⟨hdev, hother, fun _ => hown, nofun⟩
  | failing =>
    obtain ⟨hdev, hother, hown⟩ := k.nvm.write_cred i (CredRecord.torn draws) h
    simp only [Ks.afterLoss, hw]
    exact ⟨hdev, hother, nofun, fun _ => ⟨_, hown, CredRecord.torn_passes draws⟩⟩

/-- The device record of a write in flight, by the fate of the write (R123). -/
theorem Ks.afterLoss_dev {k : Ks} {r : DevRecord} (hw : k.writing = some (.dev r)) (fate : WriteFate) (draws : Nat) :
    (k.afterLoss fate draws).creds = k.nvm.creds ∧ (fate = .asWritten → (k.afterLoss fate draws).dev = r) ∧
      (fate = .failing → (k.afterLoss fate draws).dev.passes = false) := by
  cases fate with
  | asBefore => simp [Ks.afterLoss, hw]
  | asWritten => simp [Ks.afterLoss, hw, Nvm.write]
  | failing => simp [Ks.afterLoss, hw, Nvm.write, DevRecord.torn_passes]

theorem Ks.afterLoss_unwritten {k : Ks} {fate : WriteFate} (h : k.writing = none ∨ fate = .asBefore) (draws : Nat) :
    k.afterLoss fate draws = k.nvm := by
  unfold Ks.afterLoss
  split <;> simp_all

/-- Settles O18: the medium by the fate of the write in flight, the rest as `powerLoss_fields` lists it. -/
theorem powerLossLeavesKeyStore : Obligations.PowerLossLeavesKeyStore := by
  intro s fate h hlen
  obtain ⟨hpower, htxns, hjobs, hkey, hsession, hfifo, hstack, hrefusals, hintakes, hheld, hstandby, husable, hslot, hnvm⟩ :=
    powerLoss_fields fate h
  refine ⟨powerLoss fate s, rfl, hpower, htxns, hjobs, hkey, hsession, hfifo, hstack, hrefusals, hintakes, hheld, hstandby,
    husable, hslot, fun hw => ?_, fun i r hw => ?_, fun r hw => ?_⟩
  · rw [hnvm, Ks.afterLoss_unwritten hw]
  · rw [hnvm]
    exact Ks.afterLoss_cred hw hlen fate _
  · rw [hnvm]
    exact Ks.afterLoss_dev hw fate _

end Sys2Proof.Machine


/-! PROOF. The keypad: an entry produced (O46), and what one scan of the matrix recognises (O48). -/

namespace Sys2Proof.Machine

open Sys2Proof

/-! ## Entries produced -/

/-- Settles O46: the entry is placed by `placeEntry`, and the reload of the idle counter changes nothing else. -/
theorem entriesPlaced : Obligations.EntriesPlaced := by
  intro s e rest hon hdue
  refine ⟨placeEntry s.kps.fifo e, ?_, fun hlen => if_pos hlen, fun hlen => ?_⟩
  · rw [exec_produced hon hdue]
    unfold reloadIdle State.idleTicks
    simp only [State.setKps_fields]
    split <;> rfl
  · have hfull : placeEntry s.kps.fifo e = s.kps.fifo.take 5 ++ [{ e with overrun := true }] := if_neg (by omega)
    exact ⟨hfull, by simp [hfull, hlen]⟩

/-! ## Debouncing -/

/-- A key of the twelve after a scan. -/
theorem scanKeys_getElem? (closed : BitVec 12) {keys : List KeyScan} {p : Nat} (hp : p < 12) {x : KeyScan}
    (hx : keys[p]? = some x) : (scanKeys closed keys)[p]? = some (x.scan (closed.getLsbD p)) := by
  simp [scanKeys, hp, List.getD_eq_getElem?_getD, hx]

/-- The debouncing of one key, by whether its run of differing readings is long enough (R101). -/
theorem KeyScan.scan_eq (c : Bool) (x : KeyScan) :
    x.scan c = if c = x.down then { x with run := 0 }
      else if x.run < 2 then { x with run := x.run + 1 } else { down := c, run := 0 } := by
  by_cases hrun : x.run < 2
  · simp [KeyScan.scan, hrun, Nat.not_le.2 hrun]
  · simp [KeyScan.scan, hrun, Nat.not_lt.1 hrun]

/-! ## The keys recognised DOWN -/

/-- The elements of a rising list that `f` admits, from the first admitted on. -/
theorem filter_of_first {l : List Nat} (hl : l.Pairwise (· < ·)) {f : Nat → Bool} {p : Nat} (hp : p ∈ l)
    (hf : f p = true) (hbelow : ∀ r ∈ l, r < p → f r = false) :
    l.filter f = p :: l.filter (fun q => decide (p < q) && f q) := by
  induction l with
  | nil => cases hp
  | cons a l ih =>
    obtain ⟨ha, hl⟩ := List.pairwise_cons.1 hl
    rcases List.mem_cons.1 hp with rfl | hp
    · have habove : l.filter (fun q => decide (p < q) && f q) = l.filter f :=
        List.filter_congr fun q hq => by simp [ha q hq]
      simp [hf, habove]
    · have hap : a < p := ha p hp
      have hfa : f a = false := hbelow a (by simp) hap
      have hpa : ¬ p < a := by omega
      simp [hfa, hpa, ih hl hp fun r hr => hbelow r (List.mem_cons_of_mem _ hr)]

theorem groupPositions_rising : groupPositions.Pairwise (· < ·) := by decide

theorem anyDown_eq_true {keys : List KeyScan} : anyDown keys = true ↔ ∃ q ∈ groupPositions, downAt keys q = true := by
  simp [anyDown]

theorem anyDown_eq_false {keys : List KeyScan} : anyDown keys = false ↔ ∀ q ∈ groupPositions, downAt keys q = false := by
  simp [anyDown]

/-- Nothing is recognised DOWN where no digit or KEY that was UP is DOWN. -/
theorem wentDown_eq_nil {old new : List KeyScan} :
    wentDown old new = [] ↔ ∀ p ∈ groupPositions, downAt old p = false → downAt new p = false := by
  simp [wentDown, List.filter_eq_nil_iff]

theorem wentDown_ne_nil {old new : List KeyScan} {p : Nat} (hp : p ∈ groupPositions) (hold : downAt old p = false)
    (hnew : downAt new p = true) : wentDown old new ≠ [] := by
  intro h
  simp [wentDown_eq_nil.1 h p hp hold] at hnew

/-- The keys recognised DOWN, the first in scan order apart. -/
theorem wentDown_of_first {old new : List KeyScan} {p : Nat} (hp : p ∈ groupPositions) (hold : downAt old p = false)
    (hnew : downAt new p = true) (hbelow : ∀ r ∈ groupPositions, r < p → downAt new r = false) :
    wentDown old new =
      p :: groupPositions.filter (fun q => decide (p < q) && (!downAt old q && downAt new q)) :=
  filter_of_first groupPositions_rising hp (by simp [hold, hnew]) fun r hr hlt => by simp [hbelow r hr hlt]

/-! ## Press groups and shift holds -/

/-- An open group stays the open one, chorded where another key is recognised DOWN. -/
theorem groupOpen_some (g : Group) (down : List Nat) (shift : Bool) :
    groupOpen (some g) down shift = some (if down = [] then g else { g with chorded := true }) := by
  cases down <;> rfl

/-- The group stays open while a digit or KEY is DOWN, with no entry. -/
theorem groupClose_of_down {keys : List KeyScan} (h : anyDown keys = true) (g : Option Group) :
    groupClose g keys = (g, []) := by
  cases g <;> simp [groupClose, h]

theorem groupClose_of_up {keys : List KeyScan} (h : anyDown keys = false) (g : Group) :
    groupClose (some g) keys = (none, [g.entry]) := by
  simp [groupClose, h]

/-- A group makes an entry only where one was open before the scan: one opened at the scan has its lead DOWN. -/
theorem groupClose_entries_of_none {old new : List KeyScan} (shift : Bool) :
    (groupClose (groupOpen none (wentDown old new) shift) new).2 = [] := by
  cases hdown : wentDown old new with
  | nil => rfl
  | cons p rest =>
    have hp : p ∈ wentDown old new := by simp [hdown]
    obtain ⟨hp, hnew⟩ := List.mem_filter.1 hp
    have hany : anyDown new = true := anyDown_eq_true.2 ⟨p, hp, by simp_all⟩
    rw [groupClose_of_down hany]

/-- The shift hold opens as SHIFT goes DOWN, clean where no digit or KEY is DOWN. -/
theorem holdScan_of_opening (h : Option Bool) {old new : List KeyScan} (down : List Nat) (hold : downAt old 9 = false)
    (hnew : downAt new 9 = true) : (holdScan h old new down).1 = some (!anyDown new) := by
  simp [holdScan, shiftPosition, hold, hnew]

/-- The shift hold stays clean while no digit or KEY is recognised DOWN. -/
theorem holdScan_of_down (clean : Bool) {old new : List KeyScan} (down : List Nat) (hold : downAt old 9 = true)
    (hnew : downAt new 9 = true) : (holdScan (some clean) old new down).1 = some (clean && down.isEmpty) := by
  simp [holdScan, shiftPosition, hold, hnew]

theorem holdScan_of_closing (h : Option Bool) {old new : List KeyScan} (down : List Nat) (hold : downAt old 9 = true)
    (hnew : downAt new 9 = false) : (holdScan h old new down).1 = none := by
  simp [holdScan, shiftPosition, hold, hnew]

/-! ## One scan -/

/-- The fields of the keypad after a scan. -/
theorem Kps.scan_fields (closed : BitVec 12) {k : Kps} (h : k.scanning = true) :
    (k.scan closed).fifo = k.fifo ∧ (k.scan closed).keys = scanKeys closed k.keys ∧
      (k.scan closed).group = (groupClose (groupOpen k.group (wentDown k.keys (scanKeys closed k.keys))
        (downAt (scanKeys closed k.keys) 9)) (scanKeys closed k.keys)).1 ∧
      (k.scan closed).hold = (holdScan k.hold k.keys (scanKeys closed k.keys)
        (wentDown k.keys (scanKeys closed k.keys))).1 ∧
      (k.scan closed).due = k.due ++ (groupClose (groupOpen k.group (wentDown k.keys (scanKeys closed k.keys))
        (downAt (scanKeys closed k.keys) 9)) (scanKeys closed k.keys)).2 ++
        (holdScan k.hold k.keys (scanKeys closed k.keys) (wentDown k.keys (scanKeys closed k.keys))).2 := by
  rw [Kps.scan, if_pos h]
  exact ⟨rfl, rfl, rfl, rfl, rfl⟩

/-- Settles O48: the keys by `KeyScan.scan_eq`, the group and the hold by the laws of `groupOpen`, `groupClose` and
`holdScan` on the keys recognised DOWN. -/
theorem scanRecognises : Obligations.ScanRecognises := by
  intro s closed hon
  have hexec : exec (.scan closed) s = .next (s.setKps (s.kps.scan closed)) := congrArg Host.Outcome.next (if_neg hon)
  refine ⟨fun h => ?_, fun h => ⟨s.kps.scan closed, hexec, ?_⟩⟩
  · rw [hexec, Kps.scan, if_neg (by simp [h])]
    rfl
  obtain ⟨hfifo, hkeys, hgroup, hhold, hdue⟩ := s.kps.scan_fields closed h
  have htap : (holdScan s.kps.hold s.kps.keys (scanKeys closed s.kps.keys)
      (wentDown s.kps.keys (scanKeys closed s.kps.keys))).2 = s.tapOf (s.kps.scan closed) := by
    rw [holdScan_entries, State.tapOf, hkeys]
    rfl
  rw [htap] at hdue
  rw [hgroup, hhold, hdue]
  simp only [hkeys]
  generalize s.kps.scan closed = k at *
  generalize hnew : scanKeys closed s.kps.keys = new at *
  refine ⟨hfifo, fun p hp x hx => ?_, fun p hp hnone hold hdown honly => ?_, fun g hg hup => ?_, fun hcase => ?_,
    fun hquiet => ⟨fun hnone => ?_, fun hany => ?_⟩, fun p q hnone hp hq hpq hup hdown hdown' hbelow => ?_,
    fun g p hg hp hold hdown => ?_, fun hold hdown => ?_, fun clean hclean hold hdown => ?_, fun hold hdown => ?_⟩
  · rw [← hnew, scanKeys_getElem? closed hp hx, KeyScan.scan_eq]
  · have halone : wentDown s.kps.keys new = [p] := by
      rw [wentDown_of_first hp hold hdown fun r hr hlt => (honly r hr (by omega)).2, List.filter_eq_nil_iff.2]
      intro q hq
      by_cases hqp : p < q
      · simp [(honly q hq (by omega)).2]
      · simp [hqp]
    rw [groupClose_of_down (anyDown_eq_true.2 ⟨p, hp, hdown⟩), hnone, halone]
    rfl
  · have hquiet : wentDown s.kps.keys new = [] := wentDown_eq_nil.2 fun q hq _ => hup q hq
    rw [hg, groupOpen_some, if_pos hquiet, groupClose_of_up (anyDown_eq_false.2 hup)]
    exact ⟨rfl, rfl⟩
  · suffices hentries : (groupClose (groupOpen s.kps.group (wentDown s.kps.keys new) (downAt new 9)) new).2 = [] by
      simp [hentries]
    rcases hcase with hnone | hany
    · rw [hnone, groupClose_entries_of_none]
    · rw [groupClose_of_down (anyDown_eq_true.2 hany)]
  · rw [wentDown_eq_nil.2 hquiet, hnone]
    rfl
  · rw [wentDown_eq_nil.2 hquiet, groupClose_of_down (anyDown_eq_true.2 hany)]
    cases s.kps.group <;> rfl
  · have hmore : groupPositions.filter (fun r => decide (p < r) && (!downAt s.kps.keys r && downAt new r)) ≠ [] := by
      intro hnil
      simpa [hpq, hup q hq, hdown'] using List.filter_eq_nil_iff.1 hnil q hq
    rw [wentDown_of_first hp (hup p hp) hdown hbelow, groupClose_of_down (anyDown_eq_true.2 ⟨p, hp, hdown⟩), hnone]
    simp [groupOpen, hmore]
  · rw [hg, groupOpen_some, if_neg (wentDown_ne_nil hp hold hdown), groupClose_of_down (anyDown_eq_true.2 ⟨p, hp, hdown⟩)]
  · rw [holdScan_of_opening _ _ hold hdown]
    rw [Option.some_inj, Bool.eq_iff_iff, decide_eq_true_iff, Bool.not_eq_true', anyDown_eq_false]
  · rw [hclean, holdScan_of_down clean _ hold hdown]
    have hempty : (wentDown s.kps.keys new).isEmpty =
        decide (∀ p ∈ groupPositions, downAt s.kps.keys p = false → downAt new p = false) := by
      rw [Bool.eq_iff_iff, List.isEmpty_iff, wentDown_eq_nil, decide_eq_true_iff]
    rw [hempty]
  · exact holdScan_of_closing _ _ hold hdown

end Sys2Proof.Machine


/-! PROOF. The arithmetic of chapter 1 (O60): the unit split, its sum, and the rounding of the sweep percent. -/

namespace Sys2Proof.Machine

open Sys2Proof

/-! ## The unit split -/

theorem splitFirst_eq (lba u : Nat) : splitFirst lba u = if u = lba / 8 then lba % 8 else 0 := rfl

theorem splitLast_eq (lba m u : Nat) :
    splitLast lba m u = if u = (lba + m - 1) / 8 then (lba + m - 1) % 8 else 7 := rfl

/-- The first offset and the count of a unit between the first and the last (R9). -/
theorem splitCount_bounds {lba m u : Nat} (hm : 1 ≤ m) (hlo : lba / 8 ≤ u) (hhi : u ≤ (lba + m - 1) / 8) :
    1 ≤ splitCount lba m u ∧ splitCount lba m u ≤ 8 ∧
      splitFirst lba u + splitCount lba m u = (if u = (lba + m - 1) / 8 then (lba + m - 1) % 8 + 1 else 8) := by
  rw [splitCount, splitLast_eq, splitFirst_eq]
  split_ifs <;> omega

/-- A WRITE's unit is WRITE_FULL exactly where it covers all eight sectors (R9). -/
theorem splitKind_write_full {lba m u : Nat} (hm : 1 ≤ m) (hlo : lba / 8 ≤ u) (hhi : u ≤ (lba + m - 1) / 8) :
    splitKind .write lba m u = .writeFull ↔ splitCount lba m u = 8 := by
  have hcovers : splitFirst lba u = 0 ∧ splitLast lba m u = 7 ↔ splitCount lba m u = 8 := by
    rw [splitCount, splitLast_eq, splitFirst_eq]
    split_ifs <;> omega
  rw [← hcovers]
  simp [splitKind]

theorem splitKind_write (lba m u : Nat) : splitKind .write lba m u = .writeFull ∨ splitKind .write lba m u = .writeMerge := by
  unfold splitKind
  split
  · contradiction
  · split
    · exact .inl rfl
    · exact .inr rfl

/-- The counts of the first `k` units of a transfer that has more of them. -/
theorem splitCount_prefix_sum {lba m : Nat} (hm : 1 ≤ m) {k : Nat} (hk : k ≤ (lba + m - 1) / 8 - lba / 8) :
    ((List.range k).map (fun i => splitCount lba m (lba / 8 + i))).sum + (if k = 0 then 0 else lba % 8) = 8 * k := by
  induction k with
  | zero => rfl
  | succ k ih =>
    have hcount : splitCount lba m (lba / 8 + k) = if k = 0 then 8 - lba % 8 else 8 := by
      rw [splitCount, splitLast_eq, splitFirst_eq, if_neg (by omega)]
      by_cases h0 : k = 0
      · rw [if_pos (by omega), if_pos h0]
        omega
      · rw [if_neg (by omega), if_neg h0]
    have ih := ih (by omega)
    rw [List.range_succ, List.map_append, List.sum_append, List.map_singleton, List.sum_singleton, hcount]
    split at ih <;> simp_all
    omega

/-- The counts of a transfer's units sum to its transfer count. -/
theorem splitCount_sum {lba m : Nat} (hm : 1 ≤ m) :
    ((List.range ((lba + m - 1) / 8 - lba / 8 + 1)).map (fun i => splitCount lba m (lba / 8 + i))).sum = m := by
  have hprefix := splitCount_prefix_sum hm (lba := lba) (Nat.le_refl _)
  have hlast := (splitCount_bounds hm (u := (lba + m - 1) / 8) (by omega) (Nat.le_refl _)).2.2
  have hunit : lba / 8 + ((lba + m - 1) / 8 - lba / 8) = (lba + m - 1) / 8 := by omega
  rw [List.range_succ, List.map_append, List.sum_append, List.map_singleton, List.sum_singleton, hunit]
  rw [splitFirst_eq, if_pos rfl] at hlast
  by_cases hsame : (lba + m - 1) / 8 = lba / 8
  · simp only [hsame, if_true, Nat.sub_self] at hprefix hlast ⊢
    omega
  · rw [if_neg (by omega)] at hprefix
    rw [if_neg hsame] at hlast
    omega

/-! ## The sweep percent -/

/-- The quotient of a cursor at or below U is at most 100, and below 100 where a remainder is left. -/
theorem percent_quotient {c u : Nat} (hc : c ≤ u) :
    100 * c / u ≤ 100 ∧ (0 < 100 * c % u → 100 * c / u < 100) := by
  have hle : 100 * c / u ≤ 100 := Nat.div_le_of_le_mul (by nlinarith)
  refine ⟨hle, fun hr => lt_of_le_of_ne hle fun hq => ?_⟩
  have hdiv := Nat.div_add_mod (100 * c) u
  rw [hq] at hdiv
  omega

/-- Settles O60: the split, its sum, and the rounding by the three cases of the remainder. -/
theorem unitSplitAndPercent : Obligations.UnitSplitAndPercent := by
  refine ⟨fun lba m u hm hlo hhi => ?_, fun lba m hm => splitCount_sum hm, fun c u hu hc => ?_⟩
  · obtain ⟨hpos, hle, hsum⟩ := splitCount_bounds hm hlo hhi
    have hfull := splitKind_write_full hm hlo hhi
    exact ⟨hpos, hle, rfl, hsum, rfl, hfull, fun hne => (splitKind_write lba m u).resolve_left fun h => hne (hfull.1 h)⟩
  · obtain ⟨hle, hlt⟩ := percent_quotient hc
    unfold roundedPercent
    generalize 100 * c / u = q at *
    generalize 100 * c % u = r at *
    dsimp only
    split
    · refine ⟨hle, fun _ => rfl, ?_, ?_⟩ <;> omega
    · split
      · refine ⟨?_, ?_, fun _ => rfl, ?_⟩ <;> omega
      · split
        · refine ⟨hle, ?_, ?_, fun _ => ⟨by assumption, .inl rfl⟩⟩ <;> omega
        · refine ⟨?_, ?_, ?_, fun _ => ⟨?_, .inr rfl⟩⟩ <;> omega

end Sys2Proof.Machine


/-! PROOF. The frames of both links (O33): what a frame is read as, when it is dropped, and how the frames sent are laid
out. -/

namespace Sys2Proof.Machine

open Sys2Proof

/-! ## Fields -/

theorem toNat_append_eq {n m : Nat} (x : BitVec n) (y : BitVec m) : (x ++ y).toNat = x.toNat * 2 ^ m + y.toNat := by
  rw [BitVec.toNat_append, ← Nat.shiftLeft_add_eq_or_of_lt y.isLt, Nat.shiftLeft_eq]

/-- A field of two bytes is read as it was written. -/
theorem field16_bytes (v : BitVec 16) :
    field16 (BitVec.ofNat 8 v.toNat) (BitVec.ofNat 8 (v.toNat / 256)) = v := by
  apply BitVec.eq_of_toNat_eq
  have hv := v.isLt
  simp only [field16, toNat_append_eq, BitVec.toNat_ofNat]
  omega

/-- A field of four bytes is read as it was written. -/
theorem field32_bytes (v : BitVec 32) :
    field32 (BitVec.ofNat 8 v.toNat) (BitVec.ofNat 8 (v.toNat / 256)) (BitVec.ofNat 8 (v.toNat / 65536))
      (BitVec.ofNat 8 (v.toNat / 16777216)) = v := by
  apply BitVec.eq_of_toNat_eq
  have hv := v.isLt
  simp only [field32, toNat_append_eq, BitVec.toNat_ofNat]
  omega

/-- A field of eight bytes, the least significant first (R171). -/
theorem leBytes_eight (v : Nat) : leBytes 8 v =
    [1, 256, 65536, 16777216, 4294967296, 1099511627776, 281474976710656, 72057594037927936].map
      (fun w => BitVec.ofNat 8 (v / w)) := by
  simp only [leBytes, Nat.div_div_eq_div_mul, List.map_cons, List.map_nil, Nat.div_one]

/-! ## Frames read -/

theorem decodeUpstream_request (kind tag : Byte) (lba : BitVec 32) (count : BitVec 16) :
    decodeUpstream ([1, kind, tag] ++ leBytes 4 lba.toNat ++ leBytes 2 count.toNat) = requestOf kind tag lba count := by
  rw [leBytes_four, leBytes_two]
  show requestOf kind tag (field32 _ _ _ _) (field16 _ _) = _
  rw [field32_bytes, field16_bytes]

theorem decodeUpstream_writeData (tag : Byte) {sector : List Byte} (h : sector.length = 512) :
    decodeUpstream (2 :: tag :: sector) = .writeData tag sector := by
  show (if sector.length = 512 then _ else _) = _
  rw [if_pos h]

/-- A frame of an unknown type is dropped. No splitter can be made for a match on byte literals, so the tests of the type
byte are taken one after another. -/
theorem decodeUpstream_unknown {a : Byte} (h1 : a ≠ 1) (h16 : a ≠ 16) (h17 : a ≠ 17) (h18 : a ≠ 18) (h2 : a ≠ 2)
    (rest : List Byte) : decodeUpstream (a :: rest) = .upstreamFrameDropped (a :: rest) := by
  unfold decodeUpstream decodeUpstream.match_1
  exact (dif_neg h1).trans ((dif_neg h16).trans ((dif_neg h17).trans ((dif_neg h18).trans (dif_neg h2))))

/-- A request frame of another length is dropped. -/
theorem decodeUpstream_request_length {rest : List Byte} (h : rest.length ≠ 8) :
    decodeUpstream (1 :: rest) = .upstreamFrameDropped (1 :: rest) := by
  match rest, h with
  | [], _ | [_], _ | [_, _], _ | [_, _, _], _ | [_, _, _, _], _ | [_, _, _, _, _], _ | [_, _, _, _, _, _], _
  | [_, _, _, _, _, _, _], _ | _ :: _ :: _ :: _ :: _ :: _ :: _ :: _ :: _ :: _, _ => rfl
  | [_, _, _, _, _, _, _, _], h => exact absurd rfl h

/-- A WRITE_DATA frame of another length is dropped. -/
theorem decodeUpstream_writeData_length {rest : List Byte} (h : rest.length ≠ 513) :
    decodeUpstream (2 :: rest) = .upstreamFrameDropped (2 :: rest) := by
  cases rest with
  | nil => rfl
  | cons tag sector => exact if_neg fun hlen => h (by simp [hlen])

/-- A frame of an unknown type or of another length is dropped (R171). -/
theorem decodeUpstream_dropped {frame : List Byte} (hrequest : ¬ (frame.head? = some 1 ∧ frame.length = 9))
    (hdata : ¬ (frame.head? = some 2 ∧ frame.length = 514)) (hreset : frame ≠ [16]) (hsuspend : frame ≠ [17])
    (hresume : frame ≠ [18]) : decodeUpstream frame = .upstreamFrameDropped frame := by
  cases frame with
  | nil => rfl
  | cons a rest =>
    by_cases h1 : a = 1
    · subst h1
      exact decodeUpstream_request_length fun h => hrequest ⟨rfl, by simp [h]⟩
    by_cases h2 : a = 2
    · subst h2
      exact decodeUpstream_writeData_length fun h => hdata ⟨rfl, by simp [h]⟩
    by_cases h16 : a = 16
    · subst h16
      cases rest with
      | nil => exact absurd rfl hreset
      | cons => rfl
    by_cases h17 : a = 17
    · subst h17
      cases rest with
      | nil => exact absurd rfl hsuspend
      | cons => rfl
    by_cases h18 : a = 18
    · subst h18
      cases rest with
      | nil => exact absurd rfl hresume
      | cons => rfl
    exact decodeUpstream_unknown h1 h16 h17 h18 h2 rest

theorem decodeDownstream_ident (p : BitVec 32) : decodeDownstream (130 :: leBytes 4 p.toNat) = .ident p [] := by
  rw [leBytes_four]
  show Instr.ident (field32 _ _ _ _) [] = _
  rw [field32_bytes]

/-- A COMPLETION frame of a dtag up to 3 is read by what follows its dtag (R173). -/
theorem decodeDownstream_completion {d : Byte} (h : d.toNat ≤ 3) (rest : List Byte) :
    decodeDownstream (129 :: d :: rest) = match rest with
      | op :: status :: data => completionOf op d status data
      | _ => .pageReadCompletion d 255 [] := by
  exact if_neg (by omega)

theorem completionOf_unknown {op : Byte} (h : op = 0 ∨ 4 < op.toNat) (d status : Byte) (data : List Byte) :
    completionOf op d status data = .pageReadCompletion d 255 [] := by
  have hne (n : Byte) (hn : 1 ≤ n.toNat ∧ n.toNat ≤ 4) : op ≠ n := by
    rintro rfl
    rcases h with rfl | h
    · exact absurd hn.1 (by decide)
    · omega
  simp [completionOf, hne]

/-- A frame of an unknown type is dropped, as `decodeUpstream_unknown`. -/
theorem decodeDownstream_unknown {a : Byte} (h130 : a ≠ 130) (h131 : a ≠ 131) (h129 : a ≠ 129) (rest : List Byte) :
    decodeDownstream (a :: rest) = .downstreamFrameDropped (a :: rest) := by
  unfold decodeDownstream decodeDownstream.match_3
  exact (dif_neg h130).trans ((dif_neg h131).trans (dif_neg h129))

/-- An IDENT frame of another length is dropped. -/
theorem decodeDownstream_ident_length {rest : List Byte} (h : rest.length ≠ 4) :
    decodeDownstream (130 :: rest) = .downstreamFrameDropped (130 :: rest) := by
  match rest, h with
  | [], _ | [_], _ | [_, _], _ | [_, _, _], _ | _ :: _ :: _ :: _ :: _ :: _, _ => rfl
  | [_, _, _, _], h => exact absurd rfl h

/-- A frame of an unknown type or length, and a COMPLETION of a dtag above 3, is dropped (R173). -/
theorem decodeDownstream_dropped {frame : List Byte} (hident : ¬ (frame.head? = some 130 ∧ frame.length = 5))
    (hlost : frame ≠ [131])
    (hcompletion : ¬ (frame.head? = some 129 ∧ ∃ d, frame[1]? = some d ∧ d.toNat ≤ 3)) :
    decodeDownstream frame = .downstreamFrameDropped frame := by
  cases frame with
  | nil => rfl
  | cons a rest =>
    by_cases h130 : a = 130
    · subst h130
      exact decodeDownstream_ident_length fun h => hident ⟨rfl, by simp [h]⟩
    by_cases h131 : a = 131
    · subst h131
      cases rest with
      | nil => exact absurd rfl hlost
      | cons => rfl
    by_cases h129 : a = 129
    · subst h129
      cases rest with
      | nil => rfl
      | cons d rest => exact if_pos (Nat.not_le.1 fun hd => hcompletion ⟨rfl, d, rfl, hd⟩)
    exact decodeDownstream_unknown h130 h131 h129 rest

/-! ## Completions that are ERROR -/

/-- An ERROR completion reads no byte after its status. -/
theorem ownerTakes_error (op : DOp) (o : Owner) (lost : Bool) (page page' : List Byte) (s : State) :
    ownerTakes op o false lost page s = ownerTakes op o false lost page' s := by
  cases o with
  | job b =>
    simp only [ownerTakes, jobCompletion, readEnd]
    rfl
  | _ => rfl

/-- A completion is OK where operation byte, status and length are those its operation fixes (R173). -/
theorem completionOk_eq_true {op : DOp} {opByte status : Byte} {rest : List Byte} :
    completionOk op opByte status rest = true ↔
      opByte = op.code ∧ status = 0 ∧ rest.length = completionRest opByte status := by
  simp [completionOk, and_assoc]

/-- The completion of an operation byte is the completion frame's meaning (R69). -/
theorem exec_completionOf {op : Byte} (hlo : 1 ≤ op.toNat) (hhi : op.toNat ≤ 4) (d status : Byte) (data : List Byte)
    (s : State) : exec (completionOf op d status data) s = s.whenPowered (takeCompletion op d status data) := by
  have hop : op = 1 ∨ op = 2 ∨ op = 3 ∨ op = 4 := by
    have : op.toNat = 1 ∨ op.toNat = 2 ∨ op.toNat = 3 ∨ op.toNat = 4 := by omega
    simpa [← BitVec.toNat_inj] using this
  rcases hop with rfl | rfl | rfl | rfl <;> rfl

theorem takeCompletion_of_slot {d : Byte} (hd : d.toNat ≤ 3) {s : State} {x : Slot}
    (hx : s.dli.slots.find? (fun y => y.dtag == Fin.ofNat 4 d.toNat) = some x) (op status : Byte) (data : List Byte) :
    takeCompletion op d status data s =
      settle (ownerTakes x.op x.owner (completionOk x.op op status data) false data
        (s.setDli { s.dli with slots := s.dli.slots.filter (fun y => y.dtag != x.dtag) })) := by
  simp only [takeCompletion, Nat.not_lt.2 hd, if_false, hx]

/-- A COMPLETION whose operation byte, status or length is not what its slot's operation fixes is the ERROR completion of
that operation (R173). -/
theorem exec_completion_error {s : State} {x : Slot} {d op status : Byte} {data : List Byte} (hd : d.toNat ≤ 3)
    (hx : s.dli.slots.find? (fun y => y.dtag == Fin.ofNat 4 d.toNat) = some x) (hlo : 1 ≤ op.toNat) (hhi : op.toNat ≤ 4)
    (h : op ≠ x.op.code ∨ status ≠ 0 ∨ data.length ≠ (if op = 1 then 4096 else 0)) :
    exec (completionOf op d status data) s = exec (completionOf x.op.code d 1 []) s := by
  have herror : completionOk x.op op status data = false := by
    rw [Bool.eq_false_iff, Ne, completionOk_eq_true]
    rintro ⟨hop, rfl, hlen⟩
    rcases h with h | h | h
    · exact h hop
    · exact h rfl
    · exact h (by simpa [completionRest] using hlen)
  have herror' : completionOk x.op x.op.code 1 [] = false := by simp [completionOk]
  have hcode : 1 ≤ x.op.code.toNat ∧ x.op.code.toNat ≤ 4 := by
    cases x.op <;> exact ⟨by simp [DOp.code], by simp [DOp.code]⟩
  rw [exec_completionOf hlo hhi, exec_completionOf hcode.1 hcode.2]
  simp only [State.whenPowered, takeCompletion_of_slot hd hx, herror, herror', ownerTakes_error _ _ _ data []]

/-! ## Frames sent -/

theorem UpRecord.readData_frame (t : Fin 16) (lba : Nat) (sector : List Byte) :
    UpRecord.frame (.readData t lba sector) = [129, BitVec.ofNat 8 t.val, BitVec.ofNat 8 lba, BitVec.ofNat 8 (lba / 256),
      BitVec.ofNat 8 (lba / 65536), BitVec.ofNat 8 (lba / 16777216)] ++ sector := by
  rw [UpRecord.frame, leBytes_four]
  rfl

theorem UpRecord.dataWanted_frame (t : Fin 16) (lba k : Nat) :
    UpRecord.frame (.dataWanted t lba k) = [130, BitVec.ofNat 8 t.val, BitVec.ofNat 8 lba, BitVec.ofNat 8 (lba / 256),
      BitVec.ofNat 8 (lba / 65536), BitVec.ofNat 8 (lba / 16777216), BitVec.ofNat 8 k] := by
  rw [UpRecord.frame, leBytes_four]
  rfl

theorem SizeAnswer.bytes_eq (a : SizeAnswer) : a.bytes =
    ([(match a.volume with | .overlay => 0 | .nothing => 1 | .user => 2), (if a.capacity = none then 0 else 1), 0, 2] :
      List Byte) ++
      ([1, 256, 65536, 16777216, 4294967296, 1099511627776, 281474976710656, 72057594037927936].map
        (fun w => BitVec.ofNat 8 (a.capacity.getD 0 / w))) := by
  obtain ⟨volume, capacity⟩ := a
  rw [SizeAnswer.bytes, leBytes_eight]
  congr 1
  cases volume <;> cases capacity <;> rfl

theorem StateAnswer.flags_eq (a : StateAnswer) : BitVec.ofNat 8 a.flags =
    (if a.clamped then 1 else 0) + (if a.readOnly then 2 else 0) + (if a.rebuilt then 4 else 0) +
      (if a.sweeping then 8 else 0) + (if a.degraded then 16 else 0) := by
  simp only [StateAnswer.flags]
  cases a.clamped <;> cases a.readOnly <;> cases a.rebuilt <;> cases a.sweeping <;> cases a.degraded <;> rfl

theorem Attn.byte_eq (a : Attn) : BitVec.ofNat 8 a.byte =
    (if a.powerOn then 1 else 0) + (if a.presentation then 2 else 0) + (if a.sweepDone then 4 else 0) +
      (if a.tableEmptied then 8 else 0) + (if a.resume then 16 else 0) := by
  simp only [Attn.byte]
  cases a.powerOn <;> cases a.presentation <;> cases a.sweepDone <;> cases a.tableEmptied <;> cases a.resume <;> rfl

theorem StateAnswer.bytes_eq (a : StateAnswer) : a.bytes =
    [(match a.access with | .blank => 0 | .locked => 1 | .lockout => 2 | .admin => 3 | .unlocked => 4 | .erasing => 5),
      (match a.volume with | .overlay => 0 | .nothing => 1 | .user => 2),
      (match a.media with | .unknown => 0 | .ok => 1 | .unusable => 2 | .absent => 3),
      (if a.clamped then 1 else 0) + (if a.readOnly then 2 else 0) + (if a.rebuilt then 4 else 0) +
        (if a.sweeping then 8 else 0) + (if a.degraded then 16 else 0),
      BitVec.ofNat 8 a.lockoutSeconds, BitVec.ofNat 8 (a.lockoutSeconds / 256), BitVec.ofNat 8 a.percent,
      (if a.reasons.powerOn then 1 else 0) + (if a.reasons.presentation then 2 else 0) +
        (if a.reasons.sweepDone then 4 else 0) + (if a.reasons.tableEmptied then 8 else 0) +
        (if a.reasons.resume then 16 else 0),
      BitVec.ofNat 8 a.eraseCount, BitVec.ofNat 8 (a.eraseCount / 256)] := by
  have haccess : BitVec.ofNat 8 a.access.code =
      (match a.access with | .blank => 0 | .locked => 1 | .lockout => 2 | .admin => 3 | .unlocked => 4 | .erasing => 5) := by
    cases a.access <;> rfl
  have hvolume : BitVec.ofNat 8 a.volume.code = (match a.volume with | .overlay => 0 | .nothing => 1 | .user => 2) := by
    cases a.volume <;> rfl
  have hmedia : BitVec.ofNat 8 a.media.code =
      (match a.media with | .unknown => 0 | .ok => 1 | .unusable => 2 | .absent => 3) := by
    cases a.media <;> rfl
  rw [← haccess, ← hvolume, ← hmedia, ← StateAnswer.flags_eq, ← Attn.byte_eq]
  rfl

/-- A COMPLETE's frame is its head, the payload's length and the payload (R172). -/
theorem UpRecord.complete_frame (c : Complete) :
    UpRecord.frame (.complete c) = [131, c.tag, c.outcome.code, c.detail, BitVec.ofNat 8 c.residue,
      BitVec.ofNat 8 (c.residue / 256), BitVec.ofNat 8 c.payload.bytes.length] ++ c.payload.bytes := rfl

theorem DownRecord.frame_eq (d : Fin 4) (p n : Nat) (cipher : List Byte) :
    DownRecord.frame (.pageRead d p) = [1, BitVec.ofNat 8 d.val, BitVec.ofNat 8 p, BitVec.ofNat 8 (p / 256),
      BitVec.ofNat 8 (p / 65536), BitVec.ofNat 8 (p / 16777216)] ∧
    DownRecord.frame (.pageWrite d p cipher) = [2, BitVec.ofNat 8 d.val, BitVec.ofNat 8 p, BitVec.ofNat 8 (p / 256),
      BitVec.ofNat 8 (p / 65536), BitVec.ofNat 8 (p / 16777216)] ++ cipher ∧
    (cipher.length = 4096 → (DownRecord.frame (.pageWrite d p cipher)).length = 4102) ∧
    DownRecord.frame (.discard d p n) = [3, BitVec.ofNat 8 d.val, BitVec.ofNat 8 p, BitVec.ofNat 8 (p / 256),
      BitVec.ofNat 8 (p / 65536), BitVec.ofNat 8 (p / 16777216), BitVec.ofNat 8 n, BitVec.ofNat 8 (n / 256)] ∧
    DownRecord.frame (.sync d) = [4, BitVec.ofNat 8 d.val] := by
  refine ⟨?_, ?_, fun h => ?_, ?_, rfl⟩
  · simp [DownRecord.frame, leBytes_four]
  · simp [DownRecord.frame, leBytes_four]
  · simp [DownRecord.frame, leBytes_four, h]
  · simp [DownRecord.frame, leBytes_four, leBytes_two]

/-- Settles O33: the decoders branch by branch, the ERROR completions by `exec_completion_error`, the layouts by the bytes of
their fields. -/
theorem framesAreReadOrDropped : Obligations.FramesAreReadOrDropped := by
  refine ⟨decodeUpstream_request, fun tag sector h => decodeUpstream_writeData tag h, rfl, rfl, rfl,
    fun frame h1 h2 h3 h4 h5 => decodeUpstream_dropped h1 h2 h3 h4 h5, decodeDownstream_ident, rfl,
    fun d status data hd => ?_, fun frame h1 h2 h3 => decodeDownstream_dropped h1 h2 h3,
    fun s x d op status data hd hx hlo hhi h => exec_completion_error hd hx hlo hhi h, fun s frame => ⟨rfl, rfl⟩,
    fun t lba k sector => ⟨UpRecord.readData_frame t lba sector, fun h => ?_, UpRecord.dataWanted_frame t lba k⟩,
    fun c => ⟨fun h => ?_, fun a h => ?_, fun a h => ?_⟩, rfl, rfl, DownRecord.frame_eq⟩
  · refine ⟨?_, ?_, ?_, ?_, fun op hop => ?_, decodeDownstream_completion hd _, fun op => decodeDownstream_completion hd _⟩
    · exact decodeDownstream_completion hd _
    · exact decodeDownstream_completion hd _
    · exact decodeDownstream_completion hd _
    · exact decodeDownstream_completion hd _
    · exact (decodeDownstream_completion hd _).trans (completionOf_unknown hop d status data)
  · rw [UpRecord.readData_frame]
    simp [h]
  · rw [UpRecord.complete_frame, h]
    rfl
  · rw [UpRecord.complete_frame, h, Payload.bytes, SizeAnswer.bytes_eq]
    rfl
  · rw [UpRecord.complete_frame, h, Payload.bytes, StateAnswer.bytes_eq]
    rfl

end Sys2Proof.Machine


/-! PROOF. Walks: a relation that each elementary change of the part meets is met by every command. The invariants of the
part are relations of this kind (`s` has it, so `t` has it), so that each needs a proof for the elementary changes alone. -/

namespace Sys2Proof.Machine

open Sys2Proof

/-! ## Elementary changes -/

/-- From `s` to `t` nothing changes that the tables, the access state, the keys, the key store's queue or the source shown
rest on: of the digit stack only its bound is kept, and the upstream output may fall free. -/
def Neutral (s t : State) : Prop :=
  t.txns = s.txns ∧ t.ubp.jobs = s.ubp.jobs ∧ t.atr = s.atr ∧ t.ce = s.ce ∧ t.dli.slots = s.dli.slots ∧
  t.dli.requests = s.dli.requests ∧ t.dli.errors = s.dli.errors ∧ t.ac.access = s.ac.access ∧
  t.ac.presentation = s.ac.presentation ∧ t.cu.sessionKey = s.cu.sessionKey ∧ t.ecp.adminTable = s.ecp.adminTable ∧
  t.ks = s.ks ∧ t.swu.discardOut = s.swu.discardOut ∧ (s.StackOk → t.StackOk) ∧
  (t.uli.output = s.uli.output ∨ t.uli.output = .free) ∧
  t.ind.shown = s.ind.shown ∧ t.ind.pattern = s.ind.pattern ∧ t.ind.elapsed = s.ind.elapsed

/-- The relation is met by every elementary change, by none at all, and by one after another. -/
structure Walk (R : State → State → Prop) : Prop where
  refl : ∀ s, R s s
  trans : ∀ {s t u}, R s t → R t u → R s u
  neutral : ∀ {s t}, Neutral s t → R s t
  judge : ∀ s, R s (judge s)
  ksRequest : ∀ r s, R s (ksRequest r s)
  endWrite : ∀ c s, R s (s.setKs (s.ks.endWrite c))
  enter : ∀ a s, R s (enter a s)
  presentOverlay : ∀ s, s.ac.access.unlocked = false → R s (present .overlay s)
  clearKey : ∀ s, R s (s.setCe { key := none })
  loadKey : ∀ k s, s.ac.access.unlocked = true → R s (s.setCe { key := some k })
  loadSession : ∀ k s, s.ac.access = .adminSession → R s (s.setCu { s.cu with sessionKey := some k })
  failTxn : ∀ t f s, R s (failTxn t f s)
  progress : ∀ t s, R s (progress t s)
  addDone : ∀ t k s, R s (addDone t k s)
  stopCipher : ∀ s, R s (stopCipher s)
  endRun : ∀ t j s, s.deliveringJob t = some j → R s (endJob j s)
  runOn : ∀ t j s, s.deliveringJob t = some j → R s (updJob j.buf (fun y => { y with sent := y.sent + 1 }) s)
  requestWindow : ∀ c u s, s.swu.discardOut = false → R s (requestWindow c u s)
  eraseHold : ∀ s, R s (eraseHold s)
  loseMedia : ∀ s, R s (loseMedia s)
  completion : ∀ (d : Fin 4) (x : Slot) (ok : Bool) (page : List Byte) s,
    s.dli.slots.find? (fun y => y.dtag == d) = some x →
    R s (ownerTakes x.op x.owner ok false page
      (s.setDli { s.dli with slots := s.dli.slots.filter (fun y => y.dtag != x.dtag) }))
  error : ∀ (o : Owner) (e : PendingError) s, s.dli.errors.find? (fun e => e.owner == o) = some e →
    R s (ownerTakes e.op o false true [] (s.setDli { s.dli with errors := s.dli.errors.erase e }))
  startJob : ∀ b x s, s.freeBuffer = some b → s.txns.find? s.eligible = some x →
    R s (startJob b x (x.nextUnit.getD 0) s)
  dataWaits : ∀ s, R s (dataWaits s)
  issue : ∀ d r s, s.freeSlot = some d → s.chosenRequest = some r → R s (issue d r s)
  cipherTake : ∀ s, R s (cipherTake s)
  grant : ∀ s, R s (grant s)
  cipherEnd : ∀ s, R s (cipherEnd s)
  takeSector : ∀ t i j sector s, s.waitingJob t = some j → R s (takeSector i j sector s)
  admitRequest : ∀ k t r s, s.txn? t = none → R s (admitRequest k t r s)

section
variable {R : State → State → Prop} (w : Walk R)
include w

theorem Walk.foldl {α : Type} {f : State → α → State} (h : ∀ s a, R s (f s a)) (l : List α) (s : State) :
    R s (l.foldl f s) := by
  induction l generalizing s with
  | nil => exact w.refl s
  | cons a l ih => exact w.trans (h s a) (ih _)

/-! ## The closure of an event -/

theorem Walk.setSwu {x : Swu} {s : State} (h : x.discardOut = s.swu.discardOut) : R s (s.setSwu x) :=
  w.neutral (by simp [Neutral, h])

theorem Walk.requestCursor (c : Option Nat) (skipped : Bool) (s : State) : R s (requestCursor c skipped s) :=
  w.trans (w.setSwu (by rfl)) (w.ksRequest _ _)

theorem Walk.makeDue (s : State) : R s (makeDue s) := by
  unfold Machine.makeDue
  split
  · exact w.refl s
  · next hout =>
    split
    · exact w.setSwu rfl
    · split
      · split
        · exact w.requestWindow _ _ s (by simp_all)
        · exact w.trans (w.setSwu (by rfl)) (w.requestCursor _ _ _)
      · exact w.setSwu rfl

theorem Walk.releaseHold (s : State) : R s (releaseHold s) := by
  unfold Machine.releaseHold
  split
  · exact w.makeDue s
  · exact w.refl s

theorem Walk.allocate (n : Nat) (s : State) : R s (allocate n s) := by
  induction n generalizing s with
  | zero => exact w.refl s
  | succ n ih =>
    unfold Machine.allocate
    split
    next b x hb hx => exact w.trans (w.startJob b x s hb hx) (ih _)
    next => exact w.refl s

theorem Walk.issueAll (n : Nat) (s : State) : R s (issueAll n s) := by
  induction n generalizing s with
  | zero => exact w.refl s
  | succ n ih =>
    unfold Machine.issueAll
    split
    next d r hd hr => exact w.trans (w.issue d r s hd hr) (ih _)
    next => exact w.refl s

theorem Walk.settle (s : State) : R s (settle s) :=
  w.trans (w.trans (w.trans (w.trans (w.trans (w.trans (w.allocate 8 s) (w.dataWaits _)) (w.releaseHold _))
    (w.issueAll 4 _)) (w.cipherTake _)) (w.grant _)) (w.judge _)

/-! ## The sweep -/

theorem Walk.attention (r : Reason) (s : State) : R s (attention r s) := w.neutral (by simp [Neutral, Machine.attention])

theorem Walk.cursorWritten (wasNone : Bool) (s : State) : R s (cursorWritten wasNone s) := by
  unfold Machine.cursorWritten
  dsimp only
  split
  · exact w.setSwu rfl
  · split
    · exact w.trans (w.setSwu (by rfl)) (w.attention _ _)
    · exact w.trans (w.setSwu (by rfl)) (w.makeDue _)

theorem Walk.sweepStart (s : State) : R s (sweepStart s) := w.setSwu rfl

theorem Walk.reportMedia (s : State) : R s (reportMedia s) := by
  unfold Machine.reportMedia sweepReportOk
  split
  · split
    · exact w.makeDue s
    · exact w.refl s
  · exact w.refl s

/-! ## The Access Controller -/

/-- A change of the AC that keeps the sub-state and the presentation. -/
theorem Walk.setAc {x : Ac} {s : State} (ha : x.access = s.ac.access) (hp : x.presentation = s.ac.presentation) :
    R s (s.setAc x) :=
  w.neutral (by simp [Neutral, ha, hp])

theorem Walk.setEcp {x : Ecp} {s : State} (ht : x.adminTable = s.ecp.adminTable)
    (hs : s.StackOk → x.stack.length ≤ 15) : R s (s.setEcp x) :=
  w.neutral (by simpa [Neutral, ht] using hs)

theorem Walk.setCu {x : Cu} {s : State} (h : x.sessionKey = s.cu.sessionKey) : R s (s.setCu x) :=
  w.neutral (by simp [Neutral, h])

theorem Walk.setKps (x : Kps) (s : State) : R s (s.setKps x) := w.neutral (by simp [Neutral])

/-- A change of the indicator that keeps the source, the pattern and the phase shown. -/
theorem Walk.setInd {x : Ind} {s : State} (hs : x.shown = s.ind.shown) (hp : x.pattern = s.ind.pattern)
    (he : x.elapsed = s.ind.elapsed) : R s (s.setInd x) := w.neutral (by simp [Neutral, hs, hp, he])

theorem Walk.clearComposition (s : State) : R s (clearComposition s) := w.setEcp rfl (by simp)

theorem Walk.moveTo (a : Access) (s : State) : R s (moveTo a s) := w.trans (w.enter a s) (w.clearComposition _)

theorem Walk.verdictRequest (v : Verdict) (s : State) : R s (verdictRequest v s) := by
  unfold Machine.verdictRequest
  split <;> exact w.setInd rfl rfl rfl

theorem Walk.activityRequest (s : State) : R s (activityRequest s) := by
  unfold Machine.activityRequest
  split
  · exact w.refl s
  · exact w.setInd rfl rfl rfl

theorem Walk.showVerdict (v : Verdict) (s : State) : R s (showVerdict v s) := by
  unfold Machine.showVerdict
  split
  · exact w.setAc rfl rfl
  · exact w.verdictRequest v s

theorem Walk.reloadIdle (s : State) : R s (reloadIdle s) := by
  unfold Machine.reloadIdle
  split
  · exact w.setAc rfl rfl
  · exact w.refl s

theorem Walk.failVolume (v : TxVolume) (f : Failure) (s : State) : R s (failVolume v f s) :=
  w.foldl (fun s (x : Txn) => w.failTxn x.tag f s) _ s

theorem Walk.overtake (s : State) : R s (overtake s) := by
  unfold Machine.overtake
  split
  · exact w.setCu rfl
  · exact w.refl s

theorem Walk.lockEvent (c : Cause) (s : State) : R s (lockEvent c s) := by
  unfold Machine.lockEvent
  have hfailed : R s (Machine.failVolume .user (.volumeChanged c) ((Machine.stopCipher s).setCe { key := none })) :=
    w.trans (w.trans (w.stopCipher s) (w.clearKey _)) (w.failVolume _ _ _)
  dsimp only
  split
  · exact w.trans hfailed (w.trans (w.overtake _) (w.moveTo _ _))
  · next hlocked =>
    exact w.trans hfailed (w.trans (w.setAc (by rfl) (by rfl)) (w.presentOverlay _ (by simp_all)))

theorem Walk.ecpReady (s : State) : R s (ecpReady s) := w.setEcp rfl id

theorem Walk.cuIdle (s : State) : R s (cuIdle s) := w.setCu rfl

theorem Walk.clearScope (s : State) : R s (clearScope s) := w.setAc rfl rfl

/-- The CU's work is over, and the ECP is READY. -/
theorem Walk.cuDone (s : State) : R s (Machine.ecpReady (Machine.cuIdle s)) := w.trans (w.cuIdle s) (w.ecpReady _)

/-- The CU's work for the AC is over: the scope is cleared too. -/
theorem Walk.reported (s : State) : R s (Machine.clearScope (Machine.ecpReady (Machine.cuIdle s))) :=
  w.trans (w.cuDone s) (w.clearScope _)

theorem Walk.enterSettling (slot : Fin 8) (key : Key) (s : State) : R s (enterSettling slot key s) := by
  unfold Machine.enterSettling
  exact w.trans (w.trans (w.trans (w.moveTo _ s) (w.setAc (by rfl) (by rfl)))
    (w.loadKey key _ (by simp [Access.unlocked]))) (w.failVolume _ _ _)

theorem Walk.reportUnlock (slot : Fin 8) (key : Key) (s : State) : R s (reportUnlock slot key s) :=
  w.trans (w.trans (w.reported s) (w.enterSettling _ _ _)) (w.showVerdict _ _)

theorem Walk.reportRefused (s : State) : R s (reportRefused s) :=
  w.trans (w.trans (w.reported s) (w.moveTo _ _)) (w.showVerdict _ _)

theorem Walk.reportAdmin (key : Key) (s : State) : R s (reportAdmin key s) := by
  unfold Machine.reportAdmin
  exact w.trans (w.trans (w.trans (w.trans (w.reported s) (w.moveTo _ _)) (w.setAc (by rfl) (by rfl)))
    (w.loadSession key _ (by simp))) (w.showVerdict _ _)

theorem Walk.reportEnd (v : Verdict) (s : State) : R s (reportEnd v s) := by
  have hdone := w.cuDone s
  unfold Machine.reportEnd
  dsimp only
  split
  · exact hdone
  · split
    · exact w.trans hdone (w.trans (w.moveTo _ _) (w.showVerdict _ _))
    · exact w.trans hdone (w.trans (w.moveTo _ _) (w.showVerdict _ _))
    · exact w.trans hdone (w.trans (w.trans (w.clearComposition _) (w.setAc (by rfl) (by rfl))) (w.showVerdict _ _))
    · exact hdone

theorem Walk.stage (step : StageStep) (s : State) : R s (stage step s) :=
  w.trans (w.setCu (by rfl)) (w.ksRequest _ _)

theorem Walk.enterErasing (first : StageStep) (s : State) : R s (enterErasing first s) :=
  w.trans (w.trans (w.trans (w.moveTo _ s) (w.lockEvent _ _)) (w.eraseHold _)) (w.stage _ _)

theorem Walk.reportNoMatch (f : Nat) (s : State) : R s (reportNoMatch f s) := by
  have hdone := w.reported s
  unfold Machine.reportNoMatch
  dsimp only
  refine w.trans (t := ite _ _ _) ?_ (w.showVerdict _ _)
  split
  · exact w.trans hdone (w.enterErasing _ _)
  · split
    · exact w.trans hdone (w.trans (w.moveTo _ _) (w.setAc (by rfl) (by rfl)))
    · exact w.trans hdone (w.moveTo _ _)

theorem Walk.reportErase (s : State) : R s (reportErase s) :=
  w.trans (w.trans (w.cuDone s) (w.enterErasing _ _)) (w.showVerdict _ _)

theorem Walk.eraseDone (s : State) : R s (eraseDone s) :=
  w.trans (w.trans (w.cuDone s) (w.moveTo _ _)) (w.sweepStart _)

theorem Walk.acLoss (s : State) : R s (acLoss s) := by
  unfold Machine.acLoss
  split
  · exact w.lockEvent _ s
  · split
    · exact w.setAc rfl rfl
    · exact w.refl s

/-! ## The Credential Unit -/

theorem Walk.startVerify (k : VerifyKind) (d : List Digit) (i : Option (Fin 8)) (p : Option EnrolFor) (s : State) :
    R s (startVerify k d i p s) := w.setCu rfl

theorem Walk.cuWrite (task : CuTask) (body : KsBody) (s : State) : R s (cuWrite task body s) :=
  w.trans (w.setCu (by rfl)) (w.ksRequest _ _)

theorem Walk.enrolWrite (s : State) : R s (enrolWrite s) := by
  unfold Machine.enrolWrite
  split
  · have hdrawn : R s { s with draws := s.draws + 1 } := w.neutral (by simp [Neutral])
    exact w.trans hdrawn (w.cuWrite _ _ _)
  · exact w.cuDone s

theorem Walk.failureWrite (s : State) : R s (failureWrite s) := by
  unfold Machine.failureWrite
  dsimp only
  split <;> exact w.cuWrite _ _ s

theorem Walk.reportMatch (s : State) : R s (reportMatch s) := by
  unfold Machine.reportMatch
  split
  · exact w.reportUnlock _ _ s
  · exact w.reportRefused s

theorem Walk.restore (count : Option Nat) (former : Option CredFields) (s : State) : R s (restore count former s) := by
  unfold Machine.restore
  split
  · exact w.cuWrite _ _ s
  · exact w.cuWrite _ _ s
  · exact w.reportRefused s

theorem Walk.secondQuery (count : Option Nat) (former : Option CredFields) (s : State) :
    R s (secondQuery count former s) := by
  unfold Machine.secondQuery
  split
  · exact w.reportMatch s
  · exact w.restore _ _ s

theorem Walk.zeroFailures (former : Option CredFields) (s : State) : R s (zeroFailures former s) := by
  unfold Machine.zeroFailures
  split
  · exact w.secondQuery _ _ s
  · exact w.cuWrite _ _ s

theorem Walk.unlockWrites (slot : Fin 8) (s : State) : R s (unlockWrites slot s) := by
  unfold Machine.unlockWrites
  split
  · exact w.cuWrite _ _ s
  · exact w.zeroFailures _ s

theorem Walk.adminMatch (s : State) : R s (adminMatch s) := by
  unfold Machine.adminMatch
  split
  · split
    · exact w.reportAdmin _ s
    · exact w.refl s
  · exact w.cuWrite _ _ s

theorem Walk.verifyEnded (s : State) : R s (verifyEnded s) := by
  unfold Machine.verifyEnded
  split
  · have hresult (r : Option VerifyResult) : R s (s.setCu { s.cu with result := r }) := w.setCu rfl
    dsimp only
    split
    · exact w.trans (hresult _) (w.failureWrite _)
    · split
      · exact w.trans (hresult _) (w.unlockWrites _ _)
      · exact w.trans (hresult _) (w.reportRefused _)
    · exact w.trans (hresult _) (w.failureWrite _)
    · exact w.trans (hresult _) (w.adminMatch _)
    · exact w.trans (hresult _) (w.failureWrite _)
    · exact w.trans (hresult _) (w.reportErase _)
    · split
      · exact w.trans (hresult _) (w.cuDone _)
      · exact w.trans (hresult _) (w.enrolWrite _)
    · exact w.trans (hresult _) (w.reportEnd _ _)
  · exact w.refl s

theorem Walk.clearNext (slots : List (Fin 8)) (s : State) : R s (clearNext slots s) := by
  cases slots with
  | nil => exact w.reportEnd _ s
  | cons => exact w.cuWrite _ _ s

theorem Walk.takeHandover (h : Handover) (s : State) : R s (takeHandover h s) := by
  cases h with
  | unlock | admin | eraseConfirm => exact w.startVerify _ _ _ _ s
  | enrol p d =>
    unfold Machine.takeHandover
    dsimp only
    split
    · exact w.startVerify _ _ _ _ s
    · exact w.reportEnd _ s
  | clear slots => exact w.clearNext _ s
  | setting u => exact w.cuWrite _ _ s

theorem Walk.handOver (h : Handover) (s : State) : R s (handOver h s) := by
  have hwaiting : R s (s.setEcp { s.ecp with
      ready := false, stack := [], overlong := false, copy := none, command := none, timer := none }) :=
    w.setEcp rfl (by simp)
  unfold Machine.handOver
  dsimp only
  split
  · exact w.trans hwaiting (w.takeHandover _ _)
  · exact w.trans hwaiting (w.setCu rfl)

theorem Walk.nextStage (step : StageStep) (s : State) : R s (nextStage step s) := by
  cases step with
  | pending => exact w.stage _ s
  | slot i =>
    unfold Machine.nextStage
    dsimp only
    split <;> exact w.stage _ s
  | final => exact w.eraseDone s

theorem Walk.cuWritten (s : State) : R s (cuWritten s) := by
  unfold Machine.cuWritten
  split
  · exact w.refl s
  · dsimp only
    split
    · exact w.cuIdle s
    · exact w.trans (w.trans (w.cuIdle s) (w.setCu (by rfl))) (w.takeHandover _ _)
  · exact w.zeroFailures _ s
  · exact w.secondQuery _ _ s
  · exact w.restore _ _ s
  · exact w.reportRefused s
  · split
    · exact w.reportAdmin _ s
    · exact w.refl s
  · exact w.reportNoMatch _ s
  · exact w.reportEnd _ s
  · exact w.reportEnd _ s
  · exact w.clearNext _ s
  · exact w.nextStage _ s

theorem Walk.ksWritten (s : State) : R s (ksWritten s) := by
  unfold Machine.ksWritten
  split
  · dsimp only
    split
    · exact w.trans (w.endWrite _ s) (w.cursorWritten _ _)
    · exact w.trans (w.endWrite _ s) (w.cuWritten _)
  · exact w.refl s

/-! ## The Entry Composer -/

theorem Walk.push (d : Digit) (s : State) : R s (push d s) := by
  unfold Machine.push
  split
  · exact w.setEcp rfl (by simpa using fun _ => by omega)
  · exact w.setEcp rfl id

theorem Walk.pop (s : State) : R s (pop s) := by
  refine w.setEcp rfl fun h => ?_
  simp only [List.length_dropLast]
  omega

theorem Walk.cancel (s : State) : R s (cancel s) := w.moveTo _ s

theorem Walk.cancelWith (v : Verdict) (s : State) : R s (cancelWith v s) := w.trans (w.cancel s) (w.showVerdict _ _)

theorem Walk.submit (admin : Bool) (s : State) : R s (submit admin s) := by
  unfold Machine.submit
  split
  · exact w.trans (w.moveTo _ s) (w.showVerdict _ _)
  · dsimp only
    split
    · exact w.trans (w.trans (w.enter _ s) (w.setAc (by rfl) (by rfl))) (w.handOver _ _)
    · exact w.trans (w.trans (w.enter _ s) (w.setAc (by rfl) (by rfl))) (w.handOver _ _)

theorem Walk.changeRequest (s : State) : R s (changeRequest s) := by
  have hrefused : R s (Machine.showVerdict .refused (Machine.clearComposition s)) :=
    w.trans (w.clearComposition s) (w.showVerdict _ _)
  unfold Machine.changeRequest
  split
  · split
    · exact hrefused
    · exact w.moveTo _ s
  · exact hrefused

theorem Walk.firstEntry (s : State) : R s (firstEntry s) := by
  unfold Machine.firstEntry
  split
  · exact w.cancelWith _ s
  · have hcopied (c : Option (List Digit)) :
        R s (s.setEcp { s.ecp with copy := c, stack := [], overlong := false }) := w.setEcp rfl (by simp)
    dsimp only
    split
    · exact w.trans (hcopied _) (w.enter _ _)
    · exact hcopied _

theorem Walk.pinEntry (p : EnrolFor) (s : State) : R s (pinEntry p s) := by
  unfold Machine.pinEntry
  split
  · exact w.firstEntry s
  · split
    · exact w.handOver _ s
    · exact w.cancelWith _ s

theorem Walk.oneDigit {f : Digit → State} {s : State} (hf : ∀ d, R s (f d)) : R s (oneDigit s f) := by
  unfold Machine.oneDigit
  split
  · exact hf _
  · exact w.cancelWith _ s

theorem Walk.oneOrTwoDigits {f : Nat → State} {s : State} (hf : ∀ v, R s (f v)) : R s (oneOrTwoDigits s f) := by
  unfold Machine.oneOrTwoDigits
  split
  · exact hf _
  · exact w.cancelWith _ s

/-- A hand-over under a condition, else the composition given up. -/
theorem Walk.handOverIf (p : Prop) [Decidable p] (h : Handover) (v : Verdict) (s : State) :
    R s (if p then Machine.handOver h s else Machine.cancelWith v s) := by
  split
  · exact w.handOver _ s
  · exact w.cancelWith _ s

theorem Walk.submitCommand (c : Fin 10) (s : State) : R s (submitCommand c s) := by
  unfold Machine.submitCommand
  split
  · exact w.pinEntry _ s
  · exact w.oneDigit fun d => w.handOverIf _ _ _ s
  · exact w.oneDigit fun d => w.handOverIf _ _ _ s
  · exact w.oneOrTwoDigits fun v => w.handOver _ s
  · exact w.oneOrTwoDigits fun v => w.handOver _ s
  · exact w.pinEntry _ s
  · exact w.pinEntry _ s
  · exact w.oneDigit fun d => w.handOverIf _ _ _ s
  · exact w.handOverIf _ _ _ s
  · exact w.refl s

theorem Walk.digitEntry (d : Digit) (s : State) : R s (digitEntry d s) := by
  have hpush (p : Prop) [Decidable p] : R s (if p then Machine.push d s else s) := by
    split
    · exact w.push d s
    · exact w.refl s
  unfold Machine.digitEntry
  split <;> exact hpush _

theorem Walk.tapTaken (s : State) : R s (tapTaken s) := by
  have hpop (p : Prop) [Decidable p] : R s (if p then Machine.pop s else s) := by
    split
    · exact w.pop s
    · exact w.refl s
  unfold Machine.tapTaken
  split <;> exact hpop _

theorem Walk.selectCommand (d : Digit) (s : State) : R s (selectCommand d s) := by
  unfold Machine.selectCommand
  split
  · split
    · exact w.clearComposition s
    · exact w.refl s
  · exact w.setEcp rfl (by simp)

theorem Walk.adminKey (s : State) : R s (adminKey s) := by
  unfold Machine.adminKey
  split
  · exact w.moveTo _ s
  · exact w.submitCommand _ s

theorem Walk.baseKey (shifted : Bool) (s : State) : R s (baseKey shifted s) := by
  unfold Machine.baseKey
  split
  · exact w.moveTo _ s
  · exact w.submit _ s
  · exact w.submit _ s
  · exact w.pinEntry _ s
  · exact w.pinEntry _ s
  · exact w.pinEntry _ s
  · split
    · exact w.cancelWith _ s
    · split
      · exact w.changeRequest s
      · exact w.lockEvent _ s
  · exact w.refl s

theorem Walk.keyEntry (shifted : Bool) (s : State) : R s (keyEntry shifted s) := by
  unfold Machine.keyEntry
  split
  · exact w.adminKey s
  · exact w.baseKey _ s

theorem Walk.flaggedEntry (s : State) : R s (flaggedEntry s) := by
  unfold Machine.flaggedEntry
  split
  case h_8 => exact w.refl s
  all_goals exact w.cancelWith _ s

theorem Walk.afterTake (s : State) : R s (afterTake s) := by
  unfold Machine.afterTake
  exact w.trans (w.setEcp (by rfl) (by exact id)) (w.setAc (by rfl) (by rfl))

theorem Walk.takeEntry {f : KeyEntry → Option (State → State)}
    (hf : ∀ e act, f e = some act → ∀ s, R s (act s)) (s : State) : R s (takeEntry f s) := by
  unfold Machine.takeEntry
  split
  · exact w.refl s
  · split
    · exact w.refl s
    · split
      · exact w.refl s
      next act hact =>
        exact w.trans (w.trans (w.trans (w.setKps _ s) (hf _ act hact _)) (w.afterTake _)) (w.settle _)

/-! ## Requests and the upstream link -/

/-- A change of the ULI that leaves the output or lets it fall free. -/
theorem Walk.setUli {x : Uli} {s : State} (h : x.output = s.uli.output ∨ x.output = .free) : R s (s.setUli x) :=
  w.neutral (by simp [Neutral, h])

theorem Walk.refuse (r : Request) (o : Result) (s : State) : R s (refuse r o s) := w.setUli (.inl rfl)

theorem Walk.takeRequest (r : Request) (s : State) : R s (takeRequest r s) := by
  have hreported : R s (if r.isTransfer then Machine.reloadIdle s else s) := by
    split
    · exact w.reloadIdle s
    · exact w.refl s
  unfold Machine.takeRequest
  generalize (if r.isTransfer then Machine.reloadIdle s else s) = u at hreported
  refine w.trans hreported ?_
  dsimp only
  split
  · exact w.refuse _ _ _
  · split
    · exact w.failTxn _ _ _
    · split
      · exact w.refuse _ _ _
      next hfresh => exact w.admitRequest _ _ _ _ (by simpa using hfresh)

theorem Walk.takeWriteData (tag : Byte) (sector : List Byte) (s : State) : R s (takeWriteData tag sector s) := by
  unfold Machine.takeWriteData
  split
  · exact w.refl s
  · split
    next i j hi hj => exact w.takeSector _ i j sector s hj
    next => exact w.refl s

theorem Walk.waitOnLink (i : LinkItem) (s : State) : R s (waitOnLink i s) := w.setUli (.inl rfl)

theorem Walk.requestArrives (r : Request) (s : State) : R s (requestArrives r s) := by
  unfold Machine.requestArrives
  split
  · exact w.refl s
  · split
    · exact w.waitOnLink _ s
    · exact w.trans (w.takeRequest r s) (w.settle _)

theorem Walk.stopKeypad (s : State) : R s (stopKeypad s) := w.setKps _ s

theorem Walk.suspendComposer (s : State) : R s (suspendComposer s) := by
  unfold Machine.suspendComposer
  split
  · exact w.cancel s
  · exact w.clearComposition s

theorem Walk.suspendLock (s : State) : R s (suspendLock s) := by
  unfold Machine.suspendLock
  split
  · exact w.lockEvent _ s
  · exact w.refl s

theorem Walk.takeSuspend (hempty : ∀ s, R s (emptyTable s)) (s : State) : R s (takeSuspend s) := by
  unfold Machine.takeSuspend
  dsimp only
  split
  · exact hempty s
  · exact w.trans (w.trans (w.trans (w.trans (w.trans (hempty s) (w.suspendLock _)) (w.setAc (by rfl) (by rfl)))
      (w.stopKeypad _)) (w.suspendComposer _)) (w.setInd (by rfl) (by rfl) (by rfl))

theorem Walk.resumeReason (s : State) : R s (resumeReason s) := by
  unfold Machine.resumeReason
  split
  · exact w.trans (w.setAc (by rfl) (by rfl)) (w.attention _ _)
  · exact w.refl s

theorem Walk.resumeVerdict (s : State) : R s (resumeVerdict s) := by
  unfold Machine.resumeVerdict
  split
  · exact w.refl s
  · exact w.trans (w.setAc (by rfl) (by rfl)) (w.verdictRequest _ _)

theorem Walk.takeResume (s : State) : R s (takeResume s) := by
  unfold Machine.takeResume
  split
  · exact w.trans (w.trans (w.trans (w.setAc (by rfl) (by rfl)) (w.setKps _ _)) (w.resumeReason _)) (w.resumeVerdict _)
  · exact w.refl s

/-- An item taken from the link, where the relation is met by the emptying of the table too. -/
theorem Walk.takeItem (hempty : ∀ s, R s (emptyTable s)) (i : LinkItem) (s : State) : R s (i.take s) := by
  cases i with
  | request r => exact w.takeRequest r s
  | writeData tag sector => exact w.takeWriteData tag sector s
  | linkReset => exact w.trans (hempty s) (w.reloadIdle _)
  | suspend => exact w.takeSuspend hempty s
  | resume => exact w.takeResume s

theorem Walk.drain (hempty : ∀ s, R s (emptyTable s)) (n : Nat) (s : State) : R s (drain n s) := by
  induction n generalizing s with
  | zero => exact w.refl s
  | succ n ih =>
    unfold Machine.drain
    split
    · exact w.refl s
    · exact w.trans (w.trans (w.trans (w.setUli (.inl (by rfl))) (w.takeItem hempty _ _)) (w.settle _)) (ih _)

theorem Walk.settleLink (hempty : ∀ s, R s (emptyTable s)) (s : State) : R s (settleLink s) :=
  w.trans (w.settle s) (w.drain hempty _ _)

theorem Walk.signalArrives (hempty : ∀ s, R s (emptyTable s)) (i : LinkItem) (s : State) : R s (signalArrives i s) := by
  unfold Machine.signalArrives
  split
  · exact w.refl s
  · exact w.waitOnLink _ s
  · exact w.trans (w.takeItem hempty i s) (w.settleLink hempty _)

/-! ## Records sent -/

theorem Walk.sendUp (r : UpRecord) (s : State) : R s (sendUp r s) := w.setUli (.inl rfl)

theorem Walk.freeOutput (s : State) : R s (freeOutput s) := w.setUli (.inr rfl)

theorem Walk.closeIntake (t : Fin 16) (s : State) : R s (closeIntake t s) := w.setUli (.inl rfl)

theorem Walk.refusalSent (hempty : ∀ s, R s (emptyTable s)) (s : State) : R s (refusalSent s) := by
  unfold Machine.refusalSent
  split
  · exact w.trans (w.trans (w.trans (w.setUli (.inl (by rfl))) (w.sendUp _ _)) (w.freeOutput _)) (w.settleLink hempty _)
  · exact w.refl s

theorem Walk.dataWantedSent (s : State) : R s (dataWantedSent s) := by
  unfold Machine.dataWantedSent
  split
  · split
    · exact w.trans (w.trans (w.trans (w.sendUp _ s) (w.setUli (.inl (by rfl)))) (w.freeOutput _)) (w.settle _)
    · exact w.refl s
  · exact w.refl s

theorem Walk.readDataSent (s : State) : R s (readDataSent s) := by
  unfold Machine.readDataSent
  split
  next t _ =>
    split
    next j hj =>
      have hcounted (r : UpRecord) : R s (Machine.addDone t 1 (Machine.sendUp r s)) :=
        w.trans (w.sendUp r s) (w.addDone t 1 _)
      have hended (r : UpRecord) :
          R s (Machine.freeOutput (Machine.endJob j (Machine.addDone t 1 (Machine.sendUp r s)))) :=
        w.trans (hcounted r) (w.trans (w.endRun t j _ hj) (w.freeOutput _))
      dsimp only
      split
      · split
        · exact w.trans (w.trans (w.trans (hended _) (w.activityRequest _)) (w.progress t _)) (w.settle _)
        · exact w.trans (w.trans (hended _) (w.progress t _)) (w.settle _)
      · exact w.trans (hcounted _) (w.runOn t j _ hj)
    next => exact w.refl s
  next => exact w.refl s

theorem Walk.overlaySent (s : State) : R s (overlaySent s) := by
  unfold Machine.overlaySent
  split
  · split
    · have hcounted (r : UpRecord) (t : Fin 16) : R s (Machine.addDone t 1 (Machine.sendUp r s)) :=
        w.trans (w.sendUp r s) (w.addDone t 1 _)
      dsimp only
      split
      · exact hcounted _ _
      · exact w.trans (hcounted _ _) (w.trans (w.trans (w.freeOutput _) (w.progress _ _)) (w.settle _))
    · exact w.refl s
  · exact w.refl s

theorem Walk.dataWaitExpired (t : Fin 16) (s : State) : R s (dataWaitExpired t s) := by
  unfold Machine.dataWaitExpired
  split
  · split
    · exact w.trans (w.trans (w.closeIntake t s) (w.failTxn _ _ _)) (w.settle _)
    · exact w.refl s
  · exact w.refl s

/-! ## Completions and the media -/

theorem Walk.takeCompletion (op d status : Byte) (rest : List Byte) (s : State) :
    R s (takeCompletion op d status rest s) := by
  unfold Machine.takeCompletion
  split
  · exact w.refl s
  · split
    next => exact w.refl s
    next x hx => exact w.trans (w.completion _ x _ _ s hx) (w.settle _)

theorem Walk.takeError (o : Owner) (s : State) : R s (takeError o s) := by
  unfold Machine.takeError
  split
  next => exact w.refl s
  next e he => exact w.trans (w.error o e s he) (w.settle _)

theorem Walk.takeEarly (early : List Owner) (s : State) : R s (takeEarly early s) :=
  w.foldl (fun s o => w.takeError o s) _ s

theorem Walk.identify (p : BitVec 32) (s : State) : R s (identify p s) := w.neutral (by simp [Neutral, Machine.identify])

theorem Walk.mediaLost (early : List Owner) (s : State) : R s (mediaLost early s) := by
  unfold Machine.mediaLost
  split
  · exact w.refl s
  · exact w.trans (w.trans (w.trans (w.loseMedia s) (w.takeEarly _ _)) (w.acLoss _)) (w.settle _)

theorem Walk.identTaken (p : BitVec 32) (early : List Owner) (s : State) : R s (identTaken p early s) := by
  unfold Machine.identTaken
  split
  · split
    · exact w.trans (w.identify p s) (w.settle _)
    · exact w.trans (w.trans (w.trans (w.trans (w.trans (w.loseMedia s) (w.identify p _)) (w.takeEarly _ _)) (w.acLoss _))
        (w.reportMedia _)) (w.settle _)
  · exact w.trans (w.trans (w.identify p s) (w.reportMedia _)) (w.settle _)

theorem Walk.identWaitExpired (s : State) : R s (identWaitExpired s) := by
  unfold Machine.identWaitExpired
  split
  · have hexpired : R s (s.setDli { s.dli with media := .absent, identWait := none }) := w.neutral (by simp [Neutral])
    exact w.trans hexpired (w.settle _)
  · exact w.refl s

/-! ## Power and time -/

theorem Walk.startAccess (s : State) : R s (startAccess s) := by
  unfold Machine.startAccess
  split
  · exact w.enterErasing _ s
  · exact w.trans (w.moveTo _ s) (w.setAc (by rfl) (by rfl))
  · exact w.moveTo _ s

theorem Walk.startRebuild (s : State) : R s (startRebuild s) := by
  unfold Machine.startRebuild
  split
  · exact w.refl s
  · exact w.cuWrite _ _ s

theorem Walk.sweepAtStart (s : State) : R s (sweepAtStart s) := by
  unfold Machine.sweepAtStart
  split <;> exact w.setSwu rfl

/-- The completion of the key-store reading, once the images are formed. -/
theorem Walk.readingComplete (hempty : ∀ s, R s (emptyTable s)) {s : State} (h : s.power = .reading) :
    R (readImages s) (readingComplete s) := by
  have hrunning (u : State) : R u { u with power := .running } := w.neutral (by simp [Neutral])
  rw [Machine.readingComplete, if_pos h]
  exact w.trans (w.trans (w.trans (w.trans (w.trans (w.sweepAtStart _) (w.startAccess _)) (w.startRebuild _))
    (hrunning _)) (w.reportMedia _)) (w.settleLink hempty _)

theorem Walk.tickAll (s : State) : R s (tickAll s) := w.neutral (by simp [Neutral, Machine.tickAll, State.acTick, Ind.tick])

theorem Walk.produce (p : EntryKey → Bool) (s : State) : R s (produce p s) := by
  unfold Machine.produce
  split
  · exact w.refl s
  · split
    · exact w.trans (w.setKps _ s) (w.reloadIdle _)
    · exact w.refl s

theorem Walk.briefRunout (s : State) : R s (briefRunout s) := by
  unfold Machine.briefRunout
  split
  · exact w.refl s
  · split
    · exact w.refl s
    · exact w.setInd rfl rfl rfl
    · split <;> exact w.setInd rfl rfl rfl

theorem Walk.restEnd (s : State) : R s (restEnd s) := by
  unfold Machine.restEnd
  split
  · exact w.setInd rfl rfl rfl
  · exact w.refl s

/-! ## The commands -/

theorem Walk.whenPowered {f : State → State} {s t : State} (h : s.whenPowered f = .next t) (hf : R s (f s)) : R s t := by
  cases h
  split
  · exact w.refl s
  · exact hf

theorem Walk.whenRunning {f : State → State} {s t : State} (h : s.whenRunning f = .next t) (hf : R s (f s)) : R s t := by
  cases h
  split
  · exact hf
  · exact w.refl s

/-- A command that takes an entry of one kind, with one effect. -/
theorem Walk.takeKind {p : KeyEntry → Prop} [DecidablePred p] {act : State → State} (hact : ∀ u, R u (act u))
    (s : State) : R s (Machine.takeEntry (fun e => if p e then some act else none) s) := by
  refine w.takeEntry (fun e act' hact' u => ?_) s
  obtain ⟨-, hact'⟩ := Option.ite_none_right_eq_some.1 hact'
  cases hact'
  exact hact u

/-- An effect under a condition, with the closure after it. -/
theorem Walk.expiry {p : Prop} [Decidable p] {s t : State} (h : R s t) : R s (if p then Machine.settle t else s) := by
  split
  · exact w.trans h (w.settle _)
  · exact w.refl s

theorem Walk.takeDigit (s : State) : R s (Machine.takeEntry (digitTable s) s) := by
  refine w.takeEntry (fun e act hact u => ?_) s
  unfold digitTable at hact
  split at hact
  · obtain ⟨-, hact⟩ := Option.ite_none_left_eq_some.1 hact
    cases hact
    exact w.digitEntry _ u
  · cases hact

theorem Walk.takeShiftedDigit (s : State) : R s (Machine.takeEntry (shiftedDigitTable s) s) := by
  refine w.takeEntry (fun e act hact u => ?_) s
  unfold shiftedDigitTable at hact
  split at hact
  · obtain ⟨-, hact⟩ := Option.ite_none_left_eq_some.1 hact
    split at hact <;> cases hact
    · exact w.selectCommand _ u
    · exact w.digitEntry _ u
  · cases hact

/-- A command that empties no table and takes no more than one item of the link meets the relation. -/
theorem Walk.exec {c : Instr} {s t : State} (hclock : c = .patternClock → R s (s.setInd (patternTick s.ind)))
    (hc : emptiesOrDrains c = false) (h : exec c s = .next t) : R s t := by
  cases c with
  | powerOn | powerLoss | ksReadingComplete | linkReset | suspend | resume | refusalSent | completeSent => cases hc
  | tick => exact w.whenPowered h (w.tickAll s)
  | readRequest | writeRequest | flushRequest | sizeRequest | stateRequest | abort | unknownKindRequest =>
    cases h
    exact w.requestArrives _ s
  | writeData tag sector =>
    cases h
    split
    · exact w.refl s
    · exact w.waitOnLink _ s
    · exact w.trans (w.takeWriteData tag sector s) (w.settle _)
  | upstreamFrameDropped | downstreamFrameDropped => cases h; exact w.refl s
  | dataWantedSent => exact w.whenRunning h (w.dataWantedSent s)
  | readDataSent => exact w.whenRunning h (w.readDataSent s)
  | overlayReadDataSent => exact w.whenRunning h (w.overlaySent s)
  | dataWaitExpiry tag => exact w.whenRunning h (w.dataWaitExpired tag s)
  | pageReadCompletion | pageWriteCompletion | syncCompletion | discardCompletion =>
    exact w.whenPowered h (w.takeCompletion _ _ _ _ s)
  | ident p early => exact w.whenPowered h (w.identTaken p early s)
  | mediaLost early => exact w.whenPowered h (w.mediaLost early s)
  | errorCompletionTaken o => exact w.whenPowered h (w.takeError o s)
  | identWaitExpiry => exact w.whenPowered h (w.identWaitExpired s)
  | cipherCompletion =>
    exact w.whenRunning (f := fun s => Machine.settle (Machine.cipherEnd s)) h (w.trans (w.cipherEnd s) (w.settle _))
  | keyEntryProduced | shiftTapProduced => exact w.whenPowered h (w.produce _ s)
  | digitTaken => exact w.whenRunning (f := fun s => Machine.takeEntry (digitTable s) s) h (w.takeDigit s)
  | shiftedDigitTaken =>
    exact w.whenRunning (f := fun s => Machine.takeEntry (shiftedDigitTable s) s) h (w.takeShiftedDigit s)
  | shiftTapTaken => exact w.whenRunning h (w.takeKind (fun u => w.tapTaken u) s)
  | keyTaken | shiftedKeyTaken => exact w.whenRunning h (w.takeKind (fun u => w.keyEntry _ u) s)
  | flaggedEntryTaken => exact w.whenRunning h (w.takeKind (fun u => w.flaggedEntry u) s)
  | entryTimeout =>
    exact w.whenRunning
      (f := fun s => if s.ecp.timer.due ∧ s.ecp.ready then Machine.settle (Machine.cancel s) else s) h
      (w.expiry (w.cancel s))
  | verifyEnd =>
    exact w.whenRunning (f := fun s => Machine.settle (Machine.verifyEnded s)) h
      (w.trans (w.verifyEnded s) (w.settle _))
  | ksWriteComplete =>
    exact w.whenRunning (f := fun s => Machine.settle (Machine.ksWritten s)) h (w.trans (w.ksWritten s) (w.settle _))
  | settleTimerExpiry =>
    exact w.whenRunning
      (f := fun s => if s.ac.access = .settling ∧ s.ac.settle.due then Machine.settle (enterPresented s) else s) h
      (w.expiry (w.trans (w.moveTo _ s) (w.setAc (by rfl) (by rfl))))
  | lockoutTimerExpiry =>
    exact w.whenRunning
      (f := fun s => if s.ac.access = .lockout ∧ s.ac.lockout.due then Machine.settle (Machine.moveTo .lockedIdle s) else s)
      h (w.expiry (w.moveTo _ s))
  | adminSessionTimerExpiry =>
    exact w.whenRunning
      (f := fun s =>
        if s.ac.access = .adminSession ∧ s.ac.admin.due then Machine.settle (Machine.moveTo .lockedIdle s) else s) h
      (w.expiry (w.moveTo _ s))
  | idleCounterExpiry =>
    exact w.whenRunning
      (f := fun s => if s.ac.access = .presented ∧ s.ac.standby = false ∧ s.ac.idle.due
        then Machine.settle (Machine.lockEvent .idle s) else s) h (w.expiry (w.lockEvent _ s))
  | briefPatternRunout =>
    exact w.whenPowered (f := fun s => Machine.settle (Machine.briefRunout s)) h
      (w.trans (w.briefRunout s) (w.settle _))
  | activityRestEnd => exact w.whenPowered h (w.restEnd s)
  | patternClock => exact w.whenPowered (f := fun s => s.setInd (patternTick s.ind)) h (hclock rfl)
  | scan closed => exact w.whenPowered (f := fun s => s.setKps (s.kps.scan closed)) h (w.setKps _ s)

/-- Of the other commands, those that neither begin nor end the power, take a record from the table or form the images. -/
theorem Walk.exec_link (hempty : ∀ s, R s (emptyTable s)) {c : Instr} {s t : State}
    (hc : c = .linkReset ∨ c = .suspend ∨ c = .resume ∨ c = .refusalSent) (h : Machine.exec c s = .next t) : R s t := by
  rcases hc with rfl | rfl | rfl | rfl
  · cases h; exact w.signalArrives hempty _ s
  · cases h; exact w.signalArrives hempty _ s
  · cases h; exact w.signalArrives hempty _ s
  · exact w.whenRunning h (w.refusalSent hempty s)

end

end Sys2Proof.Machine


/-! PROOF. What the moves of the AC do, field by field, and the invariants of the access state, the keys and the composer
(O5, O6, and a part of O9 and O11): each is met by the walk of every command, for it rests on a few fields alone. -/

namespace Sys2Proof.Machine

open Sys2Proof

/-! ## Presentations and moves (R2, R80) -/

/-- What the ATR holds of a volume just presented (R2). -/
def presentedAtr (v : Volume) (usable : Option Nat) : Atr :=
  { volume := v,
    highest := match v with
      | .overlay => some 2047
      | .nothing => none
      | .user => usable.map (fun u => 8 * u - 1) }

@[simp] theorem presentedAtr_volume (v : Volume) (usable : Option Nat) : (presentedAtr v usable).volume = v := rfl

@[simp] theorem present_ac (v : Volume) (s : State) : (present v s).ac =
    { s.ac with
      presentation := v,
      changed := s.ac.changed || (s.ac.standby && decide (s.ac.presentation ≠ v)) } := by
  unfold present
  split
  next h => simp [← h]
  next h => simp [attention, h]

theorem present_atr (v : Volume) (s : State) :
    (present v s).atr = if s.ac.presentation = v then s.atr else presentedAtr v s.dli.usable := by
  unfold present
  split <;> rfl

theorem present_uli (v : Volume) (s : State) : (present v s).uli =
    if s.ac.presentation = v then s.uli else { s.uli with attn := { s.uli.attn with presentation := true } } := by
  unfold present
  split <;> rfl

@[simp] theorem enter_ac (a : Access) (s : State) : (enter a s).ac =
    { s.ac with
      access := a,
      presentation := a.presentation,
      sessionSlot := if a.unlocked then s.ac.sessionSlot else none,
      idle := if a.unlocked then s.ac.idle else none,
      settle := if a = .settling then s.ac.settle else none,
      lockout := if a = .lockout then s.ac.lockout else none,
      admin := if a = .adminSession then s.ac.admin else none,
      changed := s.ac.changed || (s.ac.standby && decide (s.ac.presentation ≠ a.presentation)) } := by
  simp [enter]

@[simp] theorem enter_ce (a : Access) (s : State) :
    (enter a s).ce = { key := if a.unlocked then s.ce.key else none } := by
  simp [enter]

@[simp] theorem enter_cu (a : Access) (s : State) :
    (enter a s).cu = { s.cu with sessionKey := if a = .adminSession then s.cu.sessionKey else none } := by
  simp [enter]

@[simp] theorem enter_ecp (a : Access) (s : State) :
    (enter a s).ecp = { s.ecp with adminTable := a == .adminSession } := by
  simp [enter]

theorem enter_atr (a : Access) (s : State) : (enter a s).atr =
    if s.ac.presentation = a.presentation then s.atr else presentedAtr a.presentation s.dli.usable := by
  simp [enter, present_atr]

theorem enter_uli (a : Access) (s : State) : (enter a s).uli =
    if s.ac.presentation = a.presentation then s.uli
    else { s.uli with attn := { s.uli.attn with presentation := true } } := by
  simp [enter, present_uli]

/-- The composition cleared (R110). -/
@[simp] theorem clearComposition_ecp (s : State) : (clearComposition s).ecp =
    { s.ecp with stack := [], overlong := false, copy := none, command := none, timer := none } := rfl

@[simp] theorem moveTo_ac (a : Access) (s : State) : (moveTo a s).ac = (enter a s).ac := rfl

@[simp] theorem moveTo_ce (a : Access) (s : State) : (moveTo a s).ce = (enter a s).ce := rfl

@[simp] theorem moveTo_cu (a : Access) (s : State) : (moveTo a s).cu = (enter a s).cu := rfl

@[simp] theorem moveTo_ecp (a : Access) (s : State) : (moveTo a s).ecp =
    { s.ecp with
      adminTable := a == .adminSession, stack := [], overlong := false, copy := none, command := none,
      timer := none } := by
  simp [moveTo]

@[simp] theorem moveTo_atr (a : Access) (s : State) : (moveTo a s).atr = (enter a s).atr := rfl

@[simp] theorem moveTo_uli (a : Access) (s : State) : (moveTo a s).uli = (enter a s).uli := rfl

/-! ## The relation -/

/-- From `s` to `t` the rules of the presentation, of the two key registers, of the active table and of the stack are
kept. -/
structure Control (s t : State) : Prop where
  presentation : s.PresentationOk → t.PresentationOk
  key : s.KeyOk → t.KeyOk
  sessionKey : s.SessionKeyOk → t.SessionKeyOk
  table : s.TableOk → t.TableOk
  stack : s.StackOk → t.StackOk

/-- Where the AC, the ATR, the CE, the CU and the ECP stay as they were, each rule is kept. -/
theorem Control.of_same {s t : State} (hac : t.ac = s.ac) (hatr : t.atr = s.atr) (hce : t.ce = s.ce) (hcu : t.cu = s.cu)
    (hecp : t.ecp = s.ecp) : Control s t := by
  refine ⟨fun h => ?_, fun h => ?_, fun h => ?_, fun h => ?_, fun h => ?_⟩
  · rwa [State.PresentationOk, hac, hatr]
  · rwa [State.KeyOk, hac, hce]
  · rwa [State.SessionKeyOk, hac, hcu]
  · rwa [State.TableOk, hac, hecp]
  · rwa [State.StackOk, hecp]

theorem Control.refl (s : State) : Control s s := ⟨id, id, id, id, id⟩

theorem Control.trans {s t u : State} (h1 : Control s t) (h2 : Control t u) : Control s u :=
  ⟨h2.presentation ∘ h1.presentation, h2.key ∘ h1.key, h2.sessionKey ∘ h1.sessionKey, h2.table ∘ h1.table,
    h2.stack ∘ h1.stack⟩

theorem Control.neutral {s t : State} (h : Neutral s t) : Control s t := by
  obtain ⟨-, -, hatr, hce, -, -, -, haccess, hpresentation, hkey, htable, -, -, hstack, -⟩ := h
  refine ⟨fun h => ?_, fun h => ?_, fun h => ?_, fun h => ?_, hstack⟩
  · rwa [State.PresentationOk, haccess, hpresentation, hatr]
  · rwa [State.KeyOk, haccess, hce]
  · rwa [State.SessionKeyOk, haccess, hkey]
  · rwa [State.TableOk, haccess, htable]

/-- A move sets the presentation, the keys and the table by its sub-state. -/
theorem Control.enter (a : Access) (s : State) : Control s (enter a s) := by
  refine ⟨fun ⟨hpresentation, hatr⟩ => ⟨by simp, ?_⟩, fun _ => ?_, fun _ => ?_, fun _ => ?_, fun h => ?_⟩
  · rw [enter_atr, enter_ac]
    split
    next hsame => rw [hatr, hsame]
    next => rfl
  · simp only [State.KeyOk, enter_ce, enter_ac]
    split <;> simp_all
  · simp only [State.SessionKeyOk, enter_cu, enter_ac]
    split <;> simp_all
  · simp [State.TableOk]
  · simpa [State.StackOk] using h

/-- Outside UNLOCKED OVERLAY is presented. -/
theorem Access.presentation_of_locked {a : Access} (h : a.unlocked = false) : a.presentation = .overlay := by
  cases a <;> simp_all [Access.unlocked, Access.presentation]

theorem Control.presentOverlay {s : State} (h : s.ac.access.unlocked = false) : Control s (present .overlay s) := by
  refine ⟨fun ⟨hpresentation, hatr⟩ => ?_, fun hk => by simpa [State.KeyOk] using hk,
    fun hk => by simpa [State.SessionKeyOk] using hk, fun ht => by simpa [State.TableOk] using ht,
    fun hs => by simpa [State.StackOk] using hs⟩
  have hsame : s.ac.presentation = .overlay := hpresentation.trans (Access.presentation_of_locked h)
  rw [State.PresentationOk, present_atr, if_pos hsame]
  exact ⟨by simpa using (Access.presentation_of_locked h).symm, by simp [hatr, hsame]⟩

/-- A change of the tables alone keeps each rule: it touches none of the five blocks. -/
theorem control_walk : Walk Control where
  refl := Control.refl
  trans := Control.trans
  neutral := Control.neutral
  judge s := .of_same (by simp) (by simp) (by simp) (by simp) (by simp)
  ksRequest r s := .of_same rfl rfl rfl rfl rfl
  endWrite c s := .of_same rfl rfl rfl rfl rfl
  enter := Control.enter
  presentOverlay s h := Control.presentOverlay h
  clearKey s := ⟨id, by simp [State.KeyOk], id, id, id⟩
  loadKey k s h := ⟨id, by simp [State.KeyOk, h], id, id, id⟩
  loadSession k s h := ⟨id, id, by simp [State.SessionKeyOk, h], id, id⟩
  failTxn t f s := .of_same (by simp) (by simp) (by simp) (by simp) (by simp)
  progress t s := .of_same (by simp) (by simp) (by simp) (by simp) (by simp)
  addDone t k s := .of_same rfl rfl rfl rfl rfl
  stopCipher s := .of_same (by simp) (by simp) (by simp) (by simp) (by simp)
  endRun t j s _ := .of_same (by simp) (by simp) (by simp) (by simp) (by simp)
  runOn t j s _ := .of_same rfl rfl rfl rfl rfl
  requestWindow c u s _ := .of_same (by simp) (by simp) (by simp) (by simp) (by simp)
  eraseHold s := .of_same (by simp) (by simp) (by simp) (by simp) (by simp)
  loseMedia s := .of_same rfl rfl rfl rfl rfl
  completion d x ok page s _ := .of_same (by simp) (by simp) (by simp) (by simp) (by simp)
  error o e s _ := .of_same (by simp) (by simp) (by simp) (by simp) (by simp)
  startJob b x s _ _ := .of_same (by simp) (by simp) (by simp) (by simp) (by simp)
  dataWaits s := .of_same rfl rfl rfl rfl rfl
  issue d r s _ _ := .of_same (by simp) (by simp) (by simp) (by simp) (by simp)
  cipherTake s := .of_same (by simp) (by simp) (by simp) (by simp) (by simp)
  grant s := .of_same (by simp) (by simp) (by simp) (by simp) (by simp)
  cipherEnd s := .of_same (by simp) (by simp) (by simp) (by simp) (by simp)
  takeSector t i j sector s _ := .of_same (by simp) (by simp) (by simp) (by simp) (by simp)
  admitRequest k t r s _ := .of_same (by simp) (by simp) (by simp) (by simp) (by simp)

/-! ## Every command -/

theorem Control.completeSent (s : State) : Control s (completeSent s) := by
  refine .of_same ?_ ?_ ?_ ?_ ?_ <;> simp

/-- The values at the release of NPOR keep each rule. -/
theorem Control.of_atRelease {s t : State} (nvm : Nvm) (draws : Nat) (up : List UpRecord) (down : List DownRecord)
    (pending : List Instr) (hac : t.ac = (State.atRelease nvm draws up down pending).ac)
    (hatr : t.atr = (State.atRelease nvm draws up down pending).atr)
    (hce : t.ce = (State.atRelease nvm draws up down pending).ce)
    (hcu : t.cu = (State.atRelease nvm draws up down pending).cu)
    (hecp : t.ecp = (State.atRelease nvm draws up down pending).ecp) : Control s t := by
  have hsafe := State.atRelease_safe nvm draws up down pending
  have hsame := Control.of_same hac hatr hce hcu hecp
  exact ⟨fun _ => hsame.presentation hsafe.presentation, fun _ => hsame.key hsafe.key,
    fun _ => hsame.sessionKey hsafe.sessionKey, fun _ => hsame.table hsafe.table, fun _ => hsame.stack hsafe.stack⟩

theorem Control.powerOn (s : State) : Control s (powerOn s) := by
  unfold Machine.powerOn
  split
  · exact .of_atRelease _ _ _ _ _ rfl rfl rfl rfl rfl
  · exact .refl s

theorem Control.powerLoss (fate : WriteFate) (s : State) : Control s (powerLoss fate s) := by
  unfold Machine.powerLoss
  split
  · exact .refl s
  · exact .of_atRelease (s.ks.afterLoss fate s.draws) (s.draws + 1) s.uli.sent s.dli.sent s.pending rfl rfl rfl rfl rfl

theorem Control.emptyTable (s : State) : Control s (emptyTable s) := .of_same rfl rfl rfl rfl rfl

theorem Control.readingComplete (s : State) : Control s (readingComplete s) := by
  by_cases h : s.power = .reading
  · exact Control.trans (t := readImages s) (.of_same rfl rfl rfl rfl rfl)
      (control_walk.readingComplete Control.emptyTable h)
  · rw [Machine.readingComplete, if_neg h]
    exact .refl s

theorem exec_control {c : Instr} {s t : State} (h : exec c s = .next t) : Control s t := by
  cases c with
  | powerOn => cases h; exact .powerOn s
  | powerLoss fate => cases h; exact .powerLoss fate s
  | ksReadingComplete => cases h; exact .readingComplete s
  | linkReset => exact control_walk.exec_link Control.emptyTable (.inl rfl) h
  | suspend => exact control_walk.exec_link Control.emptyTable (.inr (.inl rfl)) h
  | resume => exact control_walk.exec_link Control.emptyTable (.inr (.inr (.inl rfl))) h
  | refusalSent => exact control_walk.exec_link Control.emptyTable (.inr (.inr (.inr rfl))) h
  | completeSent => exact control_walk.whenRunning h (.completeSent s)
  | _ => exact control_walk.exec (fun _ => .of_same rfl rfl rfl rfl rfl) rfl h

/-- A step is the front command on the state with the queue's rest, or nothing. -/
theorem step_cases {s t : State} (h : step s = .next t) :
    t = s ∨ ∃ c rest, s.pending = c :: rest ∧ exec c { s with pending := rest } = .next t := by
  unfold step at h
  split at h
  · cases h
    exact .inl rfl
  next c rest hpending => exact .inr ⟨c, rest, hpending, h⟩

/-- A relation that every command meets from a state of any queue is met by every step. -/
theorem step_control {s t : State} (h : step s = .next t) : Control s t := by
  rcases step_cases h with rfl | ⟨c, rest, -, hexec⟩
  · exact .refl _
  · exact Control.trans (t := { s with pending := rest }) (.of_same rfl rfl rfl rfl rfl) (exec_control hexec)

/-- Settles O5 by the walk. -/
theorem stepKeepsPresentation : Obligations.StepKeepsPresentation :=
  fun _ _ hok h => (step_control h).presentation hok

/-- Settles O6 by the walk. -/
theorem stepKeepsKeyRules : Obligations.StepKeepsKeyRules :=
  fun _ _ h => ⟨(step_control h).key, (step_control h).sessionKey⟩

end Sys2Proof.Machine


/-! PROOF. The key store (O15): its records change at its own events alone, the write in flight is always the oldest
request's, and nothing is asked of it before its reading completes. -/

namespace Sys2Proof.Machine

open Sys2Proof

/-! ## The write in flight -/

/-- From `s` to `t` the write in flight stays the oldest request's. -/
def KeepsWriting (s t : State) : Prop := s.WritingOk → t.WritingOk

theorem KeepsWriting.of_same {s t : State} (h : t.ks = s.ks) : KeepsWriting s t := by
  intro hok
  constructor
  · rw [h]; exact hok.idle
  · rw [h]; exact hok.cred
  · rw [h]; exact hok.dev

theorem KeepsWriting.refl (s : State) : KeepsWriting s s := id

theorem KeepsWriting.trans {s t u : State} (h1 : KeepsWriting s t) (h2 : KeepsWriting t u) : KeepsWriting s u := h2 ∘ h1

theorem KeepsWriting.setSwu (x : Swu) (s : State) : KeepsWriting s (s.setSwu x) := .of_same rfl

theorem KeepsWriting.requestCursor (c : Option Nat) (skipped : Bool) (s : State) :
    KeepsWriting s (requestCursor c skipped s) :=
  .trans (.setSwu _ s) (ksRequest_writingOk _)

theorem KeepsWriting.makeDue (s : State) : KeepsWriting s (makeDue s) := by
  unfold Machine.makeDue
  split
  · exact .refl s
  · split
    · exact .setSwu _ s
    · split
      · split
        · exact .of_same (by simp)
        · exact .trans (.setSwu _ s) (.requestCursor _ _ _)
      · exact .setSwu _ s

theorem KeepsWriting.afterAdvance (c : Nat) (skipped : Bool) (s : State) : KeepsWriting s (afterAdvance c skipped s) := by
  unfold Machine.afterAdvance
  split
  · exact .requestCursor _ _ s
  · split
    · exact .requestCursor _ _ s
    · exact .makeDue s

theorem KeepsWriting.windowResult (r : WindowResult) (n : Nat) (s : State) : KeepsWriting s (windowResult r n s) := by
  unfold Machine.windowResult
  dsimp only
  split
  · exact .setSwu _ s
  · split
    · exact .trans (.setSwu _ s) (.makeDue _)
    · exact .trans (.setSwu _ s) (.makeDue _)
    · exact .trans (.setSwu _ s) (.afterAdvance _ _ _)
    · exact .trans (.setSwu _ s) (.afterAdvance _ _ _)

theorem KeepsWriting.ownerTakes (op : DOp) (o : Owner) (ok lost : Bool) (page : List Byte) (s : State) :
    KeepsWriting s (ownerTakes op o ok lost page s) := by
  unfold Machine.ownerTakes
  split
  · exact .of_same (by simp)
  · exact .of_same (by simp)
  · split
    · exact .windowResult _ _ s
    · exact .refl s
  · exact .refl s

/-- Of the elementary changes only a request and the end of a write touch the key store. -/
theorem writing_walk : Walk KeepsWriting where
  refl := KeepsWriting.refl
  trans := KeepsWriting.trans
  neutral h := .of_same h.2.2.2.2.2.2.2.2.2.2.2.1
  judge s := .of_same (by simp)
  ksRequest r s := ksRequest_writingOk r
  endWrite c s := fun _ => Ks.endWrite_writingOk s c
  enter a s := .of_same (by simp)
  presentOverlay s _ := .of_same (by simp)
  clearKey s := .of_same rfl
  loadKey k s _ := .of_same rfl
  loadSession k s _ := .of_same rfl
  failTxn t f s := .of_same (by simp)
  progress t s := .of_same (by simp)
  addDone t k s := .of_same rfl
  stopCipher s := .of_same (by simp)
  endRun t j s _ := .of_same (by simp)
  runOn t j s _ := .of_same rfl
  requestWindow c u s _ := .of_same (by simp)
  eraseHold s := .of_same (by simp)
  loseMedia s := .of_same rfl
  completion d x ok page s _ := .trans (.of_same (by rfl)) (.ownerTakes _ _ _ _ _ _)
  error o e s _ := .trans (.of_same (by rfl)) (.ownerTakes _ _ _ _ _ _)
  startJob b x s _ _ := .of_same (by simp)
  dataWaits s := .of_same rfl
  issue d r s _ _ := .of_same (by simp)
  cipherTake s := .of_same (by simp)
  grant s := .of_same (by simp)
  cipherEnd s := .of_same (by simp)
  takeSector t i j sector s _ := .of_same (by simp)
  admitRequest k t r s _ := .of_same (by simp)

theorem KeepsWriting.emptyTable (s : State) : KeepsWriting s (emptyTable s) := .of_same rfl

/-- The values at the release of NPOR ask for no write. -/
theorem KeepsWriting.of_atRelease {s t : State} (nvm : Nvm) (draws : Nat) (up : List UpRecord) (down : List DownRecord)
    (pending : List Instr) (h : t.ks = (State.atRelease nvm draws up down pending).ks) : KeepsWriting s t :=
  fun _ => KeepsWriting.of_same h (State.atRelease_safe nvm draws up down pending).writing

/-- Before the reading has completed nothing is asked of the key store, so that forming the images changes no write. -/
theorem KeepsWriting.readImages {s : State} (h : s.ks.queue = []) : KeepsWriting s (readImages s) := by
  intro hok
  refine ⟨fun _ => hok.idle h, fun q more i f hq => ?_, fun q more u hq => ?_⟩
  · exact absurd (h.symm.trans hq) (by simp)
  · exact absurd (h.symm.trans hq) (by simp)

theorem KeepsWriting.readingComplete {s : State} (h : s.ReadingOk) : KeepsWriting s (readingComplete s) := by
  by_cases hp : s.power = .reading
  · obtain ⟨-, -, -, -, -, hqueue, -⟩ := h hp
    exact .trans (.readImages hqueue) (writing_walk.readingComplete KeepsWriting.emptyTable hp)
  · rw [Machine.readingComplete, if_neg hp]
    exact .refl s

theorem exec_keepsWriting {c : Instr} {s t : State} (hr : s.ReadingOk) (h : exec c s = .next t) : KeepsWriting s t := by
  cases c with
  | powerOn =>
    cases h
    unfold powerOn
    split
    · exact .of_atRelease s.ks.nvm s.draws s.uli.sent s.dli.sent s.pending rfl
    · exact .refl s
  | powerLoss fate =>
    cases h
    unfold powerLoss
    split
    · exact .refl s
    · exact .of_atRelease (s.ks.afterLoss fate s.draws) (s.draws + 1) s.uli.sent s.dli.sent s.pending rfl
  | ksReadingComplete => cases h; exact .readingComplete hr
  | linkReset => exact writing_walk.exec_link KeepsWriting.emptyTable (.inl rfl) h
  | suspend => exact writing_walk.exec_link KeepsWriting.emptyTable (.inr (.inl rfl)) h
  | resume => exact writing_walk.exec_link KeepsWriting.emptyTable (.inr (.inr (.inl rfl))) h
  | refusalSent => exact writing_walk.exec_link KeepsWriting.emptyTable (.inr (.inr (.inr rfl))) h
  | completeSent =>
    refine writing_walk.whenRunning h ?_
    unfold completeSent
    split
    · split
      · refine .trans (.of_same ?_) (writing_walk.settle _)
        split <;> rfl
      · exact .refl s
    · exact .refl s
  | _ => exact writing_walk.exec (fun _ => .of_same rfl) rfl h

/-! ## Before the reading has completed -/

/-- Nothing has been taken: the table and the jobs are empty, nothing is asked of the link or of the key store, and the
sweep is IDLE. -/
def State.Quiet (s : State) : Prop :=
  s.txns = [] ∧ s.ubp.jobs = [] ∧ s.dli.slots = [] ∧ s.dli.requests = [] ∧ s.dli.errors = [] ∧ s.ks.queue = [] ∧
    s.swu.state = .idle

/-- Where these fields stay as they were, a quiet state stays quiet. -/
theorem State.Quiet.of_same {s t : State} (h : s.Quiet) (htxns : t.txns = s.txns) (hjobs : t.ubp.jobs = s.ubp.jobs)
    (hslots : t.dli.slots = s.dli.slots) (hrequests : t.dli.requests = s.dli.requests)
    (herrors : t.dli.errors = s.dli.errors) (hks : t.ks.queue = s.ks.queue) (hswu : t.swu.state = s.swu.state) :
    t.Quiet := by
  unfold State.Quiet
  rwa [htxns, hjobs, hslots, hrequests, herrors, hks, hswu]

theorem allocate_of_quiet (n : Nat) {s : State} (h : s.Quiet) : allocate n s = s := by
  cases n with
  | zero => rfl
  | succ n => simp [allocate, h.1]

theorem dataWaits_of_quiet {s : State} (h : s.Quiet) : dataWaits s = s := by
  simp only [dataWaits, h.2.1, List.map_nil]
  rw [← h.2.1]
  rfl

theorem releaseHold_of_quiet {s : State} (h : s.Quiet) : releaseHold s = s := by
  obtain ⟨-, -, -, -, -, -, hidle⟩ := h
  simp [releaseHold, hidle]

theorem issueAll_of_quiet (n : Nat) {s : State} (h : s.Quiet) : issueAll n s = s := by
  obtain ⟨htxns, -, -, hrequests, -, -, -⟩ := h
  have hnone : s.chosenRequest = none := by
    simp [State.chosenRequest, State.oldestRequest, State.discardRequest, hrequests, htxns]
  cases n with
  | zero => rfl
  | succ n => simp [issueAll, hnone]

theorem cipherTake_of_quiet {s : State} (h : s.Quiet) : cipherTake s = s := by
  obtain ⟨htxns, -, -, -, -, -, -⟩ := h
  simp [cipherTake, State.nextCipher, htxns]

theorem grant_of_quiet {s : State} (h : s.Quiet) : (grant s).ubp = s.ubp := by
  obtain ⟨htxns, hjobs, -, -, -, -, -⟩ := h
  simp only [grant, State.nextOutput, htxns]
  split
  · rfl
  · split <;> rfl

/-- The closure of an event finds nothing to do in a quiet part but to grant the output and to judge the shown source. -/
theorem State.Quiet.settle {s : State} (h : s.Quiet) : (settle s).Quiet := by
  have hsettle : Machine.settle s = judge (grant s) := by
    simp only [Machine.settle, allocate_of_quiet 8 h, dataWaits_of_quiet h, releaseHold_of_quiet h,
      issueAll_of_quiet 4 h, cipherTake_of_quiet h]
  rw [hsettle]
  exact h.of_same (by simp) (by simp [grant_of_quiet h]) (by simp) (by simp) (by simp) (by simp) (by simp)

theorem State.Quiet.lockEvent {s : State} (h : s.Quiet) (c : Cause) : (lockEvent c s).Quiet := by
  obtain ⟨htxns, hjobs, -, -, -, -, -⟩ := id h
  have hcleared : failVolume .user (.volumeChanged c) ((stopCipher s).setCe { key := none }) =
      s.setCe { key := none } := by
    simp [failVolume, stopCipher, htxns, hjobs]
  simp only [Machine.lockEvent, hcleared]
  split <;> exact h.of_same (by simp) (by simp) (by simp) (by simp) (by simp) (by simp) (by simp)

theorem State.Quiet.takeEarly {s : State} (h : s.Quiet) (early : List Owner) : takeEarly early s = s := by
  have hnone (o : Owner) : takeError o s = s := by simp [takeError, h.2.2.2.2.1]
  unfold Machine.takeEarly
  induction early with
  | nil => rfl
  | cons o early ih => rw [List.foldl_cons, hnone, ih]

theorem State.Quiet.acLoss {s : State} (h : s.Quiet) : (acLoss s).Quiet := by
  unfold Machine.acLoss
  split
  · exact h.lockEvent _
  · split
    · exact h.of_same rfl rfl rfl rfl rfl rfl rfl
    · exact h

theorem State.Quiet.loseMedia {s : State} (h : s.Quiet) : (loseMedia s).Quiet := by
  obtain ⟨htxns, hjobs, hslots, hrequests, herrors, hqueue, hidle⟩ := h
  exact ⟨htxns, hjobs, rfl, rfl, by simp [Machine.loseMedia, hslots, hrequests, herrors], hqueue, hidle⟩

theorem State.Quiet.reportMedia {s : State} (h : s.Quiet) : reportMedia s = s := by
  obtain ⟨-, -, -, -, -, -, hidle⟩ := h
  simp [Machine.reportMedia, sweepReportOk, hidle]

theorem State.Quiet.identify {s : State} (h : s.Quiet) (p : BitVec 32) : (identify p s).Quiet :=
  h.of_same rfl rfl rfl rfl rfl rfl rfl

theorem State.Quiet.mediaLost {s : State} (h : s.Quiet) (early : List Owner) : (mediaLost early s).Quiet := by
  unfold Machine.mediaLost
  split
  · exact h
  · rw [h.loseMedia.takeEarly]
    exact h.loseMedia.acLoss.settle

theorem State.Quiet.identTaken {s : State} (h : s.Quiet) (p : BitVec 32) (early : List Owner) :
    (identTaken p early s).Quiet := by
  unfold Machine.identTaken
  split
  · split
    · exact (h.identify p).settle
    · have hlost := h.loseMedia.identify p
      rw [hlost.takeEarly, hlost.acLoss.reportMedia]
      exact hlost.acLoss.settle
  · rw [(h.identify p).reportMedia]
    exact (h.identify p).settle

theorem State.Quiet.identWaitExpired {s : State} (h : s.Quiet) : (identWaitExpired s).Quiet := by
  unfold Machine.identWaitExpired
  split
  · exact State.Quiet.settle (h.of_same rfl rfl rfl rfl rfl rfl rfl)
  · exact h

theorem State.Quiet.takeCompletion {s : State} (h : s.Quiet) (op d status : Byte) (rest : List Byte) :
    takeCompletion op d status rest s = s := by
  simp [Machine.takeCompletion, h.2.2.1]

theorem State.Quiet.takeError {s : State} (h : s.Quiet) (o : Owner) : takeError o s = s := by
  simp [Machine.takeError, h.2.2.2.2.1]

theorem State.Quiet.briefRunout {s : State} (h : s.Quiet) : (briefRunout s).Quiet := by
  unfold Machine.briefRunout
  repeat' split
  all_goals exact h.of_same rfl rfl rfl rfl rfl rfl rfl

/-- Every command but the end of the reading leaves a part that reads its key store quiet. -/
theorem exec_quiet {c : Instr} {s t : State} (hp : s.power = .reading) (hq : s.Quiet) (h : exec c s = .next t)
    (ht : t.power = .reading) : t.Quiet := by
  have hon : s.power ≠ .off := by simp [hp]
  have hrun : s.power ≠ .running := by simp [hp]
  have hpowered {f : State → State} (h : s.whenPowered f = .next t) : t = f s := by
    rw [State.whenPowered_of_ne_off hon] at h
    cases h
    rfl
  have hrunning {f : State → State} (h : s.whenRunning f = .next t) : t = s := by
    rw [State.whenRunning_of_ne_running hrun] at h
    cases h
    rfl
  cases c with
  | powerOn =>
    cases h
    rwa [powerOn, if_neg hon]
  | powerLoss fate =>
    cases h
    rw [(powerLoss_fields fate hon).1] at ht
    cases ht
  | ksReadingComplete =>
    cases h
    rw [readingComplete, if_pos hp] at ht
    simp at ht
  | readRequest | writeRequest | flushRequest | sizeRequest | stateRequest | abort | unknownKindRequest =>
    cases h
    rw [requestArrives_of_reading hp]
    exact hq.of_same rfl rfl rfl rfl rfl rfl rfl
  | writeData tag sector =>
    cases h
    simp only [hp]
    exact hq.of_same rfl rfl rfl rfl rfl rfl rfl
  | linkReset | suspend | resume =>
    cases h
    rw [signalArrives_of_reading hp]
    exact hq.of_same rfl rfl rfl rfl rfl rfl rfl
  | upstreamFrameDropped | downstreamFrameDropped => cases h; exact hq
  | tick => rw [hpowered h]; exact hq.of_same rfl rfl rfl rfl rfl rfl rfl
  | pageReadCompletion | pageWriteCompletion | syncCompletion | discardCompletion =>
    rw [hpowered h, hq.takeCompletion]
    exact hq
  | ident p early => rw [hpowered h]; exact hq.identTaken p early
  | mediaLost early => rw [hpowered h]; exact hq.mediaLost early
  | errorCompletionTaken o => rw [hpowered h, hq.takeError]; exact hq
  | identWaitExpiry => rw [hpowered h]; exact hq.identWaitExpired
  | keyEntryProduced | shiftTapProduced =>
    rw [hpowered h]
    exact hq.of_same (by simp) (by simp) (by simp) (by simp) (by simp) (by simp) (by simp)
  | briefPatternRunout => rw [hpowered (f := fun s => settle (briefRunout s)) h]; exact hq.briefRunout.settle
  | activityRestEnd =>
    rw [hpowered h]
    exact hq.of_same (by simp) (by simp) (by simp) (by simp) (by simp) (by simp) (by simp)
  | patternClock =>
    rw [hpowered (f := fun s => s.setInd (patternTick s.ind)) h]
    exact hq.of_same rfl rfl rfl rfl rfl rfl rfl
  | scan closed =>
    rw [hpowered (f := fun s => s.setKps (s.kps.scan closed)) h]
    exact hq.of_same rfl rfl rfl rfl rfl rfl rfl
  | cipherCompletion => rw [hrunning (f := fun s => settle (cipherEnd s)) h]; exact hq
  | verifyEnd => rw [hrunning (f := fun s => settle (verifyEnded s)) h]; exact hq
  | ksWriteComplete => rw [hrunning (f := fun s => settle (ksWritten s)) h]; exact hq
  | _ => rw [hrunning h]; exact hq

/-- Until the reading completes nothing is taken, whatever the command. -/
theorem exec_readingOk {c : Instr} {s t : State} (hr : s.ReadingOk) (h : exec c s = .next t) : t.ReadingOk := by
  intro ht
  cases hp : s.power with
  | reading => exact exec_quiet hp (hr hp) h ht
  | off =>
    by_cases hc : c = .powerOn
    · subst hc
      cases h
      rw [powerOn, if_pos hp]
      exact (State.atRelease_safe ..).reading rfl
    · rw [exec_of_off hp hc] at h
      cases h
      rw [hp] at ht
      cases ht
  | running =>
    have hkept (hpower : t.power = s.power) : t.Quiet := by
      rw [hpower, hp] at ht
      cases ht
    cases c with
    | powerOn =>
      cases h
      exact hkept (by simp [powerOn, hp])
    | powerLoss fate =>
      cases h
      rw [(powerLoss_fields fate (by simp [hp])).1] at ht
      cases ht
    | ksReadingComplete =>
      cases h
      exact hkept (by simp [readingComplete, hp])
    | _ => exact hkept (exec_touches h .power (by simp [blocksOf, Block.moves, Block.follow]))

/-! ## The records -/

theorem exec_medium {c : Instr} {s t : State} (h : exec c s = .next t)
    (hc : c ≠ .ksWriteComplete ∧ ∀ f, c ≠ .powerLoss f) : t.ks.nvm = s.ks.nvm := by
  obtain ⟨hwrite, hloss⟩ := hc
  cases c with
  | ksWriteComplete => exact absurd rfl hwrite
  | powerLoss f => exact absurd rfl (hloss f)
  | powerOn =>
    cases h
    unfold powerOn
    split <;> rfl
  | _ => exact exec_touches h .medium (by simp [blocksOf, Block.moves, Block.follow])

theorem exec_images {c : Instr} {s t : State} (h : exec c s = .next t)
    (hc : c ≠ .ksWriteComplete ∧ (∀ f, c ≠ .powerLoss f) ∧ c ≠ .powerOn ∧ c ≠ .ksReadingComplete) :
    t.ks.creds = s.ks.creds ∧ t.ks.dev = s.ks.dev := by
  obtain ⟨hwrite, hloss, hon, hreading⟩ := hc
  refine exec_touches h .images ?_
  cases c with
  | ksWriteComplete => exact absurd rfl hwrite
  | powerLoss f => exact absurd rfl (hloss f)
  | powerOn => exact absurd rfl hon
  | ksReadingComplete => exact absurd rfl hreading
  | _ => simp [blocksOf, Block.moves, Block.follow]

/-- Settles O15: the records by their blocks, the write in flight by the walk, the reading by `exec_readingOk`. -/
theorem keyStoreChangesOnlyAtItsEvents : Obligations.KeyStoreChangesOnlyAtItsEvents :=
  fun _ _ _ h => ⟨exec_medium h, exec_images h, fun hr => exec_readingOk hr h, fun hr hw => exec_keepsWriting hr h hw⟩

end Sys2Proof.Machine


/-! PROOF. The law of a failure (R23, R24, R60): what `failTxn` does to the table and to the work of the record, exactly. -/

namespace Sys2Proof.Machine

open Sys2Proof

/-! ## The record of a tag -/

theorem State.tag_of_txn? {s : State} {t : Fin 16} {x : Txn} (h : s.txn? t = some x) : x.tag = t := by
  simpa using List.find?_some h

theorem State.mem_of_txn? {s : State} {t : Fin 16} {x : Txn} (h : s.txn? t = some x) : x ∈ s.txns :=
  List.mem_of_find?_eq_some h

/-- In a list of distinct keys an element is the one found by its key. -/
theorem find?_of_nodup {α β : Type} [BEq β] [LawfulBEq β] {l : List α} {k : α → β} (h : (l.map k).Nodup) {x : α}
    (hx : x ∈ l) : l.find? (fun y => k y == k x) = some x := by
  induction l with
  | nil => cases hx
  | cons a l ih =>
    obtain ⟨ha, hl⟩ := List.nodup_cons.1 h
    rcases List.mem_cons.1 hx with rfl | hx
    · simp
    · have hne : k a ≠ k x := fun he => ha (he ▸ List.mem_map_of_mem hx)
      rw [List.find?_cons_of_neg (by simpa using hne)]
      exact ih hl hx

/-- With distinct tags a record of the table is the one found on its tag (R21). -/
theorem State.txn?_of_mem {s : State} (h : s.TagsOk) {x : Txn} (hx : x ∈ s.txns) : s.txn? x.tag = some x :=
  find?_of_nodup h hx

/-- With distinct buffers a job is the one found in its buffer (R42). -/
theorem State.job?_of_mem {s : State} (h : s.BuffersOk) {j : Job} (hj : j ∈ s.ubp.jobs) : s.job? j.buf = some j :=
  find?_of_nodup h hj

theorem State.buf_of_job? {s : State} {b : Fin 8} {j : Job} (h : s.job? b = some j) : j.buf = b := by
  simpa using List.find?_some h

theorem State.mem_of_job? {s : State} {b : Fin 8} {j : Job} (h : s.job? b = some j) : j ∈ s.ubp.jobs :=
  List.mem_of_find?_eq_some h

/-- With distinct tags, records of one tag are one. -/
theorem State.TagsOk.eq_of_tag {s : State} (h : s.TagsOk) {x y : Txn} (hx : x ∈ s.txns) (hy : y ∈ s.txns)
    (ht : x.tag = y.tag) : x = y :=
  List.inj_on_of_nodup_map h hx hy ht

/-- With distinct buffers, jobs of one buffer are one. -/
theorem State.BuffersOk.eq_of_buf {s : State} (h : s.BuffersOk) {j k : Job} (hj : j ∈ s.ubp.jobs) (hk : k ∈ s.ubp.jobs)
    (hb : j.buf = k.buf) : j = k :=
  List.inj_on_of_nodup_map h hj hk hb

/-- A record of another tag is found as before a change of one record. -/
theorem updTxn_txn?_of_ne {t u : Fin 16} (h : u ≠ t) {f : Txn → Txn} (hf : ∀ x, (f x).tag = x.tag) (s : State) :
    (updTxn t f s).txn? u = s.txn? u := by
  unfold State.txn?
  rw [updTxn_txns, List.find?_map]
  have hfind : ((fun x : Txn => x.tag == u) ∘ fun x => if x.tag = t then f x else x) = fun x => x.tag == u := by
    funext x
    by_cases hx : x.tag = t <;> simp [hx, hf]
  rw [hfind]
  cases hx : s.txns.find? (fun x => x.tag == u) with
  | none => rfl
  | some x =>
    have htag : x.tag = u := by simpa using List.find?_some hx
    simp [htag, h]

/-! ## The work of a failed record -/

theorem disposeJobs_jobs (t : Fin 16) (s : State) :
    (disposeJobs t s).ubp.jobs = s.ubp.jobs.filterMap (fun j => if j.isOf t then j.atFailure else some j) := by
  simp [disposeJobs, releaseHeld, withdrawJobs, updTxn]

/-- The jobs after a failure: those of a READ or WRITE on USER disposed of, all others left (R60). -/
theorem disposeWork_jobs (x : Txn) (s : State) : (disposeWork x s).ubp.jobs =
    if x.isUserTransfer then s.ubp.jobs.filterMap (fun j => if j.isOf x.tag then j.atFailure else some j)
    else s.ubp.jobs := by
  unfold disposeWork
  split
  next hflush => simp [Txn.isUserTransfer, hflush]
  next =>
    split
    · simp [disposeJobs_jobs, closeIntake]
    · rfl

/-- A job that stays at its transaction's failure stays as it is. -/
theorem Job.atFailure_of_mediaWrite {j : Job} (h : j.state = .mediaWrite) : j.atFailure = some j := by
  simp [Job.atFailure, h]

/-- A job left by a failure keeps its buffer, owner, unit and state. -/
theorem Job.atFailure_fields {j k : Job} (h : j.atFailure = some k) :
    k.buf = j.buf ∧ k.owner = j.owner ∧ k.unit = j.unit ∧ k.state = j.state ∧ k.pageOp = j.pageOp ∧
      (k.abandoned = true → k.state ≠ .mediaWrite ∨ j.abandoned = true) := by
  rw [Job.atFailure_eq] at h
  split at h
  next hread =>
    cases h
    refine ⟨rfl, rfl, rfl, rfl, rfl, fun _ => .inl ?_⟩
    simp [Job.isIssuedRead] at hread
    simp [hread.1]
  next =>
    split at h
    · cases h
      exact ⟨rfl, rfl, rfl, rfl, rfl, .inr⟩
    · cases h

/-- The page writes a failed transaction still waits on are those it had. -/
theorem disposed_mediaWrite (x : Txn) (s : State) :
    (disposeWork x s).ubp.jobs.any (fun j => j.owner == x.tag && !j.abandoned && j.state == .mediaWrite) =
      s.ubp.jobs.any (fun j => j.owner == x.tag && !j.abandoned && j.state == .mediaWrite) := by
  rw [disposeWork_jobs, Bool.eq_iff_iff]
  split
  · simp only [List.any_eq_true, List.mem_filterMap, Bool.and_eq_true, Bool.not_eq_true', beq_iff_eq]
    constructor
    · rintro ⟨k, ⟨j, hj, hk⟩, ⟨howner, habandoned⟩, hstate⟩
      split at hk
      next hof =>
        obtain ⟨-, how, -, hst, -, -⟩ := Job.atFailure_fields hk
        refine ⟨j, hj, ⟨how ▸ howner, ?_⟩, hst ▸ hstate⟩
        simpa [Job.isOf] using (by simpa [Job.isOf] using hof : j.owner = x.tag ∧ j.abandoned = false).2
      next =>
        cases hk
        exact ⟨k, hj, ⟨howner, habandoned⟩, hstate⟩
    · rintro ⟨j, hj, ⟨howner, habandoned⟩, hstate⟩
      refine ⟨j, ⟨j, hj, ?_⟩, ⟨howner, habandoned⟩, hstate⟩
      simp [Job.atFailure_of_mediaWrite hstate]
  · rfl

theorem withdrawSync_syncIssued (t : Fin 16) (s : State) : (withdrawSync t s).syncIssued t = s.syncIssued t := by
  simp only [State.syncIssued, withdrawSync, State.setDli_fields, List.any_filter]
  congr 2
  funext e
  by_cases h : e.owner = .flush t <;> simp [h]

theorem disposeJobs_syncIssued (t u : Fin 16) (s : State) : (disposeJobs t s).syncIssued u = s.syncIssued u := by
  simp only [State.syncIssued, disposeJobs, releaseHeld, withdrawJobs, updTxn, State.setDli_fields, State.setTxns_fields,
    State.setUbp_fields, List.any_filter]
  congr 2
  funext e
  by_cases h : e.owner = .flush u <;> simp [h, ownerIn]

theorem withdrawWanted_output (t : Fin 16) (s : State) : (withdrawWanted t s).uli.output =
    if s.uli.output = .dataWanted t then .free else s.uli.output := by
  unfold withdrawWanted
  split <;> simp [freeOutput, *]

/-- The disposal of a failed record's work leaves the work it may not cancel (R23, R60, R77). -/
theorem disposeWork_stillWaits (x : Txn) (s : State) : (disposeWork x s).stillWaits x.tag = s.stillWaits x.tag := by
  have hjobs := disposed_mediaWrite x s
  have hsync : (disposeWork x s).syncIssued x.tag = s.syncIssued x.tag := by
    unfold disposeWork
    split
    · exact withdrawSync_syncIssued x.tag s
    · split
      · have hw (u : State) : (withdrawWanted x.tag u).syncIssued x.tag = u.syncIssued x.tag := by simp [State.syncIssued]
        have hc (u : State) : (closeIntake x.tag u).syncIssued x.tag = u.syncIssued x.tag := rfl
        rw [hw, hc, disposeJobs_syncIssued]
      · rfl
  have houtput (o : Output) (ho : ∀ u, o ≠ .dataWanted u) (hfree : o ≠ .free) :
      ((disposeWork x s).uli.output == o) = (s.uli.output == o) := by
    unfold disposeWork
    split
    · rfl
    · split
      · rw [withdrawWanted_output, Bool.eq_iff_iff]
        simp only [closeIntake, State.setUli_fields, disposeJobs_frame]
        split
        next h => simp [h, hfree.symm, (ho _).symm]
        next => rfl
      · rfl
  simp only [State.stillWaits, hjobs, hsync, houtput (.delivery x.tag) (by simp) (by simp),
    houtput (.overlay x.tag) (by simp) (by simp)]

/-! ## A failure -/

/-- How many jobs a failure of the record takes from its transaction (R44, R60). -/
def State.leaving (s : State) (x : Txn) : Nat :=
  if x.isUserTransfer then
    ((s.ubp.jobs.filter (fun j => j.isOf x.tag)).filter (fun j => j.leavesAtFailure)).length
  else 0

/-- A record after its failure, `n` of its jobs having left it (R23, R24). -/
def Txn.failed (f : Failure) (n : Nat) (keeps : Bool) (y : Txn) : Txn :=
  { y with
    failure := some f, flushMark := none, jobsHeld := y.jobsHeld - n,
    phase := if keeps then .draining else .done,
    outcome := if keeps then y.outcome else some f.outcome }

@[simp] theorem Txn.failed_tag (f : Failure) (n : Nat) (keeps : Bool) (y : Txn) : (y.failed f n keeps).tag = y.tag := rfl

/-- The record moves on by the work it keeps. -/
theorem Txn.failed_movesOn (f : Failure) (n : Nat) {keeps : Bool} {p : Prop} (h : keeps = true ↔ p) (y : Txn) :
    (y.failed f n keeps).MovesOn p f.outcome := by
  refine ⟨fun hp => ?_, fun hp => ?_⟩
  · simp [Txn.failed, h.2 hp]
  · have : keeps = false := by simpa using fun hk => hp (h.1 hk)
    simp [Txn.failed, this]

theorem disposeWork_leaving (x : Txn) (s : State) :
    (disposeWork x s).txns = (releaseHeld x.tag (s.leaving x) s).txns := by
  have hnone : s.txns = (releaseHeld x.tag 0 s).txns := (updTxn_id_txns x.tag s).symm
  unfold disposeWork State.leaving
  split
  next hflush => simpa [Txn.isUserTransfer, hflush] using hnone
  next =>
    split
    · simpa using disposeJobs_txns x.tag s
    · exact hnone

/-- A failure that reaches no ACTIVE record without a failure changes nothing (R24). -/
theorem failTxn_of_inactive {t : Fin 16} {s : State} (h : ∀ x, s.txn? t = some x → x.phase ≠ .active ∨ x.failure ≠ none)
    (f : Failure) : failTxn t f s = s := by
  unfold failTxn
  split
  · rfl
  next x hx =>
    have hx := h x hx
    rw [if_pos (by simpa [Option.isSome_iff_ne_none] using hx)]

/-- A failure of an ACTIVE record: recorded, its work disposed of, its phase moved by the work it keeps (R23, R24). -/
theorem failTxn_of_active {t : Fin 16} {s : State} {x : Txn} (hx : s.txn? t = some x) (hactive : x.phase = .active)
    (hfresh : x.failure = none) (f : Failure) :
    failTxn t f s =
      if s.stillWaits t then
        updTxn t (fun y => { y with phase := .draining })
          (disposeWork x (updTxn t (fun y => { y with failure := some f, flushMark := none }) s))
      else setDone t (disposeWork x (updTxn t (fun y => { y with failure := some f, flushMark := none }) s)) := by
  have htag := State.tag_of_txn? hx
  have hwaits : (disposeWork x (updTxn t (fun y => { y with failure := some f, flushMark := none }) s)).stillWaits t =
      s.stillWaits t := by
    rw [← htag, disposeWork_stillWaits]
    rfl
  simp [failTxn, hx, hactive, hfresh, hwaits]

/-- The table after a failure: the record of the tag moved on, every other as it was. -/
theorem failTxn_table {t : Fin 16} {s : State} {x : Txn} (hx : s.txn? t = some x) (hactive : x.phase = .active)
    (hfresh : x.failure = none) (f : Failure) :
    (failTxn t f s).txns = (updTxn t (Txn.failed f (s.leaving x) (s.stillWaits t)) s).txns := by
  have htag := State.tag_of_txn? hx
  have hdisposed := disposeWork_leaving x (updTxn t (fun y => { y with failure := some f, flushMark := none }) s)
  rw [htag] at hdisposed
  have hdisposed := hdisposed.trans (updTxn_txns_trans (by rfl) (by exact fun _ => rfl) _)
  have hleaving : (updTxn t (fun y => { y with failure := some f, flushMark := none }) s).leaving x = s.leaving x := rfl
  rw [hleaving] at hdisposed
  rw [failTxn_of_active hx hactive hfresh]
  split
  next hwaits =>
    rw [updTxn_txns_trans hdisposed (by exact fun _ => rfl) _]
    simp only [updTxn_txns, hwaits]
    rfl
  next hwaits =>
    rw [setDone, updTxn_txns_trans hdisposed (by exact fun _ => rfl) _]
    simp only [updTxn_txns, Bool.eq_false_iff.2 hwaits]
    rfl

/-- The failed record stands on its tag. -/
theorem failTxn_txn? {t : Fin 16} {s : State} {x : Txn} (hx : s.txn? t = some x) (hactive : x.phase = .active)
    (hfresh : x.failure = none) (f : Failure) :
    (failTxn t f s).txn? t = some (x.failed f (s.leaving x) (s.stillWaits t)) := by
  have htable : (failTxn t f s).txn? t = (updTxn t (Txn.failed f (s.leaving x) (s.stillWaits t)) s).txn? t :=
    congrArg (List.find? fun y : Txn => y.tag == t) (failTxn_table hx hactive hfresh f)
  rw [htable, updTxn_txn? t (f := Txn.failed f (s.leaving x) (s.stillWaits t)) (fun _ => rfl), hx]
  rfl

end Sys2Proof.Machine


/-! PROOF. The terms of the records (O11, O12): through every elementary change a record keeps its terms, its first failure,
its count and its outcome, and no ACTIVE record holds a failure. -/

namespace Sys2Proof.Machine

open Sys2Proof

/-! ## One record -/

/-- The record `y` is what an event has made of `x`: it keeps its terms, and has no new failure where it is ACTIVE. -/
def Txn.Moves (x y : Txn) : Prop := x.Keeps y ∧ (y.phase = .active → x.failure = none → y.failure = none)

theorem Txn.Moves.refl (x : Txn) : x.Moves x :=
  ⟨⟨rfl, rfl, rfl, rfl, rfl, rfl, Nat.le_refl _, fun _ => rfl, fun h => ⟨h, rfl, rfl⟩, fun h => by simp [h]⟩, fun _ h => h⟩

theorem Txn.Keeps.trans {x y z : Txn} (h1 : x.Keeps y) (h2 : y.Keeps z) : x.Keeps z := by
  obtain ⟨tag1, kind1, volume1, lba1, requested1, transfer1, count1, failure1, done1, draining1⟩ := h1
  obtain ⟨tag2, kind2, volume2, lba2, requested2, transfer2, count2, failure2, done2, draining2⟩ := h2
  refine ⟨tag2.trans tag1, kind2.trans kind1, volume2.trans volume1, lba2.trans lba1, requested2.trans requested1,
    transfer2.trans transfer1, Nat.le_trans count1 count2, fun h => ?_, fun h => ?_, fun h => ?_⟩
  · exact (failure2 (by rw [failure1 h]; exact h)).trans (failure1 h)
  · obtain ⟨hphase, houtcome, hfailure⟩ := done1 h
    obtain ⟨hphase', houtcome', hfailure'⟩ := done2 hphase
    exact ⟨hphase', houtcome'.trans houtcome, hfailure'.trans hfailure⟩
  · cases hy : y.phase with
    | active => exact absurd hy (draining1 h)
    | draining => exact draining2 hy
    | done => rw [(done2 hy).1]; simp

/-- A record that is ACTIVE after an event was ACTIVE before. -/
theorem Txn.Keeps.active {x y : Txn} (h : x.Keeps y) (hy : y.phase = .active) : x.phase = .active := by
  obtain ⟨-, -, -, -, -, -, -, -, hdone, hdraining⟩ := h
  cases hx : x.phase with
  | active => rfl
  | draining => exact absurd hy (hdraining hx)
  | done => exact absurd hy (by rw [(hdone hx).1]; simp)

theorem Txn.Moves.trans {x y z : Txn} (h1 : x.Moves y) (h2 : y.Moves z) : x.Moves z :=
  ⟨h1.1.trans h2.1, fun hz hx => h2.2 hz (h1.2 (h2.1.active hz) hx)⟩

/-- A record whose mark, next unit and jobs held alone change keeps its terms. -/
theorem Txn.Moves.of_unmarked {x y : Txn} (h : y.unmarkedPart = x.unmarkedPart) : x.Moves y := by
  simp only [Txn.unmarkedPart, Txn.fixedPart, Txn.mk.injEq] at h
  obtain ⟨htag, hkind, hvolume, hlba, hrequested, htransfer, -, -, hcount, hfailure, hphase, -, houtcome⟩ := h
  exact ⟨⟨htag, hkind, hvolume, hlba, hrequested, htransfer, by omega, fun _ => hfailure,
    fun hx => ⟨hphase.trans hx, houtcome, hfailure⟩, fun hx => by simp [hphase, hx]⟩, fun _ hx => hfailure.trans hx⟩

/-- A record not yet DONE may become so (R23, R26). -/
theorem Txn.Moves.setDone {x : Txn} (h : x.phase ≠ .done) :
    x.Moves { x with phase := .done, outcome := some x.finalOutcome } :=
  ⟨⟨rfl, rfl, rfl, rfl, rfl, rfl, Nat.le_refl _, fun _ => rfl, fun hx => absurd hx h, by simp⟩, fun hy => by simp at hy⟩

/-- A record counts the sectors moved for it (R25). -/
theorem Txn.Moves.addDone (k : Nat) (x : Txn) : x.Moves { x with done := x.done + k } :=
  ⟨⟨rfl, rfl, rfl, rfl, rfl, rfl, Nat.le_add_right _ _, fun _ => rfl, fun h => ⟨h, rfl, rfl⟩, fun h => by simp [h]⟩,
    fun _ h => h⟩

/-- An ACTIVE record without a failure may fail (R24). -/
theorem Txn.Moves.failed (f : Failure) (n : Nat) (keeps : Bool) {x : Txn} (hactive : x.phase = .active)
    (hfresh : x.failure = none) : x.Moves (x.failed f n keeps) := by
  have hphase : (x.failed f n keeps).phase ≠ .active := by cases keeps <;> simp [Txn.failed]
  refine ⟨⟨rfl, rfl, rfl, rfl, rfl, rfl, Nat.le_refl _, fun h => ?_, fun h => ?_, fun _ => hphase⟩, fun h => absurd h hphase⟩
  · simp [hfresh] at h
  · simp [hactive] at h

/-! ## The table -/

/-- From `s` to `t` every record keeps its terms, tags stay distinct, and no ACTIVE record gets a failure. -/
structure Terms (s t : State) : Prop where
  tags : s.TagsOk → t.TagsOk
  kept : s.TagsOk → ∀ x ∈ s.txns, ∃ y ∈ t.txns, x.Keeps y
  active : s.TagsOk → s.ActiveOk → t.ActiveOk

/-- Records that each move one by one, in their order, keep their terms; what has joined behind them is fresh. -/
theorem Terms.of_moves {s t : State} {l r : List Txn} (ht : t.txns = l ++ r)
    (hl : s.TagsOk → List.Forall₂ Txn.Moves s.txns l) (htags : s.TagsOk → ((l ++ r).map Txn.tag).Nodup)
    (hr : ∀ y ∈ r, y.failure = none) : Terms s t := by
  refine ⟨fun h => ?_, fun h x hx => ?_, fun h hactive y hy hphase => ?_⟩
  · rw [State.TagsOk, ht]
    exact htags h
  · obtain ⟨i, hi, rfl⟩ := List.getElem_of_mem hx
    have hmoves := (List.forall₂_iff_get.1 (hl h))
    have hi' : i < l.length := hmoves.1 ▸ hi
    exact ⟨l[i], by rw [ht]; exact List.mem_append_left _ (List.getElem_mem hi'), (hmoves.2 i hi hi').1⟩
  · rw [ht] at hy
    rcases List.mem_append.1 hy with hy | hy
    · obtain ⟨i, hi, rfl⟩ := List.getElem_of_mem hy
      have hmoves := (List.forall₂_iff_get.1 (hl h))
      have hi' : i < s.txns.length := hmoves.1 ▸ hi
      have hmove := hmoves.2 i hi' hi
      exact hmove.2 hphase (hactive _ (List.getElem_mem hi') (hmove.1.active hphase))
    · exact hr y hy

/-- Records that move one by one keep the tags of their table. -/
theorem map_tag_of_moves {l r : List Txn} (h : List.Forall₂ Txn.Moves l r) : r.map Txn.tag = l.map Txn.tag := by
  induction h with
  | nil => rfl
  | cons hx _ ih =>
    obtain ⟨⟨htag, -⟩, -⟩ := hx
    simp [htag, ih]

theorem Terms.of_forall₂ {s t : State} (h : s.TagsOk → List.Forall₂ Txn.Moves s.txns t.txns) : Terms s t :=
  .of_moves (List.append_nil _).symm h (fun hs => by rw [List.append_nil, map_tag_of_moves (h hs)]; exact hs) (by simp)

theorem Terms.of_map {s t : State} {g : Txn → Txn} (ht : t.txns = s.txns.map g) (hg : s.TagsOk → ∀ x ∈ s.txns, x.Moves (g x)) :
    Terms s t := by
  refine .of_forall₂ fun hs => ?_
  rw [ht, List.forall₂_map_right_iff, List.forall₂_same]
  exact hg hs

theorem Terms.of_same {s t : State} (h : t.txns = s.txns) : Terms s t :=
  .of_map (g := id) (by simpa using h) fun _ x _ => .refl x

theorem Terms.refl (s : State) : Terms s s := .of_same rfl

theorem Terms.trans {s t u : State} (h1 : Terms s t) (h2 : Terms t u) : Terms s u := by
  refine ⟨fun h => h2.tags (h1.tags h), fun h x hx => ?_, fun h ha => h2.active (h1.tags h) (h1.active h ha)⟩
  obtain ⟨y, hy, hxy⟩ := h1.kept h x hx
  obtain ⟨z, hz, hyz⟩ := h2.kept (h1.tags h) y hy
  exact ⟨z, hz, hxy.trans hyz⟩

/-- A table that changes in marks, next units and jobs held alone keeps its records' terms. -/
theorem Terms.of_unmarked {s t : State} (h : t.txns.map Txn.unmarkedPart = s.txns.map Txn.unmarkedPart) : Terms s t := by
  refine .of_forall₂ fun _ => ?_
  rw [← List.forall₂_eq_eq_eq, List.forall₂_map_left_iff, List.forall₂_map_right_iff] at h
  exact (List.Forall₂.imp (fun _ _ hxy => Txn.Moves.of_unmarked hxy) h).flip.imp fun _ _ hxy => hxy

theorem Terms.of_fixedPart {s t : State} (h : t.txns.map Txn.fixedPart = s.txns.map Txn.fixedPart) : Terms s t := by
  have hpart (l : List Txn) : l.map Txn.unmarkedPart =
      (l.map Txn.fixedPart).map (fun x => { x with flushMark := none }) := by
    rw [List.map_map]
    rfl
  exact .of_unmarked (by rw [hpart, hpart, h])

/-- A change of the record of a tag keeps the terms where it moves the record found there. -/
theorem Terms.of_updTxn {s t : State} {tag : Fin 16} {f : Txn → Txn} (ht : t.txns = (updTxn tag f s).txns)
    (hf : ∀ x, s.txn? tag = some x → x.Moves (f x)) : Terms s t := by
  refine .of_map (ht.trans (updTxn_txns tag f s)) fun hs x hx => ?_
  by_cases htag : x.tag = tag
  · rw [if_pos htag]
    exact hf x (htag ▸ State.txn?_of_mem hs hx)
  · rw [if_neg htag]
    exact .refl x

/-! ## The elementary changes -/

theorem Terms.setDone {s : State} {tag : Fin 16} (h : ∀ x, s.txn? tag = some x → x.phase ≠ .done) :
    Terms s (setDone tag s) :=
  .of_updTxn (by rfl) fun x hx => .setDone (h x hx)

theorem Terms.progress (tag : Fin 16) (s : State) : Terms s (progress tag s) := by
  have hdone {x : Txn} (hx : s.txn? tag = some x) (hphase : x.phase ≠ .done) : Terms s (Machine.setDone tag s) :=
    .setDone fun y hy => by cases hx.symm.trans hy; exact hphase
  unfold Machine.progress
  split
  · exact .refl s
  next x hx =>
    split
    next hphase =>
      split
      · exact hdone hx (by simp [hphase])
      · exact .refl s
    next hphase =>
      split
      · exact .refl s
      · exact hdone hx (by simp [hphase])
    · exact .refl s

theorem Terms.addDone (tag : Fin 16) (k : Nat) (s : State) : Terms s (addDone tag k s) :=
  .of_updTxn (by rfl) fun x _ => .addDone k x

theorem Terms.failTxn (tag : Fin 16) (f : Failure) (s : State) : Terms s (failTxn tag f s) := by
  by_cases h : ∃ x, s.txn? tag = some x ∧ x.phase = .active ∧ x.failure = none
  · obtain ⟨x, hx, hactive, hfresh⟩ := h
    refine .of_updTxn (failTxn_table hx hactive hfresh f) fun y hy => ?_
    cases hx.symm.trans hy
    exact .failed f _ _ hactive hfresh
  · rw [failTxn_of_inactive fun x hx => ?_]
    · exact .refl s
    · by_contra hne
      exact h ⟨x, hx, by simpa [not_or] using hne⟩

theorem endJob_fixedPart (j : Job) (s : State) : (endJob j s).txns.map Txn.fixedPart = s.txns.map Txn.fixedPart := by
  unfold endJob
  split
  · simp
  · rw [releaseHeld, updTxn_fixedPart _ (by exact fun _ => rfl)]
    simp

theorem stopCipher_fixedPart (s : State) : (stopCipher s).txns.map Txn.fixedPart = s.txns.map Txn.fixedPart :=
  foldl_keeps (fun u : State => u.txns.map Txn.fixedPart) (fun u j => endJob j u) (fun u j => endJob_fixedPart j u) _ s

/-- A page write that ends leaves each mark that holds it, and no other field of a record changes (R75). -/
theorem leaveMarks_txns (b : Fin 8) (s : State) : (leaveMarks b s).txns =
    s.txns.map (fun x => { x with flushMark := x.flushMark.map (fun m => m.filter (fun c => c != b)) }) := by
  unfold leaveMarks
  exact foldl_keeps (fun u : State => u.txns) (fun u t => syncIfUnmarked t u) (fun u t => by simp) _ _

theorem leaveMarks_unmarked (b : Fin 8) (s : State) :
    (leaveMarks b s).txns.map Txn.unmarkedPart = s.txns.map Txn.unmarkedPart := by
  rw [leaveMarks_txns, List.map_map]
  rfl

theorem Terms.endJob (j : Job) (s : State) : Terms s (endJob j s) := .of_fixedPart (endJob_fixedPart j s)

theorem Terms.leaveMarks (b : Fin 8) (s : State) : Terms s (leaveMarks b s) := .of_unmarked (leaveMarks_unmarked b s)

theorem Terms.readEnd (j : Job) (ok : Bool) (page : List Byte) (s : State) : Terms s (readEnd j ok page s) := by
  unfold Machine.readEnd
  split
  · exact .of_same (by simp)
  · exact ((Terms.endJob j s).trans (.failTxn _ _ _)).trans (.progress _ _)

theorem Terms.writeEnd (j : Job) (ok : Bool) (s : State) : Terms s (writeEnd j ok s) := by
  have hshown (u : State) : Terms u (activityRequest u) := .of_same (by simp)
  unfold Machine.writeEnd
  split
  · exact ((((Terms.endJob j s).trans (.addDone _ _ _)).trans (.leaveMarks _ _)).trans (hshown _)).trans (.progress _ _)
  · exact (((Terms.endJob j s).trans (.leaveMarks _ _)).trans (.failTxn _ _ _)).trans (.progress _ _)

theorem Terms.endAbandoned (j : Job) (op : DOp) (s : State) : Terms s (endAbandoned j op s) := by
  have hdrop : Terms s (dropJob j.buf s) := .of_same (by simp)
  unfold Machine.endAbandoned
  split
  · exact hdrop.trans (.leaveMarks _ _)
  · exact hdrop

theorem Terms.jobCompletion (b : Fin 8) (op : DOp) (ok : Bool) (page : List Byte) (s : State) :
    Terms s (jobCompletion b op ok page s) := by
  have hplaced : Terms s (if ok then placePage b page s else s) := .of_same (by split <;> simp)
  unfold Machine.jobCompletion
  split
  · exact .refl s
  · split
    · exact hplaced.trans (.endAbandoned _ _ _)
    · split
      · exact .readEnd _ _ _ s
      · exact .writeEnd _ _ s
      · exact .refl s

theorem Terms.syncEnd (tag : Fin 16) (ok : Bool) (s : State) : Terms s (syncEnd tag ok s) := by
  unfold Machine.syncEnd
  split
  · exact .refl s
  next x hx =>
    split
    next hphase =>
      split
      · exact .setDone fun y hy => by cases hx.symm.trans hy; simp [hphase]
      · exact .failTxn _ _ s
    · exact .progress _ s
    · exact .refl s

theorem Terms.ownerTakes (op : DOp) (o : Owner) (ok lost : Bool) (page : List Byte) (s : State) :
    Terms s (ownerTakes op o ok lost page s) := by
  unfold Machine.ownerTakes
  split
  · exact .jobCompletion _ _ _ _ s
  · exact .syncEnd _ _ s
  · split
    · exact .of_same (by simp)
    · exact .refl s
  · exact .refl s

/-- The record of an admitted request bears its tag and no failure (R22). -/
theorem State.admitted_fields (s : State) (k : TxKind) (tag : Fin 16) (r : Request) :
    (s.admitted k tag r).tag = tag ∧ (s.admitted k tag r).failure = none := by
  have hclamped (x : Txn) (h : Option Nat) : (x.clamped h).tag = x.tag ∧ (x.clamped h).failure = x.failure := by
    unfold Txn.clamped
    dsimp only
    split <;> exact ⟨rfl, rfl⟩
  unfold State.admitted
  dsimp only
  repeat' split
  all_goals simp [hclamped, Txn.atAdmission]

theorem admitRequest_txns (k : TxKind) (tag : Fin 16) (r : Request) (s : State) :
    (admitRequest k tag r s).txns = s.txns ++ [s.admitted k tag r] := by
  simp [admitRequest]

theorem Terms.admitRequest (k : TxKind) {tag : Fin 16} (r : Request) {s : State} (h : s.txn? tag = none) :
    Terms s (admitRequest k tag r s) := by
  obtain ⟨htag, hfresh⟩ := s.admitted_fields k tag r
  refine .of_moves (admitRequest_txns k tag r s) (fun _ => List.forall₂_same.2 fun x _ => .refl x) (fun hs => ?_)
    (by simpa using hfresh)
  rw [List.map_append, List.nodup_append]
  refine ⟨hs, by simp, fun a ha b hb => ?_⟩
  obtain ⟨x, hx, rfl⟩ := List.mem_map.1 ha
  have hne : x.tag ≠ tag := by simpa using List.find?_eq_none.1 h x hx
  simpa [show b = tag by simpa [htag] using hb] using hne

/-- Every elementary change keeps the records' terms. -/
theorem terms_walk : Walk Terms where
  refl := Terms.refl
  trans := Terms.trans
  neutral h := .of_same h.1
  judge s := .of_same (by simp)
  ksRequest r s := .of_same rfl
  endWrite c s := .of_same rfl
  enter a s := .of_same (by simp)
  presentOverlay s _ := .of_same (by simp)
  clearKey s := .of_same rfl
  loadKey k s _ := .of_same rfl
  loadSession k s _ := .of_same rfl
  failTxn := Terms.failTxn
  progress := Terms.progress
  addDone := Terms.addDone
  stopCipher s := .of_fixedPart (stopCipher_fixedPart s)
  endRun t j s _ := .endJob j s
  runOn t j s _ := .of_same rfl
  requestWindow c u s _ := .of_same (by simp)
  eraseHold s := .of_same (by simp)
  loseMedia s := .of_same rfl
  completion d x ok page s _ := (Terms.of_same (by rfl)).trans (.ownerTakes _ _ _ _ _ _)
  error o e s _ := (Terms.of_same (by rfl)).trans (.ownerTakes _ _ _ _ _ _)
  startJob b x s _ _ := .of_fixedPart (startJob_fixedPart b x _ s)
  dataWaits s := .of_same rfl
  issue d r s _ _ := .of_same (by simp)
  cipherTake s := .of_same (by simp)
  grant s := .of_same (by simp)
  cipherEnd s := .of_same (by simp)
  takeSector t i j sector s _ := .of_same (by simp)
  admitRequest k t r s h := .admitRequest k r h

/-! ## The invariants alone, where records leave the table -/

/-- A walk of a relation is one of every weaker relation that composes. -/
theorem Walk.mono {R R' : State → State → Prop} (w : Walk R) (h : ∀ {s t}, R s t → R' s t)
    (trans : ∀ {s t u}, R' s t → R' t u → R' s u) : Walk R' where
  refl s := h (w.refl s)
  trans := trans
  neutral hn := h (w.neutral hn)
  judge s := h (w.judge s)
  ksRequest r s := h (w.ksRequest r s)
  endWrite c s := h (w.endWrite c s)
  enter a s := h (w.enter a s)
  presentOverlay s hs := h (w.presentOverlay s hs)
  clearKey s := h (w.clearKey s)
  loadKey k s hs := h (w.loadKey k s hs)
  loadSession k s hs := h (w.loadSession k s hs)
  failTxn t f s := h (w.failTxn t f s)
  progress t s := h (w.progress t s)
  addDone t k s := h (w.addDone t k s)
  stopCipher s := h (w.stopCipher s)
  endRun t j s hj := h (w.endRun t j s hj)
  runOn t j s hj := h (w.runOn t j s hj)
  requestWindow c u s hs := h (w.requestWindow c u s hs)
  eraseHold s := h (w.eraseHold s)
  loseMedia s := h (w.loseMedia s)
  completion d x ok page s hx := h (w.completion d x ok page s hx)
  error o e s he := h (w.error o e s he)
  startJob b x s hb hx := h (w.startJob b x s hb hx)
  dataWaits s := h (w.dataWaits s)
  issue d r s hd hr := h (w.issue d r s hd hr)
  cipherTake s := h (w.cipherTake s)
  grant s := h (w.grant s)
  cipherEnd s := h (w.cipherEnd s)
  takeSector t i j sector s hj := h (w.takeSector t i j sector s hj)
  admitRequest k t r s ht := h (w.admitRequest k t r s ht)

/-- From `s` to `t` tags stay distinct, and with distinct tags no ACTIVE record gets a failure. -/
def KeepsActive (s t : State) : Prop := s.TagsOk → t.TagsOk ∧ (s.ActiveOk → t.ActiveOk)

theorem Terms.keepsActive {s t : State} (h : Terms s t) : KeepsActive s t := fun hs => ⟨h.tags hs, h.active hs⟩

theorem KeepsActive.refl (s : State) : KeepsActive s s := fun h => ⟨h, id⟩

theorem KeepsActive.trans {s t u : State} (h1 : KeepsActive s t) (h2 : KeepsActive t u) : KeepsActive s u := fun h =>
  have ht := h1 h
  have hu := h2 ht.1
  ⟨hu.1, hu.2 ∘ ht.2⟩

theorem keepsActive_walk : Walk KeepsActive := terms_walk.mono Terms.keepsActive KeepsActive.trans

/-- Records that leave a table leave its rules to the others. -/
theorem KeepsActive.of_sublist {s t : State} (h : t.txns.Sublist s.txns) : KeepsActive s t :=
  fun hs => ⟨hs.sublist (h.map _), fun ha x hx => ha x (h.subset hx)⟩

theorem KeepsActive.emptyTable (s : State) : KeepsActive s (emptyTable s) := .of_sublist (by simp [Machine.emptyTable, withdrawJobs])

theorem KeepsActive.completeSent (s : State) : KeepsActive s (completeSent s) := by
  unfold Machine.completeSent
  split
  next tag =>
    split
    next x _ =>
      refine (KeepsActive.of_sublist ?_).trans (keepsActive_walk.settle _)
      have hsent : (if x.kind = .state then stateSent s else s).txns = s.txns := by split <;> simp
      simp [dropTxn, hsent]
    next => exact .refl s
  next => exact .refl s

theorem exec_keepsActive {c : Instr} {s t : State} (h : exec c s = .next t) : KeepsActive s t := by
  have hnone {u : State} (hu : u.txns = []) : KeepsActive s u := .of_sublist (by simp [hu])
  cases c with
  | powerOn =>
    cases h
    unfold powerOn
    split
    · exact hnone rfl
    · exact .refl s
  | powerLoss fate =>
    cases h
    unfold powerLoss
    split
    · exact .refl s
    · exact hnone rfl
  | ksReadingComplete =>
    cases h
    by_cases hp : s.power = .reading
    · exact KeepsActive.trans (t := readImages s) (Terms.of_same rfl).keepsActive
        (keepsActive_walk.readingComplete KeepsActive.emptyTable hp)
    · rw [readingComplete, if_neg hp]
      exact .refl s
  | linkReset => exact keepsActive_walk.exec_link KeepsActive.emptyTable (.inl rfl) h
  | suspend => exact keepsActive_walk.exec_link KeepsActive.emptyTable (.inr (.inl rfl)) h
  | resume => exact keepsActive_walk.exec_link KeepsActive.emptyTable (.inr (.inr (.inl rfl))) h
  | refusalSent => exact keepsActive_walk.exec_link KeepsActive.emptyTable (.inr (.inr (.inr rfl))) h
  | completeSent => exact keepsActive_walk.whenRunning h (.completeSent s)
  | _ => exact keepsActive_walk.exec (fun _ => (Terms.of_same rfl).keepsActive) rfl h

theorem step_keepsActive {s t : State} (h : step s = .next t) : KeepsActive s t := by
  rcases step_cases h with rfl | ⟨c, rest, -, hexec⟩
  · exact .refl _
  · exact KeepsActive.trans (t := { s with pending := rest }) (Terms.of_same rfl).keepsActive (exec_keepsActive hexec)

/-- Settles O11: the records by the walk of their terms, the active table by the walk of the access state. -/
theorem stepKeepsActiveAndTable : Obligations.StepKeepsActiveAndTable :=
  fun _ _ h => ⟨fun hs => (step_keepsActive h hs).2, (step_control h).table⟩

end Sys2Proof.Machine


/-! PROOF. What leaves the fixed parts of the records (O12): the commands that no rule lets move a record. -/

namespace Sys2Proof.Machine

open Sys2Proof

/-- From `s` to `t` each record keeps its fixed part; records may have joined behind them. -/
def FixedKept (s t : State) : Prop := ∃ l, t.txns.map Txn.fixedPart = s.txns.map Txn.fixedPart ++ l

theorem FixedKept.of_eq {s t : State} (h : t.txns.map Txn.fixedPart = s.txns.map Txn.fixedPart) : FixedKept s t :=
  ⟨[], by simpa using h⟩

theorem FixedKept.of_same {s t : State} (h : t.txns = s.txns) : FixedKept s t := .of_eq (by rw [h])

theorem FixedKept.refl (s : State) : FixedKept s s := .of_same rfl

theorem FixedKept.trans {s t u : State} (h1 : FixedKept s t) (h2 : FixedKept t u) : FixedKept s u := by
  obtain ⟨l, hl⟩ := h1
  obtain ⟨r, hr⟩ := h2
  exact ⟨l ++ r, by rw [hr, hl, List.append_assoc]⟩

theorem FixedKept.settle {s t : State} (h : FixedKept s t) : FixedKept s (settle t) := h.trans (.of_eq (settle_fixedPart t))

/-- A record of the table keeps its failure, its phase and its count. -/
theorem FixedKept.record {s t : State} (h : FixedKept s t) {x : Txn} (hx : x ∈ s.txns) :
    ∃ y ∈ t.txns, y.tag = x.tag ∧ y.failure = x.failure ∧ y.phase = x.phase ∧ y.done = x.done := by
  obtain ⟨l, hl⟩ := h
  have hmem : x.fixedPart ∈ t.txns.map Txn.fixedPart := by
    rw [hl]
    exact List.mem_append_left _ (List.mem_map_of_mem hx)
  obtain ⟨y, hy, hsame⟩ := List.mem_map.1 hmem
  obtain ⟨htag, hfailure, hphase⟩ := Txn.fields_of_fixedPart_eq hsame
  exact ⟨y, hy, htag, hfailure, hphase, (congrArg Txn.done hsame :)⟩

theorem FixedKept.whenPowered {f : State → State} {s t : State} (h : s.whenPowered f = .next t)
    (hf : FixedKept s (f s)) : FixedKept s t := by
  cases h
  split
  · exact .refl s
  · exact hf

theorem FixedKept.whenRunning {f : State → State} {s t : State} (h : s.whenRunning f = .next t)
    (hf : FixedKept s (f s)) : FixedKept s t := by
  cases h
  split
  · exact hf
  · exact .refl s

theorem FixedKept.expiry {p : Prop} [Decidable p] {s u : State} (h : FixedKept s u) :
    FixedKept s (if p then Machine.settle u else s) := by
  split
  · exact h.settle
  · exact .refl s

/-- An entry taken keeps the records' fixed parts where its interpretation leaves the table. -/
theorem FixedKept.takeEntry {f : KeyEntry → Option (State → State)} {s : State}
    (hf : ∀ e act, f e = some act → ∀ u, s.ecp = u.ecp → (act u).txns = u.txns) : FixedKept s (takeEntry f s) := by
  unfold Machine.takeEntry
  split
  · exact .refl s
  · split
    · exact .refl s
    · split
      · exact .refl s
      next act hact => exact .settle (.of_same (by simpa using hf _ _ hact (s.setKps _) (by rfl)))

theorem FixedKept.takeKind {p : KeyEntry → Prop} [DecidablePred p] {act : State → State} {s : State}
    (hact : ∀ u, (act u).txns = u.txns) : FixedKept s (Machine.takeEntry (fun e => if p e then some act else none) s) := by
  refine .takeEntry fun e act' h u _ => ?_
  obtain ⟨-, h⟩ := Option.ite_none_right_eq_some.1 h
  cases h
  exact hact u

/-- Shifted KEY moves no record: it asks for a change where KEY would lock (R92, R111). -/
theorem keyEntry_shifted_txns (s : State) : (keyEntry true s).txns = s.txns := by
  unfold keyEntry adminKey baseKey
  repeat' split
  all_goals simp_all

/-- A known kind that is no transaction's is ABORT's (R171). -/
theorem eq_abort_of_kindOf_none {k : Byte} (h : kindOf k = none) (hk : 1 ≤ k.toNat ∧ k.toNat ≤ 6) : k = 6 := by
  simp only [kindOf] at h
  repeat' split at h
  all_goals cases h
  bv_omega

/-- The kind of a request that passes check 1 of R18 lies in 1 to 6. -/
theorem Request.kind_of_valid {r : Request} (h : r.valid = true) : 1 ≤ r.kind.toNat ∧ r.kind.toNat ≤ 6 := by
  simp only [Request.valid, Bool.and_eq_true, decide_eq_true_eq] at h
  obtain ⟨⟨⟨hlow, hhigh⟩, -⟩, -⟩ := h
  exact ⟨hlow, hhigh⟩

/-- A request other than ABORT moves no record. -/
theorem FixedKept.takeRequest {r : Request} (h : r.kind ≠ 6) (s : State) : FixedKept s (takeRequest r s) := by
  unfold Machine.takeRequest
  have hreported : (if r.isTransfer then reloadIdle s else s).txns = s.txns := by split <;> simp
  generalize (if r.isTransfer then reloadIdle s else s) = u at hreported
  have hrefused (o : Result) : FixedKept s (refuse r o u) := .of_same (by simpa using hreported)
  dsimp only
  split
  · exact hrefused _
  next hvalid =>
    split
    next hkind => exact absurd (eq_abort_of_kindOf_none hkind (Request.kind_of_valid (by simpa using hvalid))) h
    next k _ =>
      split
      · exact hrefused _
      · exact ⟨_, by rw [admitRequest_txns, hreported, List.map_append]⟩

theorem FixedKept.requestArrives {r : Request} (h : r.kind ≠ 6) (s : State) : FixedKept s (requestArrives r s) := by
  unfold Machine.requestArrives
  split
  · exact .refl s
  · split
    · exact .of_same (by simp)
    · exact (FixedKept.takeRequest h s).settle

theorem exec_fixedKept {c : Instr} {s t : State} (hwf : c.wf = true) (hc : movesRecords c = false)
    (h : exec c s = .next t) : FixedKept s t := by
  cases c with
  | tick => exact .whenPowered h (.of_same rfl)
  | readRequest | writeRequest | flushRequest | sizeRequest | stateRequest =>
    cases h
    exact .requestArrives (by simp) s
  | unknownKindRequest kind tag lba count =>
    cases h
    refine .requestArrives (fun hkind => ?_) s
    simp only [Instr.wf] at hwf
    cases (show kind = 6 from hkind)
    exact absurd hwf (by decide)
  | writeData tag sector =>
    cases h
    split
    · exact .refl s
    · exact .of_same (by simp)
    · exact .settle (.of_same (by simp))
  | upstreamFrameDropped | downstreamFrameDropped => cases h; exact .refl s
  | dataWantedSent =>
    refine .whenRunning h ?_
    unfold dataWantedSent
    split
    · split
      · exact .settle (.of_same (by simp))
      · exact .refl s
    · exact .refl s
  | identWaitExpiry => exact .whenPowered h (.expiry (.of_same rfl))
  | cipherCompletion => exact .whenRunning (f := fun s => Machine.settle (cipherEnd s)) h (.settle (.of_same (by simp)))
  | keyEntryProduced | shiftTapProduced => exact .whenPowered h (.of_same (by simp))
  | digitTaken =>
    refine .whenRunning h (.takeEntry fun e act hact u _ => ?_)
    split at hact
    · obtain ⟨-, hact⟩ := Option.ite_none_left_eq_some.1 hact
      cases hact
      simp
    · cases hact
  | shiftedDigitTaken =>
    refine .whenRunning h (.takeEntry fun e act hact u _ => ?_)
    split at hact
    · obtain ⟨-, hact⟩ := Option.ite_none_left_eq_some.1 hact
      split at hact <;> cases hact <;> simp
    · cases hact
  | shiftTapTaken => exact .whenRunning h (.takeKind fun u => by simp)
  | shiftedKeyTaken => exact .whenRunning h (.takeKind keyEntry_shifted_txns)
  | flaggedEntryTaken => exact .whenRunning h (.takeKind fun u => by simp)
  | entryTimeout => exact .whenRunning h (.expiry (.of_same (by simp)))
  | settleTimerExpiry => exact .whenRunning h (.expiry (.of_same (by simp)))
  | lockoutTimerExpiry | adminSessionTimerExpiry => exact .whenRunning h (.expiry (.of_same (by simp)))
  | briefPatternRunout => exact .whenPowered (f := fun s => Machine.settle (briefRunout s)) h (.settle (.of_same (by simp)))
  | activityRestEnd => exact .whenPowered h (.of_same (by simp))
  | scan closed => exact .whenPowered (f := fun s => s.setKps (s.kps.scan closed)) h (.of_same rfl)
  | patternClock => exact .whenPowered (f := fun s => s.setInd (patternTick s.ind)) h (.of_same rfl)
  | powerOn | powerLoss | ksReadingComplete | abort | linkReset | suspend | resume | refusalSent | completeSent
  | readDataSent | overlayReadDataSent | dataWaitExpiry | pageReadCompletion | pageWriteCompletion | syncCompletion
  | discardCompletion | ident | mediaLost | errorCompletionTaken | keyTaken | verifyEnd | ksWriteComplete
  | idleCounterExpiry => cases hc

/-- Settles O12: the terms by the walk; the rest where no rule lets a record move, tags being distinct. -/
theorem transactionsKeepTheirTerms : Obligations.TransactionsKeepTheirTerms := by
  intro c s t hwf hs hc hexec x hx
  have hterms := terms_walk.exec (fun _ => .of_same rfl) hc hexec
  obtain ⟨y, hy, hkeeps⟩ := hterms.kept hs x hx
  refine ⟨y, hy, hkeeps, fun hmoves => ?_⟩
  obtain ⟨z, hz, htag, hsame⟩ := (exec_fixedKept hwf hmoves hexec).record hx
  have hyz : z = y := (hterms.tags hs).eq_of_tag hz hy (htag.trans hkeeps.1.symm)
  exact hyz ▸ hsame

end Sys2Proof.Machine


/-! PROOF. The bounds of the key FIFO, the refusal queue and the digit stack (O9). -/

namespace Sys2Proof.Machine

open Sys2Proof

/-- From `s` to `t` the FIFO and the refusal queue keep their bounds. -/
structure Bounded (s t : State) : Prop where
  fifo : s.FifoOk → t.FifoOk
  refusals : s.RefusalsOk → t.RefusalsOk

theorem Bounded.refl (s : State) : Bounded s s := ⟨id, id⟩

theorem Bounded.trans {s t u : State} (h1 : Bounded s t) (h2 : Bounded t u) : Bounded s u :=
  ⟨h2.fifo ∘ h1.fifo, h2.refusals ∘ h1.refusals⟩

theorem Bounded.of_le {s t : State} (hfifo : s.FifoOk → t.FifoOk) (hrefusals : t.uli.refusals.length ≤ s.uli.refusals.length) :
    Bounded s t :=
  ⟨hfifo, fun h => Nat.le_trans hrefusals h⟩

theorem Bounded.of_same {s t : State} (hkps : t.kps.fifo = s.kps.fifo) (hrefusals : t.uli.refusals = s.uli.refusals) :
    Bounded s t :=
  .of_le (by simp [State.FifoOk, hkps]) (by rw [hrefusals])

/-- Where a command touches neither the keypad nor the refusal queue both bounds hold on. -/
theorem Bounded.of_touches {B : List Block} {s t : State} (h : Touches B s t) (hkps : Block.keypad ∉ B)
    (hrefusals : Block.refusals ∉ B) : Bounded s t :=
  .of_same (congrArg Kps.fifo (h .keypad hkps)) (h .refusals hrefusals)

/-- An entry placed leaves at most 6 (R104, R105). -/
theorem placeEntry_length (fifo : List KeyEntry) (e : KeyEntry) : (placeEntry fifo e).length ≤ 6 := by
  unfold placeEntry
  split
  · simp
    omega
  · simp

theorem Bounded.produce (p : EntryKey → Bool) (s : State) : Bounded s (produce p s) := by
  unfold Machine.produce
  split
  · exact .refl s
  · split
    · exact .of_le (fun _ => by simpa using placeEntry_length _ _) (by simp)
    · exact .refl s

/-- A request taken adds one refusal at most (R19). -/
theorem takeRequest_refusals (r : Request) (s : State) :
    (takeRequest r s).uli.refusals.length ≤ s.uli.refusals.length + 1 := by
  unfold takeRequest
  have hreported : (if r.isTransfer then reloadIdle s else s).uli = s.uli := by split <;> simp
  generalize (if r.isTransfer then reloadIdle s else s) = u at hreported
  dsimp only
  repeat' split
  all_goals simp [refuse, failTxn_refusals_sent, hreported]

/-- A request taken while fewer than 4 refusals are queued leaves at most 4. -/
theorem Bounded.takeRequest (r : Request) {s : State} (h : s.uli.refusals.length < 4) : Bounded s (takeRequest r s) :=
  ⟨by simp [State.FifoOk], fun _ => Nat.le_trans (takeRequest_refusals r s) h⟩

theorem Bounded.settle (s : State) : Bounded s (settle s) := .of_touches (settle_touches s) (by decide) (by decide)

/-- With the refusal queue emptied and no entry added both bounds hold. -/
theorem Bounded.of_empty {s t : State} (hfifo : s.FifoOk → t.FifoOk) (h : t.uli.refusals = []) : Bounded s t :=
  .of_le hfifo (by simp [h])

theorem Bounded.takeSuspend (s : State) : Bounded s (takeSuspend s) := by
  have hemptied : (emptyTable s).uli.refusals = [] := by simp [emptyTable]
  unfold Machine.takeSuspend
  dsimp only
  split
  · exact .of_empty (by simp [State.FifoOk]) hemptied
  · exact .of_empty (fun _ => by simp [State.FifoOk, stopKeypad])
      (((((suspendLock_touches (emptyTable s)).append (setAc_touches _ _)).append (setKps_touches _ _)).append
        (suspendComposer_touches _) |>.append (darken_touches _)) .refusals (by decide) |>.trans hemptied)

/-- RESUME neither fills the FIFO nor queues a refusal (R100). -/
theorem takeResume_fifo_refusals (s : State) :
    (takeResume s).kps.fifo = s.kps.fifo ∧ (takeResume s).uli.refusals = s.uli.refusals := by
  have hreason (u : State) : (resumeReason u).uli.refusals = u.uli.refusals := by
    unfold resumeReason
    split <;> simp [attention]
  unfold takeResume
  split <;> simp [startKeypad, hreason]

theorem Bounded.take {i : LinkItem} {s : State} (h : i.isRequest = true → s.uli.refusals.length < 4) :
    Bounded s (i.take s) := by
  cases i with
  | request r => exact .takeRequest r (h rfl)
  | writeData tag sector => exact .of_touches (takeWriteData_touches tag sector s) (by decide) (by decide)
  | linkReset => exact .of_empty (by simp [LinkItem.take, State.FifoOk]) (by simp [LinkItem.take, takeLinkReset, emptyTable])
  | suspend => exact .takeSuspend s
  | resume => exact .of_same (takeResume_fifo_refusals s).1 (takeResume_fifo_refusals s).2

/-- A request record is taken from the link only while fewer than 4 refusals are queued (R19). -/
theorem State.nextItem_request {s : State} {i : LinkItem} (h : s.nextItem = some i) (hi : i.isRequest = true) :
    s.uli.refusals.length < 4 := by
  have hfree := List.find?_some h
  simpa [hi] using hfree

theorem Bounded.drain (n : Nat) (s : State) : Bounded s (drain n s) := by
  induction n generalizing s with
  | zero => exact .refl s
  | succ n ih =>
    unfold Machine.drain
    split
    · exact .refl s
    next i hi =>
      have hfree := State.nextItem_request hi
      have hleft : Bounded s (s.setUli { s.uli with link := s.uli.link.erase i }) := .of_same rfl rfl
      exact hleft.trans (.trans (.take (by exact hfree)) ((Bounded.settle _).trans (ih _)))

theorem Bounded.settleLink (s : State) : Bounded s (settleLink s) := (Bounded.settle s).trans (.drain _ _)

theorem Bounded.signalArrives {i : LinkItem} (hi : i.isRequest = false) (s : State) : Bounded s (signalArrives i s) := by
  unfold Machine.signalArrives
  split
  · exact .refl s
  · exact .of_same (by simp) rfl
  · exact (Bounded.take (by simp [hi])).trans (.settleLink _)

theorem Bounded.requestArrives (r : Request) (s : State) : Bounded s (requestArrives r s) := by
  unfold Machine.requestArrives
  split
  · exact .refl s
  · split
    · exact .of_same (by simp) rfl
    next hheld =>
      have hfree : s.uli.refusals.length < 4 := by
        simp only [State.holdsRequests, not_or, Bool.not_eq_true, Bool.or_eq_false_iff, decide_eq_false_iff_not] at hheld
        omega
      exact (Bounded.takeRequest r hfree).trans (.settle _)

theorem Bounded.refusalSent (s : State) : Bounded s (refusalSent s) := by
  unfold Machine.refusalSent
  split
  next c rest _ hrefusals =>
    refine .trans (.of_le ?_ ?_) (.settleLink _)
    · simp [State.FifoOk]
    · simp [freeOutput, sendUp, hrefusals]
  · exact .refl s

theorem Bounded.takeEntry {f : KeyEntry → Option (State → State)} {s : State}
    (hf : ∀ e act, f e = some act → ∀ u, Bounded u (act u)) : Bounded s (takeEntry f s) := by
  unfold Machine.takeEntry
  split
  · exact .refl s
  next e rest hfifo =>
    split
    · exact .refl s
    · split
      · exact .refl s
      next act hact =>
        have htaken : Bounded s (s.setKps { s.kps with fifo := rest }) :=
          .of_le (fun h => by simp only [State.FifoOk, hfifo, List.length_cons, State.setKps_fields] at h ⊢; omega) (by simp)
        exact ((htaken.trans (hf e act hact _)).trans (.of_same (by simp) (by simp))).trans (.settle _)

theorem Bounded.readingComplete (s : State) : Bounded s (readingComplete s) := by
  unfold Machine.readingComplete
  split
  · have hstarted : Touches (Block.power :: .images :: .intakes :: (Block.moves ++ Block.follow)) s
        (reportMedia { startRebuild (startAccess (sweepAtStart (readImages s))) with power := .running }) := by
      have hrunning (u : State) : Touches [.power] u { u with power := .running } :=
        .of_forall fun b => by cases b <;> simp [Block.same]
      exact ((((((readImages_touches s).append (sweepAtStart_touches _)).append (startAccess_touches _)).append
        (startRebuild_touches _)).append (hrunning _)).append (reportMedia_touches _)).mono (by decide)
    exact (Bounded.of_touches hstarted (by decide) (by decide)).trans (.settleLink _)
  · exact .refl s

theorem Bounded.whenPowered {f : State → State} {s t : State} (h : s.whenPowered f = .next t) (hf : Bounded s (f s)) :
    Bounded s t := by
  cases h
  split
  · exact .refl s
  · exact hf

theorem Bounded.whenRunning {f : State → State} {s t : State} (h : s.whenRunning f = .next t) (hf : Bounded s (f s)) :
    Bounded s t := by
  cases h
  split
  · exact hf
  · exact .refl s

theorem Bounded.takeKind {p : KeyEntry → Prop} [DecidablePred p] {act : State → State} {B : List Block} {s : State}
    (hact : ∀ u, Touches B u (act u)) (hkps : Block.keypad ∉ B) (hrefusals : Block.refusals ∉ B) :
    Bounded s (Machine.takeEntry (fun e => if p e then some act else none) s) := by
  refine .takeEntry fun e act' h u => ?_
  obtain ⟨-, h⟩ := Option.ite_none_right_eq_some.1 h
  cases h
  exact .of_touches (hact u) hkps hrefusals

theorem exec_bounded {c : Instr} {s t : State} (h : exec c s = .next t) : Bounded s t := by
  cases c with
  | powerOn =>
    cases h
    unfold powerOn
    split
    · exact .of_empty (fun _ => by simp [State.FifoOk, State.atRelease]) rfl
    · exact .refl s
  | powerLoss fate =>
    cases h
    unfold powerLoss
    split
    · exact .refl s
    · exact .of_empty (fun _ => by simp [State.FifoOk, State.atRelease]) rfl
  | ksReadingComplete => cases h; exact .readingComplete s
  | readRequest | writeRequest | flushRequest | sizeRequest | stateRequest | abort | unknownKindRequest =>
    cases h
    exact .requestArrives _ s
  | linkReset | suspend | resume =>
    cases h
    exact .signalArrives rfl s
  | refusalSent => exact .whenRunning h (.refusalSent s)
  | keyEntryProduced | shiftTapProduced => exact .whenPowered h (.produce _ s)
  | scan closed =>
    refine .whenPowered (f := fun s => s.setKps (s.kps.scan closed)) h (.of_same ?_ rfl)
    simp only [State.setKps_fields, Kps.scan]
    split <;> rfl
  | digitTaken =>
    rw [exec_digitTaken] at h
    refine .whenRunning h (.takeEntry fun e act hact u => ?_)
    unfold digitTable at hact
    split at hact
    · obtain ⟨-, hact⟩ := Option.ite_none_left_eq_some.1 hact
      cases hact
      exact .of_same (by simp) (by simp)
    · cases hact
  | shiftedDigitTaken =>
    rw [exec_shiftedDigitTaken] at h
    refine .whenRunning h (.takeEntry fun e act hact u => ?_)
    unfold shiftedDigitTable at hact
    split at hact
    · obtain ⟨-, hact⟩ := Option.ite_none_left_eq_some.1 hact
      split at hact <;> cases hact <;> exact .of_same (by simp) (by simp)
    · cases hact
  | shiftTapTaken => exact .whenRunning h (.takeKind tapTaken_touches (by decide) (by decide))
  | keyTaken => exact .whenRunning h (.takeKind (keyEntry_touches false) (by decide) (by decide))
  | shiftedKeyTaken => exact .whenRunning h (.takeKind (keyEntry_touches true) (by decide) (by decide))
  | flaggedEntryTaken => exact .whenRunning h (.takeKind flaggedEntry_touches (by decide) (by decide))
  | _ =>
    exact .of_touches (exec_touches h) (by simp [blocksOf, Block.moves, Block.follow])
      (by simp [blocksOf, Block.moves, Block.follow])

/-- Settles O9: the FIFO and the refusal queue by what each command does to them, the stack by the walk of the access
state. -/
theorem stepKeepsQueueBounds : Obligations.StepKeepsQueueBounds := by
  intro s t h
  have hbounded : Bounded s t := by
    rcases step_cases h with rfl | ⟨c, rest, -, hexec⟩
    · exact .refl _
    · exact Bounded.trans (t := { s with pending := rest }) (.of_same rfl rfl) (exec_bounded hexec)
  exact ⟨hbounded.fifo, hbounded.refusals, (step_control h).stack⟩

end Sys2Proof.Machine


/-! PROOF. The canonical form of the unit buffers (O4): the bytes change at a sector, a page or a unit placed alone. -/

namespace Sys2Proof.Machine

open Sys2Proof

/-! ## What a placing leaves of the bytes -/

/-- The end of a page operation changes the bytes by the page placed at most (R48, R61). -/
theorem jobCompletion_mem (b : Fin 8) (op : DOp) (ok : Bool) (page : List Byte) (s : State) :
    (jobCompletion b op ok page s).ubp.mem = s.ubp.mem ∨
      (jobCompletion b op ok page s).ubp.mem = (placePage b page s).ubp.mem := by
  unfold jobCompletion
  split
  · exact .inl rfl
  next j hj =>
    have hbuf := State.buf_of_job? hj
    split
    · have hended (u : State) : (endAbandoned j op u).ubp.mem = u.ubp.mem := endAbandoned_touches j op u .memory (by decide)
      cases ok
      · exact .inl (by rw [hended]; rfl)
      · exact .inr (by rw [hended]; rfl)
    · split
      · cases ok
        · exact .inl (readEnd_error_touches j page s .memory (by decide))
        · exact .inr (by rw [← hbuf]; rfl)
      · exact .inl (writeEnd_touches j ok s .memory (by decide))
      · exact .inl rfl

/-- A sector taken changes the bytes by the sector placed. -/
theorem takeSector_mem (i : Intake) (j : Job) (sector : List Byte) (s : State) :
    (takeSector i j sector s).ubp.mem = (placeSector j.buf i.next sector s).ubp.mem := by
  unfold takeSector
  dsimp only
  split <;> simp [updJob, closeIntake]

/-- The end of a cipher operation changes the bytes by the unit put back. -/
theorem cipherEnd_mem (s : State) : (cipherEnd s).ubp.mem = s.ubp.mem ∨
    ∃ b u, (cipherEnd s).ubp.mem = (putUnit b u s).ubp.mem := by
  have hrequested (b : Fin 8) (n : Nat) (u : State) : (requestWrite b n u).ubp.mem = u.ubp.mem :=
    requestWrite_touches b n u .memory (by decide)
  have hstate (b : Fin 8) (f : Job → Job) (u : State) : (updJob b f u).ubp.mem = u.ubp.mem := rfl
  unfold cipherEnd
  split
  · dsimp only
    split
    · exact .inr ⟨_, _, hstate _ _ _⟩
    · exact .inr ⟨_, _, hstate _ _ _⟩
    · exact .inr ⟨_, _, (hrequested _ _ _).trans (hstate _ _ _)⟩
  · exact .inl rfl

/-! ## The canonical form -/

/-- From `s` to `t` the unit buffers stay in canonical form. -/
def KeepsMemory (s t : State) : Prop := s.MemoryOk → t.MemoryOk

theorem KeepsMemory.refl (s : State) : KeepsMemory s s := id

theorem KeepsMemory.trans {s t u : State} (h1 : KeepsMemory s t) (h2 : KeepsMemory t u) : KeepsMemory s u := h2 ∘ h1

theorem KeepsMemory.of_same {s t : State} (h : t.ubp.mem = s.ubp.mem) : KeepsMemory s t := by
  intro hs
  rwa [State.MemoryOk, h]

theorem KeepsMemory.of_touches {B : List Block} {s t : State} (h : Touches B s t) (hB : Block.memory ∉ B) :
    KeepsMemory s t :=
  .of_same (h .memory hB)

theorem KeepsMemory.settle (s : State) : KeepsMemory s (settle s) := .of_touches (settle_touches s) (by decide)

theorem KeepsMemory.takeWriteData (tag : Byte) (sector : List Byte) (s : State) :
    KeepsMemory s (takeWriteData tag sector s) := by
  unfold Machine.takeWriteData
  split
  · exact .refl s
  · split
    · intro h
      rw [State.MemoryOk, takeSector_mem]
      exact placeSector_wf _ _ _ s h
    · exact .refl s

theorem KeepsMemory.jobCompletion (b : Fin 8) (op : DOp) (ok : Bool) (page : List Byte) (s : State) :
    KeepsMemory s (jobCompletion b op ok page s) := by
  intro h
  rcases jobCompletion_mem b op ok page s with hmem | hmem
  · rwa [State.MemoryOk, hmem]
  · rw [State.MemoryOk, hmem]
    exact placePage_wf b page s h

theorem KeepsMemory.ownerTakes (op : DOp) (o : Owner) (ok lost : Bool) (page : List Byte) (s : State) :
    KeepsMemory s (ownerTakes op o ok lost page s) := by
  unfold Machine.ownerTakes
  split
  · exact .jobCompletion _ _ _ _ s
  · exact .of_touches (syncEnd_touches _ _ s) (by decide)
  · split
    · exact .of_touches (windowResult_touches _ _ s) (by decide)
    · exact .refl s
  · exact .refl s

theorem KeepsMemory.takeCompletion (op d status : Byte) (rest : List Byte) (s : State) :
    KeepsMemory s (takeCompletion op d status rest s) := by
  unfold Machine.takeCompletion
  split
  · exact .refl s
  · split
    · exact .refl s
    · exact .trans (.of_same (by rfl)) (.trans (.ownerTakes _ _ _ _ _ _) (.settle _))

theorem KeepsMemory.cipherEnd (s : State) : KeepsMemory s (cipherEnd s) := by
  intro h
  rcases cipherEnd_mem s with hmem | ⟨b, u, hmem⟩
  · rwa [State.MemoryOk, hmem]
  · rw [State.MemoryOk, hmem]
    exact putUnit_wf b u s h

/-! ## What waits on the link -/

theorem KeepsMemory.takeSuspend (s : State) : KeepsMemory s (takeSuspend s) := by
  have hemptied : KeepsMemory s (emptyTable s) := .of_touches (emptyTable_touches s) (by decide)
  unfold Machine.takeSuspend
  dsimp only
  split
  · exact hemptied
  · exact hemptied.trans (.of_touches (((((suspendLock_touches _).append (setAc_touches _ _)).append
      (setKps_touches _ _)).append (suspendComposer_touches _)).append (darken_touches _)) (by decide))

theorem KeepsMemory.take (i : LinkItem) (s : State) : KeepsMemory s (i.take s) := by
  cases i with
  | request r => exact .of_touches (takeRequest_touches r s) (by decide)
  | writeData tag sector => exact .takeWriteData tag sector s
  | linkReset => exact .of_touches ((emptyTable_touches s).append (reloadIdle_touches _)) (by decide)
  | suspend => exact .takeSuspend s
  | resume => exact .of_same (by simp [LinkItem.take])

theorem KeepsMemory.drain (n : Nat) (s : State) : KeepsMemory s (drain n s) := by
  induction n generalizing s with
  | zero => exact .refl s
  | succ n ih =>
    unfold Machine.drain
    split
    · exact .refl s
    · exact .trans (.of_same (by rfl)) (.trans (.take _ _) (.trans (.settle _) (ih _)))

theorem KeepsMemory.settleLink (s : State) : KeepsMemory s (settleLink s) := .trans (.settle s) (.drain _ _)

theorem KeepsMemory.signalArrives (i : LinkItem) (s : State) : KeepsMemory s (signalArrives i s) := by
  unfold Machine.signalArrives
  split
  · exact .refl s
  · exact .of_same rfl
  · exact .trans (.take i s) (.settleLink _)

theorem KeepsMemory.refusalSent (s : State) : KeepsMemory s (refusalSent s) := by
  unfold Machine.refusalSent
  split
  · exact .trans (.of_same (by rfl)) (.settleLink _)
  · exact .refl s

theorem KeepsMemory.readingComplete (s : State) : KeepsMemory s (readingComplete s) := by
  have hrunning (u : State) : KeepsMemory u { u with power := .running } := .of_same rfl
  have hstarted : KeepsMemory s (startRebuild (startAccess (sweepAtStart (readImages s)))) :=
    .of_touches ((((readImages_touches s).append (sweepAtStart_touches _)).append (startAccess_touches _)).append
      (startRebuild_touches _)) (by decide)
  unfold Machine.readingComplete
  split
  · exact hstarted.trans ((hrunning _).trans (.trans (.of_same (by simp)) (.settleLink _)))
  · exact .refl s

/-! ## Every command -/

theorem KeepsMemory.whenRunning {f : State → State} {s t : State} (h : s.whenRunning f = .next t)
    (hf : KeepsMemory s (f s)) : KeepsMemory s t := by
  cases h
  split
  · exact hf
  · exact .refl s

theorem KeepsMemory.whenPowered {f : State → State} {s t : State} (h : s.whenPowered f = .next t)
    (hf : KeepsMemory s (f s)) : KeepsMemory s t := by
  cases h
  split
  · exact .refl s
  · exact hf

theorem exec_keepsMemory {c : Instr} {s t : State} (h : exec c s = .next t) : KeepsMemory s t := by
  cases c with
  | powerOn =>
    cases h
    unfold powerOn
    split
    · exact fun _ => ⟨.nil, by simp [State.atRelease]⟩
    · exact .refl s
  | powerLoss fate =>
    cases h
    unfold powerLoss
    split
    · exact .refl s
    · exact fun _ => ⟨.nil, by simp [State.atRelease]⟩
  | ksReadingComplete => cases h; exact .readingComplete s
  | linkReset | suspend | resume => cases h; exact .signalArrives _ s
  | refusalSent => exact .whenRunning h (.refusalSent s)
  | writeData tag sector =>
    cases h
    split
    · exact .refl s
    · exact .of_same rfl
    · exact .trans (.takeWriteData tag sector s) (.settle _)
  | pageReadCompletion d status rest => exact .whenPowered h (.takeCompletion _ _ _ _ s)
  | cipherCompletion =>
    exact .whenRunning (f := fun s => Machine.settle (cipherEnd s)) h ((KeepsMemory.cipherEnd s).trans (.settle _))
  | _ => exact .of_touches (exec_touches h) (by simp [blocksOf, Block.moves, Block.follow])

/-- Settles O4 by what each command places. -/
theorem stepKeepsBuffersCanonical : Obligations.StepKeepsBuffersCanonical := by
  intro s t hs h
  rcases step_cases h with rfl | ⟨c, rest, -, hexec⟩
  · exact hs
  · exact exec_keepsMemory hexec hs

end Sys2Proof.Machine


/-! PROOF. The source shown (O7): every event ends with the arbitration, or changes nothing that it judges by. -/

namespace Sys2Proof.Machine

open Sys2Proof

/-! ## The arbitration (R152, R155) -/

/-- The source chosen among the continuous ones requests, and shows no brief pattern. -/
theorem State.continuous_requests (s : State) :
    s.requests s.continuous.1 ∧ s.continuous.1 ≠ .verdict ∧ s.continuous.1 ≠ .activity := by
  unfold State.continuous
  split
  next h => exact ⟨by simpa [State.faultRequests, State.requests] using h, by simp⟩
  split
  next h => exact ⟨h, by simp⟩
  split
  next h => exact ⟨⟨h.2, h.1⟩, by simp⟩
  split
  next h => exact ⟨⟨h.2, h.1.imp_right .inl⟩, by simp⟩
  split
  next h => exact ⟨⟨h.2, .inr (.inr h.1)⟩, by simp⟩
  next => exact ⟨trivial, by simp⟩

/-- No continuous source of higher priority than the one chosen requests. -/
theorem State.continuous_least {s : State} {x : Source} (h : s.requests x) (hverdict : x ≠ .verdict)
    (hactivity : x ≠ .activity) : s.continuous.1.priority ≤ x.priority := by
  unfold State.continuous
  cases x <;> simp only [State.requests] at h <;> (repeat' split) <;>
    simp_all [Source.priority, State.faultRequests]

/-- The priorities tell the sources apart. -/
theorem Source.priority_injective {x y : Source} (h : x.priority = y.priority) : x = y := by
  cases x <;> cases y <;> first | rfl | simp [Source.priority] at h

/-- A brief pattern's source requests exactly while the pattern is in the slot. -/
theorem State.requests_brief {s : State} {b : Brief} (h : s.ind.slot = some b) : s.requests b.source := by
  cases b with
  | verdict v => exact ⟨v, h⟩
  | activity => exact h

/-- A brief source that requests is that of the pattern in the slot. -/
theorem State.source_of_requests {s : State} {x : Source} (h : s.requests x) (hx : x = .verdict ∨ x = .activity) :
    ∃ b, s.ind.slot = some b ∧ b.source = x := by
  rcases hx with rfl | rfl
  · obtain ⟨v, hv⟩ := h
    exact ⟨_, hv, rfl⟩
  · exact ⟨_, h, rfl⟩

/-- The arbitration changes no request. -/
theorem judge_requests (s : State) (x : Source) : (judge s).requests x ↔ s.requests x := by
  cases x <;> simp [State.requests, judge]

/-- What the arbitration finds and shows (R155). -/
theorem judge_ind (s : State) : (judge s).ind.slot = s.ind.slot ∧
    (s.ind.slot = none → (judge s).ind.shown = s.continuous.1 ∧ (judge s).ind.suspended = false) ∧
    ∀ b, s.ind.slot = some b →
      (b.source.priority < s.continuous.1.priority →
        (judge s).ind.shown = b.source ∧ (judge s).ind.suspended = false) ∧
      (¬ b.source.priority < s.continuous.1.priority →
        (judge s).ind.shown = s.continuous.1 ∧ (judge s).ind.suspended = true) := by
  refine ⟨rfl, fun h => ?_, fun b h => ⟨fun hb => ?_, fun hb => ?_⟩⟩
  · simp [judge, h]
  · simp [judge, h, hb]
  · simp [judge, h, Nat.not_lt.1 hb]

/-- After the arbitration the source shown requests, and none of higher priority does (R155). -/
theorem judge_shownOk (s : State) : (judge s).ShownOk := by
  obtain ⟨hslot, hnone, hsome⟩ := judge_ind s
  obtain ⟨hcontinuous, -, -⟩ := s.continuous_requests
  simp only [State.ShownOk, judge_requests]
  cases h : s.ind.slot with
  | none =>
    obtain ⟨hshown, -⟩ := hnone h
    rw [hshown]
    refine ⟨hcontinuous, fun x hx => State.continuous_least hx ?_ ?_⟩
    all_goals
      rintro rfl
      obtain ⟨b, hb, -⟩ := State.source_of_requests hx (by simp)
      simp [h] at hb
  | some b =>
    have hbrief (x : Source) (hx : s.requests x) (hx' : x = .verdict ∨ x = .activity) : b.source = x := by
      obtain ⟨b', hb', hsource⟩ := State.source_of_requests hx hx'
      cases h.symm.trans hb'
      exact hsource
    by_cases hlow : b.source.priority < s.continuous.1.priority
    · obtain ⟨hshown, -⟩ := (hsome b h).1 hlow
      rw [hshown]
      refine ⟨State.requests_brief h, fun x hx => ?_⟩
      by_cases hx' : x = .verdict ∨ x = .activity
      · rw [hbrief x hx hx']
      · rw [not_or] at hx'
        exact Nat.le_trans (Nat.le_of_lt hlow) (State.continuous_least hx hx'.1 hx'.2)
    · obtain ⟨hshown, -⟩ := (hsome b h).2 hlow
      rw [hshown]
      refine ⟨hcontinuous, fun x hx => ?_⟩
      by_cases hx' : x = .verdict ∨ x = .activity
      · rw [← hbrief x hx hx']
        exact Nat.not_lt.1 hlow
      · rw [not_or] at hx'
        exact State.continuous_least hx hx'.1 hx'.2

/-- After the arbitration the slot is SUSPENDED exactly below a higher source (R155). -/
theorem judge_condition (s : State) : (judge s).ind.suspended = true ↔
    ∃ b x, (judge s).ind.slot = some b ∧ (judge s).requests x ∧ x.priority < b.source.priority := by
  obtain ⟨hslot, hnone, hsome⟩ := judge_ind s
  obtain ⟨hcontinuous, hverdict, hactivity⟩ := s.continuous_requests
  simp only [hslot, judge_requests]
  cases h : s.ind.slot with
  | none => simp [(hnone h).2]
  | some b =>
    by_cases hlow : b.source.priority < s.continuous.1.priority
    · rw [((hsome b h).1 hlow).2]
      refine iff_of_false (by simp) ?_
      rintro ⟨b', x, hb', hx, hpriority⟩
      cases hb'
      have hshown := (judge_shownOk s).2 x ((judge_requests s x).2 hx)
      rw [((hsome b h).1 hlow).1] at hshown
      omega
    · rw [((hsome b h).2 hlow).2]
      refine ⟨fun _ => ⟨b, _, rfl, hcontinuous, Nat.lt_of_le_of_ne (Nat.not_lt.1 hlow) fun he => ?_⟩, fun _ => rfl⟩
      have hsource := Source.priority_injective he
      cases b with
      | verdict v => exact hverdict hsource
      | activity => exact hactivity hsource

/-! ## The phase of the pattern shown (R153) -/

/-- From `s` to `t` the source, the pattern and the phase shown stay, or the phase is the first. -/
def KeepsPhase (s t : State) : Prop :=
  t.ind.elapsed = 0 ∨
    (t.ind.shown = s.ind.shown ∧ t.ind.pattern = s.ind.pattern ∧ t.ind.elapsed = s.ind.elapsed)

theorem KeepsPhase.of_ind {s t : State} (h : t.ind = s.ind) : KeepsPhase s t := by simp [KeepsPhase, h]

theorem KeepsPhase.refl (s : State) : KeepsPhase s s := .of_ind rfl

theorem KeepsPhase.trans {s t u : State} (h1 : KeepsPhase s t) (h2 : KeepsPhase t u) : KeepsPhase s u := by
  rcases h2 with h2 | ⟨hs2, hp2, he2⟩
  · exact .inl h2
  rcases h1 with h1 | ⟨hs1, hp1, he1⟩
  · exact .inl (he2.trans h1)
  · exact .inr ⟨hs2.trans hs1, hp2.trans hp1, he2.trans he1⟩

theorem KeepsPhase.judge (s : State) : KeepsPhase s (judge s) := by
  unfold KeepsPhase Machine.judge
  dsimp only [State.setInd]
  split_ifs
  all_goals simp_all

theorem KeepsPhase.activityRequest (s : State) : KeepsPhase s (activityRequest s) := by
  unfold Machine.activityRequest
  split
  · exact .refl s
  · exact .inr ⟨rfl, rfl, rfl⟩

theorem KeepsPhase.ownerTakes (op : DOp) (o : Owner) (ok lost : Bool) (page : List Byte) (s : State) :
    KeepsPhase s (ownerTakes op o ok lost page s) := by
  have hwritten (j : Job) : KeepsPhase s (writeEnd j ok s) := by
    unfold writeEnd
    split
    · exact KeepsPhase.trans (t := leaveMarks j.buf (addDone j.owner j.count (endJob j s))) (.of_ind (by simp))
        (.trans (.activityRequest _) (.of_ind (by simp)))
    · exact .of_ind (by simp)
  unfold Machine.ownerTakes
  split
  · unfold jobCompletion
    split
    · exact .refl s
    · split
      · exact .of_ind (by split <;> simp)
      · split
        · exact .of_ind (by simp)
        · exact hwritten _
        · exact .refl s
  · exact .of_ind (by simp)
  · exact .of_ind (by split <;> simp)
  · exact .refl s

theorem phase_walk : Walk KeepsPhase where
  refl := KeepsPhase.refl
  trans := KeepsPhase.trans
  neutral h := .inr h.2.2.2.2.2.2.2.2.2.2.2.2.2.2.2
  judge := KeepsPhase.judge
  ksRequest r s := .of_ind rfl
  endWrite c s := .of_ind rfl
  enter a s := .of_ind (by simp)
  presentOverlay s _ := .of_ind (by simp)
  clearKey s := .of_ind rfl
  loadKey k s _ := .of_ind rfl
  loadSession k s _ := .of_ind rfl
  failTxn t f s := .of_ind (by simp)
  progress t s := .of_ind (by simp)
  addDone t k s := .of_ind rfl
  stopCipher s := .of_ind (by simp)
  endRun t j s _ := .of_ind (by simp)
  runOn t j s _ := .of_ind rfl
  requestWindow c u s _ := .of_ind (by simp)
  eraseHold s := .of_ind (by simp)
  loseMedia s := .of_ind rfl
  completion d x ok page s _ := .trans (.of_ind (by rfl)) (.ownerTakes _ _ _ _ _ _)
  error o e s _ := .trans (.of_ind (by rfl)) (.ownerTakes _ _ _ _ _ _)
  startJob b x s _ _ := .of_ind (by simp)
  dataWaits s := .of_ind rfl
  issue d r s _ _ := .of_ind (by simp)
  cipherTake s := .of_ind (by simp)
  grant s := .of_ind (by simp)
  cipherEnd s := .of_ind (by simp)
  takeSector t i j sector s _ := .of_ind (by simp)
  admitRequest k t r s _ := .of_ind (by simp)

/-- But for the pattern clock every command keeps the phase, or starts the pattern anew. -/
theorem exec_keepsPhase {c : Instr} {s t : State} (hc : c ≠ .patternClock) (h : exec c s = .next t) : KeepsPhase s t := by
  have hempty (u : State) : KeepsPhase u (emptyTable u) := .of_ind (by simp)
  cases c with
  | patternClock => exact absurd rfl hc
  | powerOn =>
    cases h
    unfold powerOn
    split
    · exact .inl rfl
    · exact .refl s
  | powerLoss fate =>
    cases h
    unfold powerLoss
    split
    · exact .refl s
    · exact .inl rfl
  | ksReadingComplete =>
    cases h
    by_cases hp : s.power = .reading
    · exact .trans (.of_ind (by rfl)) (phase_walk.readingComplete hempty hp)
    · rw [readingComplete, if_neg hp]
      exact .refl s
  | linkReset => exact phase_walk.exec_link hempty (.inl rfl) h
  | suspend => exact phase_walk.exec_link hempty (.inr (.inl rfl)) h
  | resume => exact phase_walk.exec_link hempty (.inr (.inr (.inl rfl))) h
  | refusalSent => exact phase_walk.exec_link hempty (.inr (.inr (.inr rfl))) h
  | completeSent =>
    refine phase_walk.whenRunning h ?_
    unfold completeSent
    split
    · split
      · refine .trans (.of_ind ?_) (phase_walk.settle _)
        split <;> simp
      · exact .refl s
    · exact .refl s
  | activityRestEnd => exact phase_walk.whenPowered h (phase_walk.restEnd s)
  | _ => exact phase_walk.exec (fun hclock => by cases hclock) rfl h

/-- The pattern clock leaves the source and the pattern, and runs on within the pattern's period (R153, R161). -/
theorem patternTick_shown (i : Ind) : (patternTick i).shown = i.shown ∧ (patternTick i).pattern = i.pattern := by
  unfold patternTick
  split <;> exact ⟨rfl, rfl⟩

theorem patternTick_phase {i : Ind} (h : i.elapsed = 0 ∨ i.elapsed < i.pattern.period) :
    (patternTick i).elapsed = 0 ∨ (patternTick i).elapsed < i.pattern.period := by
  unfold patternTick
  split
  · exact h
  next hperiod => exact .inr (Nat.mod_lt _ (Nat.pos_of_ne_zero hperiod))

/-! ## The end of an event -/

/-- The source shown, the condition of the slot and the pattern are as the arbitration leaves them. -/
structure State.Arbitrated (s : State) : Prop where
  shown : s.ShownOk
  condition : s.ind.suspended = true ↔ ∃ b x, s.ind.slot = some b ∧ s.requests x ∧ x.priority < b.source.priority
  pattern : s.ind.pattern = s.patternOf s.ind.shown

theorem judge_arbitrated (s : State) : (judge s).Arbitrated := ⟨judge_shownOk s, judge_condition s, judge_pattern s⟩

theorem settle_arbitrated (s : State) : (settle s).Arbitrated := judge_arbitrated _

/-- From `s` to `t` nothing changes that the arbitration judges by or decides. -/
structure SameShown (s t : State) : Prop where
  power : t.power = s.power
  media : t.dli.media = s.dli.media
  sweep : t.swu.state = s.swu.state
  access : t.ac.access = s.ac.access
  standby : t.ac.standby = s.ac.standby
  slot : t.ind.slot = s.ind.slot
  suspended : t.ind.suspended = s.ind.suspended
  shown : t.ind.shown = s.ind.shown
  pattern : t.ind.pattern = s.ind.pattern

theorem SameShown.requests {s t : State} (h : SameShown s t) (x : Source) : t.requests x ↔ s.requests x := by
  cases x <;> simp [State.requests, h.power, h.media, h.sweep, h.access, h.standby, h.slot]

theorem SameShown.shownOk {s t : State} (h : SameShown s t) (hs : s.ShownOk) : t.ShownOk := by
  simpa only [State.ShownOk, h.requests, h.shown] using hs

theorem SameShown.arbitrated {s t : State} (h : SameShown s t) (hs : s.Arbitrated) : t.Arbitrated := by
  refine ⟨h.shownOk hs.shown, ?_, ?_⟩
  · simpa only [h.requests, h.slot, h.suspended] using hs.condition
  · have hpattern : t.patternOf t.ind.shown = s.patternOf s.ind.shown := by
      rw [h.shown]
      cases s.ind.shown <;> simp [State.patternOf, h.access, h.standby]
    rw [h.pattern, hpattern, hs.pattern]

/-- Where neither the part's condition, the sweep, the sub-state nor the indicator is touched nothing is judged anew. -/
theorem SameShown.of_touches {B : List Block} {s t : State} (h : Touches B s t)
    (hB : ∀ b ∈ B, b ≠ .power ∧ b ≠ .media ∧ b ≠ .sweep ∧ b ≠ .access ∧ b ≠ .standby ∧ b ≠ .indicator) : SameShown s t := by
  have hmedia := h .media fun hb => (hB _ hb).2.1 rfl
  have haccess := h .access fun hb => (hB _ hb).2.2.2.1 rfl
  have hstandby := h .standby fun hb => (hB _ hb).2.2.2.2.1 rfl
  have hind : t.ind = s.ind := h .indicator fun hb => (hB _ hb).2.2.2.2.2 rfl
  exact ⟨h .power fun hb => (hB _ hb).1 rfl, hmedia.1, congrArg Swu.state (h .sweep fun hb => (hB _ hb).2.2.1 rfl),
    haccess.1, hstandby.1, by rw [hind], by rw [hind], by rw [hind], by rw [hind]⟩

theorem SameShown.refl (s : State) : SameShown s s := ⟨rfl, rfl, rfl, rfl, rfl, rfl, rfl, rfl, rfl⟩

/-- A command ends with the arbitration, or changes nothing that it judges by. -/
def Shows (s t : State) : Prop := t.Arbitrated ∨ SameShown s t

theorem Shows.refl (s : State) : Shows s s := .inr (.refl s)

theorem Shows.settle (s u : State) : Shows s (settle u) := .inl (settle_arbitrated u)

theorem drain_arbitrated (n : Nat) {s : State} (h : s.Arbitrated) : (drain n s).Arbitrated := by
  induction n generalizing s with
  | zero => exact h
  | succ n ih =>
    unfold drain
    split
    · exact h
    · exact ih (settle_arbitrated _)

theorem Shows.settleLink (s u : State) : Shows s (settleLink u) := .inl (drain_arbitrated _ (settle_arbitrated u))

theorem Shows.waitOnLink (i : LinkItem) (s : State) : Shows s (waitOnLink i s) := .inr ⟨rfl, rfl, rfl, rfl, rfl, rfl, rfl, rfl, rfl⟩

theorem Shows.whenPowered {f : State → State} {s t : State} (h : s.whenPowered f = .next t) (hf : Shows s (f s)) :
    Shows s t := by
  cases h
  split
  · exact .refl s
  · exact hf

theorem Shows.whenRunning {f : State → State} {s t : State} (h : s.whenRunning f = .next t) (hf : Shows s (f s)) :
    Shows s t := by
  cases h
  split
  · exact hf
  · exact .refl s

theorem Shows.expiry {p : Prop} [Decidable p] (s u : State) : Shows s (if p then Machine.settle u else s) := by
  split
  · exact .settle s u
  · exact .refl s

theorem Shows.takeEntry (f : KeyEntry → Option (State → State)) (s : State) : Shows s (takeEntry f s) := by
  unfold Machine.takeEntry
  split
  · exact .refl s
  · split
    · exact .refl s
    · split
      · exact .refl s
      · exact .settle _ _

theorem Shows.requestArrives (r : Request) (s : State) : Shows s (requestArrives r s) := by
  unfold Machine.requestArrives
  split
  · exact .refl s
  · split
    · exact .waitOnLink _ s
    · exact .settle _ _

theorem Shows.signalArrives (i : LinkItem) (s : State) : Shows s (signalArrives i s) := by
  unfold Machine.signalArrives
  split
  · exact .refl s
  · exact .waitOnLink i s
  · exact .settleLink _ _

/-- A part that shows BASE with nothing in the slot, before the AC has chosen its initial state (R160). -/
theorem State.arbitrated_of_starting {s : State} (haccess : s.ac.access = .starting) (hstandby : s.ac.standby = false)
    (hmedia : s.dli.media = .unknown) (hsweep : s.swu.state = .idle) (hslot : s.ind.slot = none)
    (hsuspended : s.ind.suspended = false) (hshown : s.ind.shown = .base) (hpattern : s.ind.pattern = .baseDark) :
    s.Arbitrated := by
  have hrequests (x : Source) (hx : s.requests x) : x = .base := by
    cases x <;> simp_all [State.requests]
  refine ⟨⟨by simp [hshown, State.requests], fun x hx => by rw [hrequests x hx, hshown]⟩, ?_, ?_⟩
  · simp [hsuspended, hslot]
  · simp [hshown, hpattern, State.patternOf, haccess]

theorem exec_shows {c : Instr} {s t : State} (h : exec c s = .next t) : Shows s t := by
  cases c with
  | powerOn =>
    cases h
    unfold powerOn
    split
    · exact .inl (State.arbitrated_of_starting rfl rfl rfl rfl rfl rfl rfl rfl)
    · exact .refl s
  | powerLoss fate =>
    cases h
    unfold powerLoss
    split
    · exact .refl s
    · exact .inl (State.arbitrated_of_starting rfl rfl rfl rfl rfl rfl rfl rfl)
  | ksReadingComplete =>
    cases h
    unfold readingComplete
    split
    · exact .settleLink _ _
    · exact .refl s
  | tick => exact .whenPowered h (.inr ⟨rfl, rfl, rfl, rfl, rfl, rfl, rfl, rfl, rfl⟩)
  | readRequest | writeRequest | flushRequest | sizeRequest | stateRequest | abort | unknownKindRequest =>
    cases h
    exact .requestArrives _ s
  | writeData tag sector =>
    cases h
    split
    · exact .refl s
    · exact .waitOnLink _ s
    · exact .settle _ _
  | linkReset | suspend | resume => cases h; exact .signalArrives _ s
  | refusalSent =>
    refine .whenRunning h ?_
    unfold refusalSent
    split
    · exact .settleLink _ _
    · exact .refl s
  | completeSent =>
    refine .whenRunning h ?_
    unfold completeSent
    split
    · split
      · exact .settle _ _
      · exact .refl s
    · exact .refl s
  | dataWantedSent =>
    refine .whenRunning h ?_
    unfold dataWantedSent
    split
    · split
      · exact .settle _ _
      · exact .refl s
    · exact .refl s
  | readDataSent =>
    refine .whenRunning h ?_
    unfold readDataSent
    split
    · split
      · dsimp only
        split
        · exact .settle _ _
        · exact .inr ⟨rfl, rfl, rfl, rfl, rfl, rfl, rfl, rfl, rfl⟩
      · exact .refl s
    · exact .refl s
  | overlayReadDataSent =>
    refine .whenRunning h ?_
    unfold overlaySent
    split
    · split
      · dsimp only
        split
        · exact .inr ⟨rfl, rfl, rfl, rfl, rfl, rfl, rfl, rfl, rfl⟩
        · exact .settle _ _
      · exact .refl s
    · exact .refl s
  | dataWaitExpiry tag =>
    refine .whenRunning h ?_
    unfold dataWaitExpired
    split
    · exact .expiry _ _
    · exact .refl s
  | pageReadCompletion | pageWriteCompletion | syncCompletion | discardCompletion =>
    refine .whenPowered h ?_
    unfold takeCompletion
    split
    · exact .refl s
    · split
      · exact .refl s
      · exact .settle _ _
  | errorCompletionTaken o =>
    refine .whenPowered h ?_
    unfold takeError
    split
    · exact .refl s
    · exact .settle _ _
  | ident p early =>
    refine .whenPowered h ?_
    unfold identTaken
    repeat' split
    all_goals exact .settle _ _
  | mediaLost early =>
    refine .whenPowered h ?_
    unfold mediaLost
    split
    · exact .refl s
    · exact .settle _ _
  | identWaitExpiry => exact .whenPowered h (.expiry _ _)
  | upstreamFrameDropped | downstreamFrameDropped => cases h; exact .refl s
  | cipherCompletion => exact .whenRunning (f := fun s => Machine.settle (cipherEnd s)) h (.settle _ _)
  | keyEntryProduced | shiftTapProduced => exact .whenPowered h (.inr (.of_touches (produce_touches _ s) (by decide)))
  | digitTaken | shiftedDigitTaken | shiftTapTaken | keyTaken | shiftedKeyTaken | flaggedEntryTaken =>
    exact .whenRunning h (.takeEntry _ _)
  | entryTimeout | settleTimerExpiry | lockoutTimerExpiry | adminSessionTimerExpiry | idleCounterExpiry =>
    exact .whenRunning h (.expiry _ _)
  | verifyEnd => exact .whenRunning (f := fun s => Machine.settle (verifyEnded s)) h (.settle _ _)
  | ksWriteComplete => exact .whenRunning (f := fun s => Machine.settle (ksWritten s)) h (.settle _ _)
  | briefPatternRunout => exact .whenPowered (f := fun s => Machine.settle (briefRunout s)) h (.settle _ _)
  | activityRestEnd =>
    refine .whenPowered h (.inr ?_)
    unfold restEnd
    split
    · exact ⟨rfl, rfl, rfl, rfl, rfl, rfl, rfl, rfl, rfl⟩
    · exact .refl s
  | scan closed =>
    exact .whenPowered (f := fun s => s.setKps (s.kps.scan closed)) h (.inr ⟨rfl, rfl, rfl, rfl, rfl, rfl, rfl, rfl, rfl⟩)
  | patternClock =>
    refine .whenPowered (f := fun s => s.setInd (patternTick s.ind)) h (.inr ?_)
    constructor <;> first | rfl | (simp only [State.setInd_fields, patternTick]; split <;> rfl)

/-- The phase lies within the period of the pattern shown (R153). -/
def State.PhaseOk (s : State) : Prop := s.ind.elapsed = 0 ∨ s.ind.elapsed < s.ind.pattern.period

/-- A command starts the pattern at its first phase, or lets the one shown run on within its period. -/
theorem exec_phase {c : Instr} {s t : State} (h : exec c s = .next t) :
    t.ind.elapsed = 0 ∨ (t.ind.shown = s.ind.shown ∧ t.ind.pattern = s.ind.pattern ∧ (s.PhaseOk → t.PhaseOk)) := by
  by_cases hc : c = .patternClock
  · subst hc
    cases h
    split
    · exact .inr ⟨rfl, rfl, id⟩
    · obtain ⟨hshown, hpattern⟩ := patternTick_shown s.ind
      exact .inr ⟨hshown, hpattern, fun hphase => by simpa [State.PhaseOk, hpattern] using patternTick_phase hphase⟩
  · rcases exec_keepsPhase hc h with h | ⟨hshown, hpattern, helapsed⟩
    · exact .inl h
    · exact .inr ⟨hshown, hpattern, by simp [State.PhaseOk, hpattern, helapsed]⟩

theorem exec_shownSource {c : Instr} {s t : State} (h : exec c s = .next t) :
    (s.ShownOk → t.ShownOk) ∧ (s.ShownOk → s.PatternOk → t.PatternOk) ∧
      (t.ind.shown ≠ s.ind.shown ∨ t.ind.pattern ≠ s.ind.pattern → t.ind.elapsed = 0) := by
  have hphase := exec_phase h
  refine ⟨fun hshown => ?_, fun hshown hpattern => ?_, fun hnew => ?_⟩
  · rcases exec_shows h with ht | hsame
    · exact ht.shown
    · exact hsame.shownOk hshown
  · have ht : t.Arbitrated := by
      rcases exec_shows h with ht | hsame
      · exact ht
      · exact hsame.arbitrated ⟨hshown, hpattern.condition, hpattern.pattern⟩
    refine ⟨ht.condition, ht.pattern, ?_⟩
    rcases hphase with hfirst | ⟨-, -, hrun⟩
    · exact .inl hfirst
    · exact hrun hpattern.phase
  · rcases hphase with hfirst | ⟨hshown, hpattern, -⟩
    · exact hfirst
    · rcases hnew with hnew | hnew
      · exact absurd hshown hnew
      · exact absurd hpattern hnew

/-- Settles O7: a command ends with the arbitration or changes nothing it judges by, and keeps the phase. -/
theorem stepKeepsShownSource : Obligations.StepKeepsShownSource := by
  intro s t h
  rcases step_cases h with rfl | ⟨c, rest, -, hexec⟩
  · exact ⟨id, fun _ => id, by simp⟩
  · obtain ⟨hshown, hpattern, hphase⟩ := exec_shownSource hexec
    exact ⟨hshown, fun hs hp => hpattern hs ⟨hp.condition, hp.pattern, hp.phase⟩, hphase⟩

end Sys2Proof.Machine


/-! PROOF. The lists of the tables (O10): what the operations leave of the unit jobs and of the slots, and that each buffer,
each unit and each dtag is held once. -/

namespace Sys2Proof.Machine

open Sys2Proof

/-! ## Slots (R65) -/

@[simp] theorem makeRequest_slots (op : DOp) (o : Owner) (s : State) : (makeRequest op o s).dli.slots = s.dli.slots := by
  unfold makeRequest
  split <;> rfl

@[simp] theorem requestRead_slots (b : Fin 8) (u : Nat) (s : State) : (requestRead b u s).dli.slots = s.dli.slots := by
  simp [requestRead]

@[simp] theorem requestWrite_slots (b : Fin 8) (u : Nat) (s : State) : (requestWrite b u s).dli.slots = s.dli.slots := by
  simp [requestWrite]

@[simp] theorem requestSync_slots (t : Fin 16) (s : State) : (requestSync t s).dli.slots = s.dli.slots := by
  simp [requestSync]

@[simp] theorem withdrawJobs_slots (l : List (Fin 8)) (s : State) : (withdrawJobs l s).dli.slots = s.dli.slots := rfl

@[simp] theorem withdrawSync_slots (t : Fin 16) (s : State) : (withdrawSync t s).dli.slots = s.dli.slots := rfl

@[simp] theorem disposeWork_slots (x : Txn) (s : State) : (disposeWork x s).dli.slots = s.dli.slots := by
  unfold disposeWork disposeJobs
  split
  · rfl
  · split <;> simp

@[simp] theorem failTxn_slots (t : Fin 16) (f : Failure) (s : State) : (failTxn t f s).dli.slots = s.dli.slots := by
  unfold failTxn
  split
  · rfl
  · dsimp only
    split
    · rfl
    · split <;> simp

@[simp] theorem syncIfUnmarked_slots (t : Fin 16) (s : State) : (syncIfUnmarked t s).dli.slots = s.dli.slots := by
  unfold syncIfUnmarked
  split
  · split <;> simp
  · rfl

@[simp] theorem leaveMarks_slots (b : Fin 8) (s : State) : (leaveMarks b s).dli.slots = s.dli.slots :=
  foldl_keeps (fun u : State => u.dli.slots) (fun u t => syncIfUnmarked t u) (fun u t => by simp) _ _

@[simp] theorem syncEnd_slots (t : Fin 16) (ok : Bool) (s : State) : (syncEnd t ok s).dli.slots = s.dli.slots := by
  unfold syncEnd
  split
  · rfl
  · split
    · split <;> simp
    · simp
    · rfl

@[simp] theorem jobCompletion_slots (b : Fin 8) (op : DOp) (ok : Bool) (page : List Byte) (s : State) :
    (jobCompletion b op ok page s).dli.slots = s.dli.slots := by
  unfold jobCompletion
  split
  · rfl
  · split
    · unfold endAbandoned
      split <;> split <;> simp
    · split
      · unfold readEnd
        split <;> simp
      · unfold writeEnd
        split <;> simp
      · rfl

@[simp] theorem requestWindow_slots (c u : Nat) (s : State) : (requestWindow c u s).dli.slots = s.dli.slots := by
  simp [requestWindow]

@[simp] theorem makeDue_slots (s : State) : (makeDue s).dli.slots = s.dli.slots := by
  unfold makeDue
  (repeat' split) <;> simp

@[simp] theorem windowResult_slots (r : WindowResult) (n : Nat) (s : State) :
    (windowResult r n s).dli.slots = s.dli.slots := by
  unfold windowResult afterAdvance
  dsimp only
  (repeat' split) <;> simp

@[simp] theorem ownerTakes_slots (op : DOp) (o : Owner) (ok lost : Bool) (page : List Byte) (s : State) :
    (ownerTakes op o ok lost page s).dli.slots = s.dli.slots := by
  unfold ownerTakes
  split
  · simp
  · simp
  · split <;> simp
  · rfl

@[simp] theorem eraseHold_slots (s : State) : (eraseHold s).dli.slots = s.dli.slots := by
  unfold eraseHold
  dsimp only
  split <;> rfl

@[simp] theorem cipherEnd_slots (s : State) : (cipherEnd s).dli.slots = s.dli.slots := by
  unfold cipherEnd
  split
  · dsimp only
    split <;> simp
  · rfl

@[simp] theorem startJob_slots (b : Fin 8) (x : Txn) (u : Nat) (s : State) : (startJob b x u s).dli.slots = s.dli.slots := by
  unfold startJob
  dsimp only
  split <;> simp

@[simp] theorem admitRequest_slots (k : TxKind) (t : Fin 16) (r : Request) (s : State) :
    (admitRequest k t r s).dli.slots = s.dli.slots := by
  simp [admitRequest]

/-- A free dtag is none that a slot holds (R65). -/
theorem State.freeSlot_spec {s : State} {d : Fin 4} (h : s.freeSlot = some d) : ∀ z ∈ s.dli.slots, z.dtag ≠ d := by
  have hfree := List.find?_some h
  simpa using hfree

/-! ## Unit jobs (R42, R45) -/

/-- From `s` to `t` jobs have ended or changed, each in its buffer, on its unit and for its transaction, or not at all. -/
def JobsFrom (s t : State) : Prop :=
  ∃ f : Job → Option Job, (∀ j k, f j = some k → k.buf = j.buf ∧ k.unit = j.unit ∧ k.owner = j.owner) ∧
    t.ubp.jobs = s.ubp.jobs.filterMap f

theorem JobsFrom.of_same {s t : State} (h : t.ubp.jobs = s.ubp.jobs) : JobsFrom s t :=
  ⟨some, fun j k hk => by cases hk; exact ⟨rfl, rfl, rfl⟩, by simpa using h⟩

/-- What changes no job after `t` leaves the jobs as they have come from `s`. -/
theorem JobsFrom.same_right {s t u : State} (h : JobsFrom s t) (hu : u.ubp.jobs = t.ubp.jobs) : JobsFrom s u := by
  obtain ⟨f, hf, ht⟩ := h
  exact ⟨f, hf, hu.trans ht⟩

theorem JobsFrom.refl (s : State) : JobsFrom s s := .of_same rfl

theorem JobsFrom.trans {s t u : State} (h1 : JobsFrom s t) (h2 : JobsFrom t u) : JobsFrom s u := by
  obtain ⟨f, hf, ht⟩ := h1
  obtain ⟨g, hg, hu⟩ := h2
  refine ⟨fun j => (f j).bind g, fun j k hk => ?_, by rw [hu, ht, List.filterMap_filterMap]⟩
  obtain ⟨i, hi, hk⟩ := Option.bind_eq_some_iff.1 hk
  obtain ⟨hbuf, hunit, howner⟩ := hf j i hi
  obtain ⟨hbuf', hunit', howner'⟩ := hg i k hk
  exact ⟨hbuf'.trans hbuf, hunit'.trans hunit, howner'.trans howner⟩

theorem JobsFrom.of_map {s t : State} {f : Job → Job} (hf : ∀ j, (f j).buf = j.buf ∧ (f j).unit = j.unit ∧ (f j).owner = j.owner)
    (h : t.ubp.jobs = s.ubp.jobs.map f) : JobsFrom s t :=
  ⟨some ∘ f, fun j k hk => by cases hk; exact hf j, by rw [h, List.filterMap_eq_map]⟩

theorem JobsFrom.of_filter {s t : State} {p : Job → Bool} (h : t.ubp.jobs = s.ubp.jobs.filter p) : JobsFrom s t := by
  refine ⟨Option.guard p, fun j k hk => ?_, by rw [h, List.filterMap_eq_filter]⟩
  obtain ⟨rfl, -⟩ := Option.guard_eq_some_iff.1 hk
  exact ⟨rfl, rfl, rfl⟩

/-- A key that the jobs left share with those they come from is held once, as before. -/
theorem filterMap_map_sublist {α β : Type} {k : α → β} {f : α → Option α} (hf : ∀ j i, f j = some i → k i = k j) (l : List α) :
    ((l.filterMap f).map k).Sublist (l.map k) := by
  induction l with
  | nil => exact .slnil
  | cons a l ih =>
    rw [List.filterMap_cons, List.map_cons]
    split
    · exact ih.cons _
    next i hi => rw [List.map_cons, hf a i hi]; exact ih.cons_cons _

theorem JobsFrom.buffers {s t : State} (h : JobsFrom s t) (hs : s.BuffersOk) : t.BuffersOk := by
  obtain ⟨f, hf, ht⟩ := h
  rw [State.BuffersOk, ht]
  exact hs.sublist (filterMap_map_sublist (fun j k hk => (hf j k hk).1) _)

theorem JobsFrom.units {s t : State} (h : JobsFrom s t) (hs : s.UnitsOk) : t.UnitsOk := by
  obtain ⟨f, hf, ht⟩ := h
  rw [State.UnitsOk, ht]
  exact hs.sublist (filterMap_map_sublist (fun j k hk => (hf j k hk).2.1) _)

@[simp] theorem placePage_jobs (b : Fin 8) (page : List Byte) (s : State) : (placePage b page s).ubp.jobs = s.ubp.jobs := by
  unfold placePage
  split <;> rfl

@[simp] theorem putUnit_jobs (b : Fin 8) (u : Fin 4096 → Byte) (s : State) : (putUnit b u s).ubp.jobs = s.ubp.jobs := by
  rw [putUnit, placePage_jobs]

@[simp] theorem placeSector_jobs (b i : Fin 8) (sector : List Byte) (s : State) :
    (placeSector b i sector s).ubp.jobs = s.ubp.jobs := by
  unfold placeSector
  split <;> rfl

theorem updJob_jobs (b : Fin 8) (f : Job → Job) (s : State) :
    (updJob b f s).ubp.jobs = s.ubp.jobs.map (fun j => if j.buf = b then f j else j) := rfl

theorem dropJob_jobs (b : Fin 8) (s : State) : (dropJob b s).ubp.jobs = s.ubp.jobs.filter (fun j => j.buf != b) := rfl

theorem JobsFrom.updJob (b : Fin 8) {f : Job → Job} (hf : ∀ j, (f j).buf = j.buf ∧ (f j).unit = j.unit ∧ (f j).owner = j.owner)
    (s : State) : JobsFrom s (updJob b f s) := by
  refine .of_map (fun j => ?_) (updJob_jobs b f s)
  split
  · exact hf j
  · exact ⟨rfl, rfl, rfl⟩

theorem endJob_jobs (j : Job) (s : State) : (endJob j s).ubp.jobs = s.ubp.jobs.filter (fun k => k.buf != j.buf) := by
  unfold endJob
  split <;> rfl

theorem JobsFrom.endJob (j : Job) (s : State) : JobsFrom s (endJob j s) := .of_filter (endJob_jobs j s)

theorem JobsFrom.foldl {α : Type} {f : State → α → State} (h : ∀ s a, JobsFrom s (f s a)) (l : List α) (s : State) :
    JobsFrom s (l.foldl f s) := by
  induction l generalizing s with
  | nil => exact .refl s
  | cons a l ih => exact (h s a).trans (ih _)

theorem JobsFrom.stopCipher (s : State) : JobsFrom s (stopCipher s) := .foldl (fun s j => .endJob j s) _ s

theorem failTxn_jobs (t : Fin 16) (f : Failure) (s : State) : (failTxn t f s).ubp.jobs = s.ubp.jobs ∨
    ∃ x, s.txn? t = some x ∧ x.isUserTransfer = true ∧ x.phase = .active ∧ x.failure = none ∧
      (failTxn t f s).ubp.jobs = s.ubp.jobs.filterMap (fun j => if j.isOf t then j.atFailure else some j) := by
  by_cases h : ∃ x, s.txn? t = some x ∧ x.phase = .active ∧ x.failure = none
  · obtain ⟨x, hx, hactive, hfresh⟩ := h
    have hjobs : (failTxn t f s).ubp.jobs =
        (disposeWork x (updTxn t (fun y => { y with failure := some f, flushMark := none }) s)).ubp.jobs := by
      rw [failTxn_of_active hx hactive hfresh]
      split <;> simp
    rw [hjobs, disposeWork_jobs]
    split
    next huser => exact .inr ⟨x, hx, huser, hactive, hfresh, by rw [State.tag_of_txn? hx]; rfl⟩
    next => exact .inl rfl
  · rw [failTxn_of_inactive fun x hx => ?_]
    · exact .inl rfl
    · by_contra hne
      exact h ⟨x, hx, by simpa [not_or] using hne⟩

theorem JobsFrom.failTxn (t : Fin 16) (f : Failure) (s : State) : JobsFrom s (failTxn t f s) := by
  rcases failTxn_jobs t f s with h | ⟨x, -, -, -, -, h⟩
  · exact .of_same h
  · refine ⟨_, fun j k hk => ?_, h⟩
    split at hk
    · obtain ⟨hbuf, howner, hunit, -⟩ := Job.atFailure_fields hk
      exact ⟨hbuf, hunit, howner⟩
    · cases hk
      exact ⟨rfl, rfl, rfl⟩

theorem JobsFrom.readEnd (j : Job) (ok : Bool) (page : List Byte) (s : State) : JobsFrom s (readEnd j ok page s) := by
  have hplaced : JobsFrom s (placePage j.buf page s) := .of_same (placePage_jobs j.buf page s)
  unfold Machine.readEnd
  split
  · exact hplaced.trans (.updJob _ (by exact fun _ => ⟨rfl, rfl, rfl⟩) _)
  · exact ((JobsFrom.endJob j s).trans (.failTxn j.owner .mediaFault _)).same_right (by simp)

theorem JobsFrom.writeEnd (j : Job) (ok : Bool) (s : State) : JobsFrom s (writeEnd j ok s) := by
  unfold Machine.writeEnd
  split
  · exact (JobsFrom.endJob j s).same_right (by simp)
  · have hended : JobsFrom s (leaveMarks j.buf (Machine.endJob j s)) := (JobsFrom.endJob j s).same_right (by simp)
    exact (hended.trans (.failTxn j.owner .mediaFault _)).same_right (by simp)

theorem JobsFrom.jobCompletion (b : Fin 8) (op : DOp) (ok : Bool) (page : List Byte) (s : State) :
    JobsFrom s (jobCompletion b op ok page s) := by
  have hplaced : JobsFrom s (if ok then placePage b page s else s) := by
    split
    · exact .of_same (placePage_jobs b page s)
    · exact .refl s
  have hended (j : Job) (u : State) : JobsFrom u (endAbandoned j op u) := by
    have hdrop : JobsFrom u (dropJob j.buf u) := .of_filter (dropJob_jobs _ u)
    unfold endAbandoned
    split
    · exact hdrop.same_right (by simp)
    · exact hdrop
  unfold Machine.jobCompletion
  split
  · exact .refl s
  · split
    · exact hplaced.trans (hended _ _)
    · split
      · exact .readEnd _ _ _ s
      · exact .writeEnd _ _ s
      · exact .refl s

theorem JobsFrom.syncEnd (t : Fin 16) (ok : Bool) (s : State) : JobsFrom s (syncEnd t ok s) := by
  unfold Machine.syncEnd
  split
  · exact .refl s
  · split
    · split
      · exact .of_same (by simp)
      · exact .failTxn _ _ s
    · exact .of_same (by simp)
    · exact .refl s

theorem JobsFrom.ownerTakes (op : DOp) (o : Owner) (ok lost : Bool) (page : List Byte) (s : State) :
    JobsFrom s (ownerTakes op o ok lost page s) := by
  unfold Machine.ownerTakes
  split
  · exact .jobCompletion _ _ _ _ s
  · exact .syncEnd _ _ s
  · split
    · exact .of_same (by simp)
    · exact .refl s
  · exact .refl s

theorem JobsFrom.requestWrite (b : Fin 8) (n : Nat) (s : State) : JobsFrom s (requestWrite b n s) := by
  unfold Machine.requestWrite
  exact (JobsFrom.updJob b (f := fun j => { j with pageOp := .requested }) (fun _ => ⟨rfl, rfl, rfl⟩) s).same_right (by simp)

theorem JobsFrom.cipherEnd (s : State) : JobsFrom s (cipherEnd s) := by
  have hput (b : Fin 8) (u : Fin 4096 → Byte) : JobsFrom s (putUnit b u s) :=
    .of_same (putUnit_jobs b u s)
  have hmoved (b : Fin 8) (u : Fin 4096 → Byte) (x : JobState) :
      JobsFrom s (Machine.updJob b (fun y => { y with state := x }) (putUnit b u s)) :=
    (hput b u).trans (.updJob b (f := fun y => { y with state := x }) (fun _ => ⟨rfl, rfl, rfl⟩) (putUnit b u s))
  unfold Machine.cipherEnd
  split
  · dsimp only
    split
    · exact hmoved _ _ _
    · exact hmoved _ _ _
    · exact (hmoved _ _ _).trans (.requestWrite _ _ _)
  · exact .refl s

theorem JobsFrom.takeSector (i : Intake) (j : Job) (sector : List Byte) (s : State) : JobsFrom s (takeSector i j sector s) := by
  have hplaced : JobsFrom s (placeSector j.buf i.next sector s) := .of_same (placeSector_jobs _ _ _ s)
  unfold Machine.takeSector
  dsimp only
  split
  · exact hplaced.trans ((JobsFrom.of_same (by rfl)).trans (.updJob _ (by exact fun _ => ⟨rfl, rfl, rfl⟩) _))
  · exact hplaced.trans (.of_same (by rfl))

theorem JobsFrom.issue (d : Fin 4) (r : DReq) (s : State) : JobsFrom s (issue d r s) := by
  unfold Machine.issue tellIssued
  split
  next b _ =>
    exact (JobsFrom.updJob b (f := fun j => { j with pageOp := .issued d }) (fun _ => ⟨rfl, rfl, rfl⟩) s).same_right (by rfl)
  · exact .of_same rfl
  · exact .of_same rfl

theorem JobsFrom.cipherTake (s : State) : JobsFrom s (cipherTake s) := by
  unfold Machine.cipherTake
  split
  · exact .refl s
  · split
    · exact .refl s
    · refine .updJob _ ?_ s
      exact fun _ => ⟨rfl, rfl, rfl⟩

theorem JobsFrom.startRun (o : Output) (s : State) : JobsFrom s (startRun o s) := by
  unfold Machine.startRun
  split
  · split
    · refine .updJob _ ?_ s
      exact fun _ => ⟨rfl, rfl, rfl⟩
    · exact .refl _
  · exact .refl _

theorem JobsFrom.grant (s : State) : JobsFrom s (grant s) := by
  unfold Machine.grant
  split
  · exact .refl s
  · exact JobsFrom.trans (.of_same (by rfl)) (.startRun _ _)

theorem dataWaits_jobs (s : State) : (dataWaits s).ubp.jobs =
    s.ubp.jobs.map (fun j => if mayWait s.ubp.jobs j then { j with state := .dataWait } else j) := rfl

theorem JobsFrom.dataWaits (s : State) : JobsFrom s (dataWaits s) := by
  refine .of_map (fun j => ?_) (dataWaits_jobs s)
  split <;> exact ⟨rfl, rfl, rfl⟩

theorem JobsFrom.emptyTable (s : State) : JobsFrom s (emptyTable s) := by
  refine ⟨Job.atEmptying, fun j k hk => ?_, rfl⟩
  rw [Job.atEmptying_eq] at hk
  obtain ⟨-, hk⟩ := Option.ite_none_right_eq_some.1 hk
  cases hk
  exact ⟨rfl, rfl, rfl⟩

/-! ## The start of a unit job (R45, R46, R47) -/

/-- A free buffer is none that a job is bound to (R42). -/
theorem State.freeBuffer_spec {s : State} {b : Fin 8} (h : s.freeBuffer = some b) : ∀ j ∈ s.ubp.jobs, j.buf ≠ b := by
  have hfree := List.find?_some h
  simpa using hfree

/-- With no free buffer every buffer is bound to a job. -/
theorem State.freeBuffer_none {s : State} (h : s.freeBuffer = none) (b : Fin 8) : ∃ j ∈ s.ubp.jobs, j.buf = b := by
  have hbound := List.find?_eq_none.1 h b (List.mem_finRange b)
  simpa using hbound

theorem Txn.isUserTransfer_iff (x : Txn) :
    x.isUserTransfer = true ↔ (x.kind = .read ∨ x.kind = .write) ∧ x.volume = .user := by
  simp [Txn.isUserTransfer]

/-- The transactions eligible for a buffer are those that R46 lets have one. -/
theorem State.eligible_iff (s : State) (x : Txn) : s.eligible x = true ↔ s.WantsBuffer x := by
  unfold State.eligible State.WantsBuffer
  cases hnext : x.next? with
  | none => simp
  | some u => simp [State.claimable, Txn.isUserTransfer_iff, and_assoc]

/-- The next unit of a transaction that has units left is its next-unit field (R22). -/
theorem Txn.nextUnit_of_next? {x : Txn} {u : Nat} (h : x.next? = some u) : x.nextUnit = some u ∧ u ≤ x.lastU := by
  unfold Txn.next? at h
  split at h
  · cases h
  next v hv =>
    obtain ⟨hle, h⟩ := Option.ite_none_right_eq_some.1 h
    cases h
    exact ⟨hv, hle⟩

/-- The unit job that starts on unit `u` (R9, R47): queued for its data, or with its page read requested. -/
def Job.started (b : Fin 8) (x : Txn) (u : Nat) : Job :=
  { buf := b, owner := x.tag, unit := u,
    first := Fin.ofNat 8 (splitFirst x.first u), count := splitCount x.first x.m u,
    kind := splitKind x.kind x.first x.m u,
    state := if splitKind x.kind x.first x.m u = .writeFull then .dataQueue else .mediaRead,
    pageOp := if splitKind x.kind x.first x.m u = .writeFull then .absent else .requested,
    sent := 0, abandoned := false }

/-- A start adds its job behind the others. -/
theorem startJob_jobs {b : Fin 8} {s : State} (hb : ∀ j ∈ s.ubp.jobs, j.buf ≠ b) (x : Txn) (u : Nat) :
    (startJob b x u s).ubp.jobs = s.ubp.jobs ++ [.started b x u] := by
  have hothers (f : Job → Job) : s.ubp.jobs.map (fun j => if j.buf = b then f j else j) = s.ubp.jobs :=
    (List.map_congr_left fun j hj => if_neg (hb j hj)).trans (List.map_id _)
  unfold startJob
  dsimp only
  split
  next hfull => simp [updJob_jobs, hothers, Job.started, hfull]
  next hfull => simp [requestRead, updJob_jobs, hothers, Job.started, if_neg hfull]

/-- What a request does to the link: it joins the list, or is completed ERROR at once (R66). -/
theorem makeRequest_dli (op : DOp) (o : Owner) (s : State) : (makeRequest op o s).dli =
    if s.admissible op then { s.dli with requests := s.dli.requests ++ [{ op := op, owner := o }] }
    else { s.dli with errors := s.dli.errors ++ [{ op := op, owner := o, issued := false }] } := by
  unfold makeRequest
  split <;> rfl

theorem State.admissible_congr {s t : State} (h : t.dli = s.dli) (op : DOp) : t.admissible op = s.admissible op := by
  cases op <;> simp [State.admissible, h]

/-- A request rests on the downstream link alone. -/
theorem makeRequest_dli_congr {op : DOp} {o : Owner} {s t : State} (h : t.dli = s.dli) :
    (makeRequest op o t).dli = (makeRequest op o s).dli := by
  rw [makeRequest_dli, makeRequest_dli, State.admissible_congr h, h]

/-- A start requests the page read of its job, but for a WRITE_FULL (R47, R52). -/
theorem startJob_dli (b : Fin 8) (x : Txn) (u : Nat) (s : State) : (startJob b x u s).dli =
    if splitKind x.kind x.first x.m u = .writeFull then s.dli else (makeRequest (.pageRead u) (.job b) s).dli := by
  unfold startJob
  dsimp only
  split
  next hfull => simp [hfull]
  next hfull =>
    rw [if_neg hfull]
    exact makeRequest_dli_congr (by simp)

theorem startJob_txns (b : Fin 8) (x : Txn) (u : Nat) (s : State) : (startJob b x u s).txns =
    (updTxn x.tag (fun y => { y with nextUnit := some (u + 1), jobsHeld := y.jobsHeld + 1 }) s).txns := by
  unfold startJob
  dsimp only
  split <;> simp [updTxn_txns]

/-! ## Buffers, units and dtags held once -/

/-- From `s` to `t` each buffer, each unit and each dtag is held once, as before. -/
structure Bases (s t : State) : Prop where
  buffers : s.BuffersOk → t.BuffersOk
  units : s.UnitsOk → t.UnitsOk
  slots : s.SlotsOk → t.SlotsOk

theorem Bases.of_jobsFrom {s t : State} (h : JobsFrom s t) (hslots : t.dli.slots = s.dli.slots) : Bases s t :=
  ⟨h.buffers, h.units, by rw [State.SlotsOk, State.SlotsOk, hslots]; exact id⟩

theorem Bases.of_same {s t : State} (hjobs : t.ubp.jobs = s.ubp.jobs) (hslots : t.dli.slots = s.dli.slots) : Bases s t :=
  .of_jobsFrom (.of_same hjobs) hslots

theorem Bases.refl (s : State) : Bases s s := .of_same rfl rfl

theorem Bases.trans {s t u : State} (h1 : Bases s t) (h2 : Bases t u) : Bases s u :=
  ⟨h2.buffers ∘ h1.buffers, h2.units ∘ h1.units, h2.slots ∘ h1.slots⟩

/-- Slots that are freed leave the others' dtags distinct. -/
theorem Bases.freeSlots {s t : State} (hjobs : t.ubp.jobs = s.ubp.jobs) (hslots : t.dli.slots.Sublist s.dli.slots) :
    Bases s t := by
  have hsame := Bases.of_same (t := { s with ubp := t.ubp }) hjobs rfl
  exact ⟨hsame.buffers, hsame.units, fun h => h.sublist (hslots.map _)⟩

theorem Bases.startJob {b : Fin 8} {x : Txn} {s : State} (hb : s.freeBuffer = some b) (hx : s.txns.find? s.eligible = some x) :
    Bases s (startJob b x (x.nextUnit.getD 0) s) := by
  have hfree := State.freeBuffer_spec hb
  obtain ⟨-, -, -, -, u, hu, hunit, -⟩ := (s.eligible_iff x).1 (List.find?_some hx)
  obtain ⟨hnext, -⟩ := Txn.nextUnit_of_next? hu
  have hjobs := startJob_jobs hfree x u
  rw [hnext, Option.getD_some]
  refine ⟨fun h => ?_, fun h => ?_, fun h => ?_⟩
  · rw [State.BuffersOk, hjobs, List.map_append, List.nodup_append]
    refine ⟨h, by simp, ?_⟩
    simpa [Job.started] using hfree
  · rw [State.UnitsOk, hjobs, List.map_append, List.nodup_append]
    refine ⟨h, by simp, ?_⟩
    simpa [Job.started] using hunit
  · simpa [State.SlotsOk] using h

theorem Bases.issue {d : Fin 4} {r : DReq} {s : State} (hd : s.freeSlot = some d) : Bases s (issue d r s) := by
  obtain ⟨-, hslots, -, -⟩ := issue_dli d r s
  have hfrom := JobsFrom.issue d r s
  refine ⟨hfrom.buffers, hfrom.units, fun h => ?_⟩
  rw [State.SlotsOk, hslots, List.map_append, List.nodup_append]
  refine ⟨h, by simp, ?_⟩
  simpa using State.freeSlot_spec hd

theorem bases_walk : Walk Bases where
  refl := Bases.refl
  trans := Bases.trans
  neutral h := by
    obtain ⟨-, hjobs, -, -, hslots, -⟩ := h
    exact .of_same hjobs hslots
  judge s := .of_same (by simp) (by simp)
  ksRequest r s := .of_same rfl rfl
  endWrite c s := .of_same rfl rfl
  enter a s := .of_same (by simp) (by simp)
  presentOverlay s _ := .of_same (by simp) (by simp)
  clearKey s := .of_same rfl rfl
  loadKey k s _ := .of_same rfl rfl
  loadSession k s _ := .of_same rfl rfl
  failTxn t f s := .of_jobsFrom (.failTxn t f s) (by simp)
  progress t s := .of_same (by simp) (by simp)
  addDone t k s := .of_same rfl rfl
  stopCipher s := .of_jobsFrom (.stopCipher s) (by simp)
  endRun t j s _ := .of_jobsFrom (.endJob j s) (by simp)
  runOn t j s _ := .of_jobsFrom (.updJob j.buf (by exact fun _ => ⟨rfl, rfl, rfl⟩) s) rfl
  requestWindow c u s _ := .of_same (by simp) (by simp)
  eraseHold s := .of_same (by simp) (by simp)
  loseMedia s := .freeSlots rfl (List.nil_sublist _)
  completion d x ok page s _ :=
    .trans (.freeSlots (by rfl) (by exact List.filter_sublist)) (.of_jobsFrom (.ownerTakes _ _ _ _ _ _) (by simp))
  error o e s _ := .trans (.of_same (by rfl) (by rfl)) (.of_jobsFrom (.ownerTakes _ _ _ _ _ _) (by simp))
  startJob b x s hb hx := .startJob hb hx
  dataWaits s := .of_jobsFrom (.dataWaits s) rfl
  issue d r s hd _ := .issue hd
  cipherTake s := .of_jobsFrom (.cipherTake s) (by simp)
  grant s := .of_jobsFrom (.grant s) (by simp)
  cipherEnd s := .of_jobsFrom (.cipherEnd s) (by simp)
  takeSector t i j sector s _ := .of_jobsFrom (.takeSector i j sector s) (by simp)
  admitRequest k t r s _ := .of_same (by simp) (by simp)

end Sys2Proof.Machine


/-! PROOF. The request list and its owners (O10): what each operation does to the operations asked for, issued and completed
ERROR, and that each is in keeping with its owner. -/

namespace Sys2Proof.Machine

open Sys2Proof

/-! ## Owners of operations -/

theorem State.mem_opOwners {s : State} {o : Owner} : o ∈ s.opOwners ↔ o ≠ .nobody ∧
    ((∃ r ∈ s.dli.requests, r.owner = o) ∨ (∃ z ∈ s.dli.slots, z.owner = o) ∨ ∃ e ∈ s.dli.errors, e.owner = o) := by
  simp only [State.opOwners, List.mem_filter, List.mem_append, List.mem_map, bne_iff_ne, ne_eq, or_assoc, and_comm (b := ¬ o = _)]

theorem State.opOwners_congr {s t : State} (hr : t.dli.requests = s.dli.requests) (hs : t.dli.slots = s.dli.slots)
    (he : t.dli.errors = s.dli.errors) : t.opOwners = s.opOwners := by
  simp [State.opOwners, hr, hs, he]

theorem State.syncIssued_congr {s t : State} (hs : t.dli.slots = s.dli.slots) (he : t.dli.errors = s.dli.errors)
    (f : Fin 16) : t.syncIssued f = s.syncIssued f := by
  simp [State.syncIssued, hs, he]

/-- Fewer operations have fewer owners. -/
theorem State.opOwners_sublist {s t : State} (hr : t.dli.requests.Sublist s.dli.requests)
    (hs : t.dli.slots.Sublist s.dli.slots) (he : t.dli.errors.Sublist s.dli.errors) : t.opOwners.Sublist s.opOwners :=
  (((hr.map _).append (hs.map _)).append (he.map _)).filter _

/-- A FLUSH whose SYNC waits to be issued, or was completed ERROR before it was, has none issued: an owner has one
operation at most (R66). -/
theorem State.syncIssued_of_waits {s : State} (h : s.opOwners.Nodup) {f : Fin 16}
    (hwaits : (∃ r ∈ s.dli.requests, r.owner = .flush f) ∨ ∃ e ∈ s.dli.errors, e.owner = .flush f ∧ e.issued = false) :
    s.syncIssued f = false := by
  simp only [State.opOwners, List.filter_append, List.filter_map, List.nodup_append, List.mem_append, List.mem_map,
    List.mem_filter, Function.comp_apply, bne_iff_ne] at h
  obtain ⟨⟨-, -, hrs⟩, herrors, hse⟩ := h
  simp only [State.syncIssued, Bool.or_eq_false_iff, List.any_eq_false, beq_iff_eq, Bool.and_eq_true, not_and]
  rcases hwaits with ⟨r, hr, ho⟩ | ⟨e, he, ho, hissued⟩
  · refine ⟨fun z hz hzo => ?_, fun e he heo _ => ?_⟩
    · exact hrs _ ⟨r, ⟨hr, by simp [ho]⟩, ho⟩ _ ⟨z, ⟨hz, by simp [hzo]⟩, hzo⟩ rfl
    · exact hse _ (.inl ⟨r, ⟨hr, by simp [ho]⟩, ho⟩) _ ⟨e, ⟨he, by simp [heo]⟩, heo⟩ rfl
  · refine ⟨fun z hz hzo => ?_, fun e' he' heo hissued' => ?_⟩
    · exact hse _ (.inr ⟨z, ⟨hz, by simp [hzo]⟩, hzo⟩) _ ⟨e, ⟨he, by simp [ho]⟩, ho⟩ rfl
    · have hsame := List.inj_on_of_nodup_map herrors (List.mem_filter.2 ⟨he, by simp [ho]⟩)
        (List.mem_filter.2 ⟨he', by simp [heo]⟩) (ho.trans heo.symm)
      rw [hsame] at hissued
      exact absurd hissued' (by simp [hissued])

/-- Without a SYNC issued, a FLUSH that owns an operation waits for it. -/
theorem State.waits_of_opOwners {s : State} {f : Fin 16} (h : .flush f ∈ s.opOwners) (hissued : s.syncIssued f = false) :
    (∃ r ∈ s.dli.requests, r.owner = .flush f) ∨ ∃ e ∈ s.dli.errors, e.owner = .flush f ∧ e.issued = false := by
  simp only [State.syncIssued, Bool.or_eq_false_iff, List.any_eq_false, beq_iff_eq, Bool.and_eq_true, not_and,
    Bool.not_eq_true] at hissued
  obtain ⟨hslots, herrors⟩ := hissued
  rcases (State.mem_opOwners.1 h).2 with hr | ⟨z, hz, ho⟩ | ⟨e, he, ho⟩
  · exact .inl hr
  · exact absurd ho (hslots z hz)
  · exact .inr ⟨e, he, ho, herrors e he ho⟩

/-! ## Jobs found by their buffer -/

theorem updJob_job? {b : Fin 8} {f : Job → Job} (hf : ∀ j, (f j).buf = j.buf) (s : State) :
    (updJob b f s).job? b = (s.job? b).map f := by
  have hfind : ((fun j : Job => j.buf == b) ∘ fun j => if j.buf = b then f j else j) = fun j => j.buf == b := by
    funext j
    by_cases hj : j.buf = b <;> simp [hj, hf]
  unfold State.job?
  rw [updJob_jobs, List.find?_map, hfind]
  cases hj : s.ubp.jobs.find? (fun j => j.buf == b) with
  | none => rfl
  | some j =>
    have hbuf : j.buf = b := by simpa using List.find?_some hj
    simp [hbuf]

theorem updJob_job?_of_ne {b c : Fin 8} (h : c ≠ b) {f : Job → Job} (hf : ∀ j, (f j).buf = j.buf) (s : State) :
    (updJob b f s).job? c = s.job? c := by
  have hfind : ((fun j : Job => j.buf == c) ∘ fun j => if j.buf = b then f j else j) = fun j => j.buf == c := by
    funext j
    by_cases hj : j.buf = b <;> simp [hj, hf]
  unfold State.job?
  rw [updJob_jobs, List.find?_map, hfind]
  cases hj : s.ubp.jobs.find? (fun j => j.buf == c) with
  | none => rfl
  | some j =>
    have hbuf : j.buf = c := by simpa using List.find?_some hj
    simp [hbuf, h]

theorem dropJob_job?_of_ne {b c : Fin 8} (h : c ≠ b) (s : State) : (dropJob b s).job? c = s.job? c := by
  unfold State.job?
  rw [dropJob_jobs, List.find?_filter]
  congr 1
  funext j
  by_cases hj : j.buf = c <;> simp [hj, h]

/-- A job kept by a filter on the jobs, or changed in its buffer, is found in it as it now stands. -/
theorem job?_of_filterMap {s t : State} {f : Job → Option Job} {b : Fin 8} {j k : Job} (ht : t.ubp.jobs = s.ubp.jobs.filterMap f)
    (hb : t.BuffersOk) (hj : s.job? b = some j) (hk : f j = some k) (hbuf : k.buf = j.buf) : t.job? b = some k := by
  have hmem : k ∈ t.ubp.jobs := by
    rw [ht]
    exact List.mem_filterMap.2 ⟨j, State.mem_of_job? hj, hk⟩
  rw [← State.buf_of_job? hj, ← hbuf]
  exact State.job?_of_mem hb hmem

/-! ## Keeping the request list -/

/-- What the request list asks of a FLUSH whose SYNC is asked for, issued or completed ERROR (R23, R76, R77). -/
def Txn.Syncs (x : Txn) (issued : Bool) : Prop :=
  x.kind = .flush ∧ x.phase ≠ .done ∧ (issued = false → x.phase = .active) ∧ ∀ b, x.marks b = false

/-- The job `k` is, for its page operation, as `j` (R52). -/
def Job.SameOp (j k : Job) : Prop := k.unit = j.unit ∧ k.state = j.state ∧ k.pageOp = j.pageOp

theorem Job.SameOp.refl (j : Job) : j.SameOp j := ⟨rfl, rfl, rfl⟩

/-- Operations that are left of a list in keeping with its owners are in keeping with theirs, where these have changed in
nothing that the list rests on. -/
theorem State.RequestsOk.mono {s t : State} (h : s.RequestsOk) (howners : t.opOwners.Sublist s.opOwners)
    (hreq : ∀ r ∈ t.dli.requests, r ∈ s.dli.requests) (hslots : ∀ z ∈ t.dli.slots, z.owner = .nobody ∨ z ∈ s.dli.slots)
    (herr : ∀ e ∈ t.dli.errors, e ∈ s.dli.errors)
    (hjobs : ∀ b, .job b ∈ t.opOwners → ∀ j, s.job? b = some j → ∃ k, t.job? b = some k ∧ j.SameOp k)
    (hsyncs : ∀ f, .flush f ∈ t.opOwners → ∀ x, s.txn? f = some x → x.Syncs (t.syncIssued f) →
      ∃ y, t.txn? f = some y ∧ y.Syncs (t.syncIssued f))
    (hsweep : .sweep ∈ t.opOwners → s.swu.discardOut = true → t.swu.discardOut = true)
    (hflushes : ∀ y ∈ t.txns, y.kind = .flush → y.transfer = none)
    (hsending : ∀ f, t.uli.output = .complete f → ∃ x, t.txn? f = some x ∧ x.phase = .done) : t.RequestsOk where
  owners := h.owners.sublist howners
  named r hr := h.named r (hreq r hr)
  jobRequests r hr b hb := by
    obtain ⟨j, hj, hop, hwork⟩ := h.jobRequests r (hreq r hr) b hb
    obtain ⟨k, hk, hunit, hstate, hpage⟩ := hjobs b (mem_opOwners.2 ⟨by simp, .inl ⟨r, hr, hb⟩⟩) j hj
    exact ⟨k, hk, hpage.trans hop, by rwa [hunit, hstate]⟩
  jobSlots z hz b hb := by
    have hz' : z ∈ s.dli.slots := (hslots z hz).resolve_left (by simp [hb])
    obtain ⟨j, hj, hop, hwork⟩ := h.jobSlots z hz' b hb
    obtain ⟨k, hk, hunit, hstate, hpage⟩ := hjobs b (mem_opOwners.2 ⟨by simp, .inr (.inl ⟨z, hz, hb⟩)⟩) j hj
    exact ⟨k, hk, hpage.trans hop, by rwa [hunit, hstate]⟩
  jobErrors e he b hb := by
    obtain ⟨j, hj, hwork⟩ := h.jobErrors e (herr e he) b hb
    obtain ⟨k, hk, hunit, hstate, -⟩ := hjobs b (mem_opOwners.2 ⟨by simp, .inr (.inr ⟨e, he, hb⟩)⟩) j hj
    exact ⟨k, hk, by rwa [hunit, hstate]⟩
  syncs f hf := by
    obtain ⟨x, hx, hkind, hphase, hactive, hmarks⟩ := h.syncs f (howners.subset hf)
    have hissued (ht : t.syncIssued f = false) : s.syncIssued f = false := by
      refine State.syncIssued_of_waits h.owners ?_
      rcases State.waits_of_opOwners hf ht with ⟨r, hr, ho⟩ | ⟨e, he, ho⟩
      · exact .inl ⟨r, hreq r hr, ho⟩
      · exact .inr ⟨e, herr e he, ho⟩
    obtain ⟨y, hy, hsync⟩ := hsyncs f hf x hx ⟨hkind, hphase, fun ht => hactive (hissued ht), hmarks⟩
    exact ⟨y, hy, hsync⟩
  sweep hs := hsweep hs (h.sweep (howners.subset hs))
  flushes := hflushes
  sending := hsending

/-- The output names as done a record that stands done in the table, or falls free. -/
theorem sending_of_output {s t : State} (hs : ∀ f, s.uli.output = .complete f → ∃ x, s.txn? f = some x ∧ x.phase = .done)
    (hdone : ∀ f x, s.txn? f = some x → x.phase = .done → ∃ y, t.txn? f = some y ∧ y.phase = .done)
    (houtput : t.uli.output = s.uli.output ∨ t.uli.output = .free) :
    ∀ f, t.uli.output = .complete f → ∃ x, t.txn? f = some x ∧ x.phase = .done := by
  intro f hf
  rcases houtput with h | h
  · obtain ⟨x, hx, hphase⟩ := hs f (h ▸ hf)
    exact hdone f x hx hphase
  · rw [h] at hf
    cases hf

theorem State.txn?_congr {s t : State} (h : t.txns = s.txns) (f : Fin 16) : t.txn? f = s.txn? f := by
  simp [State.txn?, h]

theorem State.job?_congr {s t : State} (h : t.ubp.jobs = s.ubp.jobs) (b : Fin 8) : t.job? b = s.job? b := by
  simp [State.job?, h]

/-- Where neither the table nor the link changes, the jobs with an operation staying as they are for it, the list stays in
keeping with its owners. -/
theorem State.RequestsOk.of_jobs {s t : State} (h : s.RequestsOk) (htxns : t.txns = s.txns)
    (hreq : t.dli.requests = s.dli.requests) (hslots : t.dli.slots = s.dli.slots) (herr : t.dli.errors = s.dli.errors)
    (hsweep : t.swu.discardOut = s.swu.discardOut) (houtput : t.uli.output = s.uli.output ∨ t.uli.output = .free)
    (hjobs : ∀ b, .job b ∈ s.opOwners → ∀ j, s.job? b = some j → ∃ k, t.job? b = some k ∧ j.SameOp k) : t.RequestsOk := by
  have howners := State.opOwners_congr hreq hslots herr
  refine h.mono (howners ▸ .refl _) (by simp [hreq]) (by simp +contextual [hslots]) (by simp [herr])
    (fun b hb => hjobs b (howners ▸ hb)) (fun f _ x hx hsync => ⟨x, (State.txn?_congr htxns f).trans hx, hsync⟩)
    (fun _ => by rw [hsweep]; exact id) (by simpa [htxns] using h.flushes)
    (sending_of_output h.sending (fun f x hx hdone => ⟨x, (State.txn?_congr htxns f).trans hx, hdone⟩) houtput)

/-- Where the link and the jobs stay and the records change in nothing that the list rests on, it stays in keeping. -/
theorem State.RequestsOk.of_txns {s t : State} (h : s.RequestsOk) (hjobs : t.ubp.jobs = s.ubp.jobs)
    (hreq : t.dli.requests = s.dli.requests) (hslots : t.dli.slots = s.dli.slots) (herr : t.dli.errors = s.dli.errors)
    (hsweep : t.swu.discardOut = s.swu.discardOut) (houtput : t.uli.output = s.uli.output ∨ t.uli.output = .free)
    (htxns : ∀ f x, s.txn? f = some x → ∃ y, t.txn? f = some y ∧ (x.phase = .done → y.phase = .done) ∧
      (.flush f ∈ s.opOwners → x.Syncs (s.syncIssued f) → y.Syncs (s.syncIssued f)))
    (hflushes : ∀ y ∈ t.txns, y.kind = .flush → y.transfer = none) : t.RequestsOk := by
  have howners := State.opOwners_congr hreq hslots herr
  refine h.mono (howners ▸ .refl _) (by simp [hreq]) (by simp +contextual [hslots]) (by simp [herr])
    (fun b _ j hj => ⟨j, (State.job?_congr hjobs b).trans hj, .refl j⟩) (fun f hf x hx hsync => ?_)
    (fun _ => by rw [hsweep]; exact id) hflushes
    (sending_of_output h.sending (fun f x hx hdone => ?_) houtput)
  · obtain ⟨y, hy, -, hsync'⟩ := htxns f x hx
    rw [State.syncIssued_congr hslots herr] at hsync ⊢
    exact ⟨y, hy, hsync' (howners ▸ hf) hsync⟩
  · obtain ⟨y, hy, hdone', -⟩ := htxns f x hx
    exact ⟨y, hy, hdone' hdone⟩

/-- A job with an operation reads or writes its page (R52). -/
theorem State.RequestsOk.job_works {s : State} (h : s.RequestsOk) {b : Fin 8} (hb : .job b ∈ s.opOwners) :
    ∃ j, s.job? b = some j ∧ (j.state = .mediaRead ∨ j.state = .mediaWrite) := by
  rcases (State.mem_opOwners.1 hb).2 with ⟨r, hr, ho⟩ | ⟨z, hz, ho⟩ | ⟨e, he, ho⟩
  · obtain ⟨j, hj, -, hwork⟩ := h.jobRequests r hr b ho
    exact ⟨j, hj, hwork.imp And.left And.left⟩
  · obtain ⟨j, hj, -, hwork⟩ := h.jobSlots z hz b ho
    exact ⟨j, hj, hwork.imp And.left And.left⟩
  · obtain ⟨j, hj, hwork⟩ := h.jobErrors e he b ho
    exact ⟨j, hj, hwork.imp And.left And.left⟩

/-- A job in another state has no operation. -/
theorem State.RequestsOk.job_free {s : State} (h : s.RequestsOk) {b : Fin 8} {j : Job} (hj : s.job? b = some j)
    (hread : j.state ≠ .mediaRead) (hwrite : j.state ≠ .mediaWrite) : .job b ∉ s.opOwners := by
  intro hb
  obtain ⟨k, hk, hwork⟩ := h.job_works hb
  cases hj.symm.trans hk
  rcases hwork with hstate | hstate
  · exact hread hstate
  · exact hwrite hstate

/-- A free buffer has no operation. -/
theorem State.RequestsOk.buffer_free {s : State} (h : s.RequestsOk) {b : Fin 8} (hb : ∀ j ∈ s.ubp.jobs, j.buf ≠ b) :
    .job b ∉ s.opOwners := by
  intro howner
  obtain ⟨k, hk, -⟩ := h.job_works howner
  exact hb k (State.mem_of_job? hk) (State.buf_of_job? hk)

/-- The change of a job without an operation keeps the list. -/
theorem State.RequestsOk.updJob {s : State} (h : s.RequestsOk) {b : Fin 8} {f : Job → Job} (hf : ∀ j, (f j).buf = j.buf)
    (hb : .job b ∉ s.opOwners) : (updJob b f s).RequestsOk :=
  h.of_jobs rfl rfl rfl rfl rfl (.inl rfl) fun c hc j hj => by
    have hne : c ≠ b := by
      rintro rfl
      exact hb hc
    exact ⟨j, (updJob_job?_of_ne hne hf s).trans hj, .refl j⟩

/-- The end of a job without an operation keeps the list. -/
theorem State.RequestsOk.dropJob {s : State} (h : s.RequestsOk) {b : Fin 8} (hb : .job b ∉ s.opOwners) :
    (dropJob b s).RequestsOk :=
  h.of_jobs rfl rfl rfl rfl rfl (.inl rfl) fun c hc j hj => by
    have hne : c ≠ b := by
      rintro rfl
      exact hb hc
    exact ⟨j, (dropJob_job?_of_ne hne s).trans hj, .refl j⟩

/-- A change of one record that keeps its kind, its transfer count and its mark, and its phase where its SYNC is asked for,
keeps the list. -/
theorem State.RequestsOk.updTxn {s : State} (h : s.RequestsOk) {tag : Fin 16} {f : Txn → Txn} (htag : ∀ x, (f x).tag = x.tag)
    (hsame : ∀ x, (f x).kind = x.kind ∧ (f x).transfer = x.transfer ∧ (f x).flushMark = x.flushMark)
    (hdone : ∀ x, s.txn? tag = some x → x.phase = .done → (f x).phase = .done)
    (hphase : .flush tag ∈ s.opOwners → ∀ x, s.txn? tag = some x → x.Syncs (s.syncIssued tag) → (f x).phase = x.phase) :
    (updTxn tag f s).RequestsOk := by
  refine h.of_txns rfl rfl rfl rfl rfl (.inl rfl) (fun g x hx => ?_) fun y hy hkind => ?_
  · by_cases hg : g = tag
    · subst hg
      refine ⟨f x, by rw [updTxn_txn? g htag, hx]; rfl, hdone x hx, fun howner hsync => ?_⟩
      have hphase := hphase howner x hx hsync
      obtain ⟨hkind, -, hmark⟩ := hsame x
      simpa only [Txn.Syncs, Txn.marks, hkind, hmark, hphase] using hsync
    · exact ⟨x, (updTxn_txn?_of_ne hg htag s).trans hx, id, fun _ => id⟩
  · obtain ⟨x, hx, rfl⟩ := List.mem_map.1 hy
    split at hkind
    next htag' =>
      rw [if_pos htag']
      obtain ⟨hkind', htransfer, -⟩ := hsame x
      exact htransfer.trans (h.flushes x hx (hkind' ▸ hkind))
    next htag' =>
      rw [if_neg htag']
      exact h.flushes x hx hkind

/-! ## An operation asked for (R66) -/

/-- An operation asked for adds its owner, whether it is placed or completed ERROR at once. -/
theorem makeRequest_opOwners (op : DOp) {o : Owner} (ho : o ≠ .nobody) (s : State) :
    (makeRequest op o s).opOwners.Perm (o :: s.opOwners) := by
  have hp : (o != .nobody) = true := by simpa using ho
  unfold State.opOwners
  rw [makeRequest_dli]
  split
  · simp only [List.map_append, List.map_cons, List.map_nil, List.append_assoc, List.cons_append, List.nil_append]
    exact (List.perm_middle.filter _).trans (.of_eq (List.filter_cons_of_pos hp))
  · simp only [List.map_append, List.map_cons, List.map_nil, ← List.append_assoc]
    exact ((List.perm_append_singleton _ _).filter _).trans (.of_eq (List.filter_cons_of_pos hp))

/-- An operation that its owner asks for, having none, keeps the list. -/
theorem State.RequestsOk.ask {s : State} (h : s.RequestsOk) {op : DOp} {o : Owner} (ho : o ≠ .nobody) (hfresh : o ∉ s.opOwners)
    (hjob : ∀ b, o = .job b → ∃ j, s.job? b = some j ∧ j.pageOp = .requested ∧
      ((j.state = .mediaRead ∧ op = .pageRead j.unit) ∨ (j.state = .mediaWrite ∧ op = .pageWrite j.unit)))
    (hsync : ∀ f, o = .flush f → ∃ x, s.txn? f = some x ∧ x.kind = .flush ∧ x.phase = .active ∧ ∀ b, x.marks b = false)
    (hsweep : o = .sweep → s.swu.discardOut = true) : (makeRequest op o s).RequestsOk := by
  have hperm := makeRequest_opOwners op ho s
  have hdli := makeRequest_dli op o s
  have hjobs (b : Fin 8) : (makeRequest op o s).job? b = s.job? b := State.job?_congr (by simp) b
  have htxns (f : Fin 16) : (makeRequest op o s).txn? f = s.txn? f := State.txn?_congr (by simp) f
  have hissued (f : Fin 16) (hf : (makeRequest op o s).syncIssued f = false) : s.syncIssued f = false := by
    unfold State.syncIssued at hf ⊢
    rw [hdli] at hf
    split at hf
    · exact hf
    · simpa using hf
  refine ⟨hperm.nodup_iff.2 (List.nodup_cons.2 ⟨hfresh, h.owners⟩), fun r hr => ?_, fun r hr b hb => ?_,
    fun z hz b hb => ?_, fun e he b hb => ?_, fun f hf => ?_, fun hs => ?_, ?_, fun f hf => ?_⟩
  · rw [hdli] at hr
    split at hr
    · rcases List.mem_append.1 hr with hr | hr
      · exact h.named r hr
      · rw [List.mem_singleton.1 hr]
        exact ho
    · exact h.named r hr
  · rw [hjobs]
    rw [hdli] at hr
    split at hr
    · rcases List.mem_append.1 hr with hr | hr
      · exact h.jobRequests r hr b hb
      · rw [List.mem_singleton.1 hr] at hb ⊢
        exact hjob b hb
    · exact h.jobRequests r hr b hb
  · rw [hjobs]
    rw [makeRequest_slots] at hz
    exact h.jobSlots z hz b hb
  · rw [hjobs]
    rw [hdli] at he
    split at he
    · exact h.jobErrors e he b hb
    · rcases List.mem_append.1 he with he | he
      · exact h.jobErrors e he b hb
      · rw [List.mem_singleton.1 he] at hb ⊢
        obtain ⟨j, hj, -, hwork⟩ := hjob b hb
        exact ⟨j, hj, hwork⟩
  · rw [htxns]
    rcases List.mem_cons.1 (hperm.mem_iff.1 hf) with hf | hf
    · obtain ⟨x, hx, hkind, hactive, hmarks⟩ := hsync f hf.symm
      exact ⟨x, hx, hkind, by simp [hactive], fun _ => hactive, hmarks⟩
    · obtain ⟨x, hx, hkind, hphase, hactive, hmarks⟩ := h.syncs f hf
      exact ⟨x, hx, hkind, hphase, fun hi => hactive (hissued f hi), hmarks⟩
  · simp only [makeRequest_frame]
    rcases List.mem_cons.1 (hperm.mem_iff.1 hs) with hs | hs
    · exact hsweep hs.symm
    · exact h.sweep hs
  · simpa using h.flushes
  · rw [htxns]
    exact h.sending f (by simpa using hf)

end Sys2Proof.Machine


/-! PROOF. The request list through every command (O10): each elementary change keeps it in keeping with its owners. -/

namespace Sys2Proof.Machine

open Sys2Proof

/-! ## A failure and the link (R24, R60, R77) -/

/-- The buffers of the jobs that end at a failure of the transaction (R60). -/
def State.endingBuffers (s : State) (t : Fin 16) : List (Fin 8) :=
  ((s.ubp.jobs.filter (fun j => j.isOf t)).filter (fun j => j.atFailure.isNone)).map (fun j => j.buf)

theorem State.mem_endingBuffers {s : State} {t : Fin 16} {b : Fin 8} :
    b ∈ s.endingBuffers t ↔ ∃ j ∈ s.ubp.jobs, j.isOf t = true ∧ j.atFailure = none ∧ j.buf = b := by
  simp [State.endingBuffers, and_assoc, and_left_comm]

/-- What a failure withdraws from the link: the SYNC of a FLUSH that is not issued, or the requests of the jobs ended. -/
theorem failTxn_dli {t : Fin 16} {s : State} {x : Txn} (hx : s.txn? t = some x) (hactive : x.phase = .active)
    (hfresh : x.failure = none) (f : Failure) : (failTxn t f s).dli =
      if x.kind = .flush then (withdrawSync t s).dli
      else if x.isUserTransfer then (withdrawJobs (s.endingBuffers t) s).dli else s.dli := by
  have hdli : (failTxn t f s).dli =
      (disposeWork x (updTxn t (fun y => { y with failure := some f, flushMark := none }) s)).dli := by
    rw [failTxn_of_active hx hactive hfresh]
    split <;> simp
  rw [hdli, ← State.tag_of_txn? hx]
  unfold disposeWork
  split
  · rfl
  · split <;> simp [disposeJobs, releaseHeld, withdrawJobs, State.endingBuffers, closeIntake]

theorem disposeWork_output (x : Txn) (s : State) :
    (disposeWork x s).uli.output = s.uli.output ∨ (disposeWork x s).uli.output = .free := by
  unfold disposeWork
  split
  · exact .inl rfl
  · split
    · rw [withdrawWanted_output]
      split
      · exact .inr rfl
      · exact .inl (by simp [closeIntake])
    · exact .inl rfl

theorem failTxn_output (t : Fin 16) (f : Failure) (s : State) :
    (failTxn t f s).uli.output = s.uli.output ∨ (failTxn t f s).uli.output = .free := by
  unfold failTxn
  split
  · exact .inl rfl
  · dsimp only
    split
    · exact .inl rfl
    · split <;> simpa using disposeWork_output _ (updTxn t _ s)

/-- A failure leaves every record of another tag. -/
theorem failTxn_txn?_of_ne {t u : Fin 16} (h : u ≠ t) (f : Failure) (s : State) : (failTxn t f s).txn? u = s.txn? u := by
  obtain ⟨g, hg, htable, -⟩ := failTxn_txns t f s
  rw [State.txn?_congr htable, updTxn_txn?_of_ne h hg]

/-- A failure leaves the owners of operations that it does not withdraw. -/
theorem failTxn_lists (t : Fin 16) (f : Failure) (s : State) :
    (failTxn t f s).dli.requests.Sublist s.dli.requests ∧ (failTxn t f s).dli.errors.Sublist s.dli.errors := by
  by_cases h : ∃ x, s.txn? t = some x ∧ x.phase = .active ∧ x.failure = none
  · obtain ⟨x, hx, hactive, hfresh⟩ := h
    rw [failTxn_dli hx hactive hfresh]
    split
    · exact ⟨List.filter_sublist, List.filter_sublist⟩
    · split
      · exact ⟨List.filter_sublist, List.filter_sublist⟩
      · exact ⟨.refl _, .refl _⟩
  · rw [failTxn_of_inactive fun x hx => ?_]
    · exact ⟨.refl _, .refl _⟩
    · by_contra hne
      exact h ⟨x, hx, by simpa [not_or] using hne⟩

/-- A job with an operation left after the failure stays, as it was for the operation (R60). -/
theorem failTxn_job {s : State} (h : s.RequestsOk) (hb : s.BuffersOk) {t : Fin 16} {f : Failure} {b : Fin 8}
    (howner : .job b ∈ (failTxn t f s).opOwners) {j : Job} (hj : s.job? b = some j) :
    ∃ k, (failTxn t f s).job? b = some k ∧ j.SameOp k := by
  rcases failTxn_jobs t f s with hjobs | ⟨x, hx, huser, hactive, hfresh, hjobs⟩
  · exact ⟨j, (State.job?_congr hjobs b).trans hj, .refl j⟩
  have hnotFlush : x.kind ≠ .flush := by
    rcases (x.isUserTransfer_iff.1 huser).1 with hk | hk <;> simp [hk]
  have hdli := failTxn_dli hx hactive hfresh f
  rw [if_neg hnotFlush, if_pos huser] at hdli
  have hstays : j.isOf t = true → j.atFailure ≠ none := by
    intro hof hnone
    have hending : b ∈ s.endingBuffers t :=
      State.mem_endingBuffers.2 ⟨j, State.mem_of_job? hj, hof, hnone, State.buf_of_job? hj⟩
    rcases (State.mem_opOwners.1 howner).2 with ⟨r, hr, ho⟩ | ⟨z, hz, ho⟩ | ⟨e, he, ho⟩
    · rw [hdli] at hr
      simpa [withdrawJobs, ownerIn, ho, hending] using (List.mem_filter.1 hr).2
    · rw [failTxn_slots] at hz
      obtain ⟨k, hk, hop, hwork⟩ := h.jobSlots z hz b ho
      cases hj.symm.trans hk
      rcases hwork with ⟨hstate, -⟩ | ⟨hstate, -⟩ <;> simp [Job.atFailure, hstate, hop] at hnone
    · rw [hdli] at he
      simpa [withdrawJobs, ownerIn, ho, hending] using (List.mem_filter.1 he).2
  obtain ⟨k, hk, hbuf, hsame⟩ : ∃ k, (if j.isOf t then j.atFailure else some j) = some k ∧ k.buf = j.buf ∧ j.SameOp k := by
    split
    next hof =>
      obtain ⟨k, hk⟩ := Option.ne_none_iff_exists'.1 (hstays hof)
      obtain ⟨hbuf, -, hunit, hstate, hop, -⟩ := Job.atFailure_fields hk
      exact ⟨k, hk, hbuf, hunit, hstate, hop⟩
    next => exact ⟨j, rfl, rfl, .refl j⟩
  exact ⟨k, job?_of_filterMap hjobs ((JobsFrom.failTxn t f s).buffers hb) hj hk hbuf, hsame⟩

theorem State.RequestsOk.failTxn {s : State} (h : s.RequestsOk) (hb : s.BuffersOk) (t : Fin 16) (f : Failure) :
    (failTxn t f s).RequestsOk := by
  by_cases hx : ∃ x, s.txn? t = some x ∧ x.phase = .active ∧ x.failure = none
  case neg =>
    rwa [failTxn_of_inactive fun x hxt => ?_]
    by_contra hne
    exact hx ⟨x, hxt, by simpa [not_or] using hne⟩
  obtain ⟨x, hx, hactive, hfresh⟩ := hx
  obtain ⟨hrequests, herrors⟩ := failTxn_lists t f s
  have hfailed := failTxn_txn? hx hactive hfresh f
  refine h.mono (State.opOwners_sublist hrequests (by simp) herrors) (fun r hr => hrequests.subset hr) (by simp +contextual)
    (fun e he => herrors.subset he) (fun b hjb j hj => failTxn_job h hb hjb hj) (fun g hg y hy hsync => ?_)
    (fun _ => by simp) (fun y hy hkind => ?_)
    (sending_of_output h.sending (fun g y hy hdone => ?_) (failTxn_output t f s))
  · by_cases hgt : g = t
    · subst hgt
      cases hx.symm.trans hy
      obtain ⟨hkind, -, -, -⟩ := hsync
      have hdli := failTxn_dli hx hactive hfresh f
      rw [if_pos hkind] at hdli
      have hissued : (Machine.failTxn g f s).syncIssued g = true := by
        by_contra hnot
        rcases State.waits_of_opOwners hg (by simpa using hnot) with ⟨r, hr, ho⟩ | ⟨e, he, ho, hi⟩
        · rw [hdli] at hr
          simpa [withdrawSync, ho] using (List.mem_filter.1 hr).2
        · rw [hdli] at he
          simpa [withdrawSync, ho, hi] using (List.mem_filter.1 he).2
      have hwaits : s.stillWaits g = true := by
        have : s.syncIssued g = true := by
          rw [← hissued]
          simp only [State.syncIssued, hdli, withdrawSync, State.setDli_fields, List.any_filter]
          congr 2
          funext e
          by_cases he : e.owner = .flush g <;> simp [he]
        simp [State.stillWaits, this]
      exact ⟨_, hfailed, hkind, by simp [Txn.failed, hwaits], by simp [hissued], by simp [Txn.failed, Txn.marks]⟩
    · exact ⟨y, (failTxn_txn?_of_ne hgt f s).trans hy, hsync⟩
  · rw [failTxn_table hx hactive hfresh] at hy
    obtain ⟨z, hz, rfl⟩ := List.mem_map.1 hy
    split at hkind
    next ht =>
      rw [if_pos ht]
      exact h.flushes z hz hkind
    next ht =>
      rw [if_neg ht]
      exact h.flushes z hz hkind
  · by_cases hgt : g = t
    · subst hgt
      cases hx.symm.trans hy
      exact absurd hdone (by simp [hactive])
    · exact ⟨y, (failTxn_txn?_of_ne hgt f s).trans hy, hdone⟩

/-! ## Records and jobs -/

theorem State.RequestsOk.setDone {s : State} (h : s.RequestsOk) {t : Fin 16} (hfree : .flush t ∉ s.opOwners) :
    (setDone t s).RequestsOk :=
  h.updTxn (fun _ => rfl) (fun _ => ⟨rfl, rfl, rfl⟩) (fun _ _ _ => rfl) fun howner => absurd howner hfree

theorem State.RequestsOk.progress {s : State} (h : s.RequestsOk) (t : Fin 16) : (progress t s).RequestsOk := by
  unfold Machine.progress
  split
  · exact h
  next x hx =>
    have hsync (howner : .flush t ∈ s.opOwners) : x.Syncs (s.syncIssued t) := by
      obtain ⟨y, hy, hsync⟩ := h.syncs t howner
      cases hx.symm.trans hy
      exact hsync
    split
    next hphase =>
      split
      next hall =>
        refine h.setDone fun howner => ?_
        obtain ⟨hkind, -⟩ := hsync howner
        simp [h.flushes x (State.mem_of_txn? hx) hkind] at hall
      next => exact h
    next hphase =>
      split
      next => exact h
      next hwaits =>
        refine h.setDone fun howner => ?_
        obtain ⟨-, -, hactive, -⟩ := hsync howner
        have hissued : s.syncIssued t = false := by
          simp only [State.stillWaits, Bool.or_eq_true, not_or, Bool.not_eq_true] at hwaits
          exact hwaits.1.1.2
        simp [hactive hissued] at hphase
    · exact h

theorem State.RequestsOk.addDone {s : State} (h : s.RequestsOk) (t : Fin 16) (k : Nat) : (addDone t k s).RequestsOk :=
  h.updTxn (fun _ => rfl) (fun _ => ⟨rfl, rfl, rfl⟩) (fun _ _ => id) fun _ _ _ _ => rfl

theorem State.RequestsOk.releaseHeld {s : State} (h : s.RequestsOk) (t : Fin 16) (n : Nat) : (releaseHeld t n s).RequestsOk :=
  h.updTxn (fun _ => rfl) (fun _ => ⟨rfl, rfl, rfl⟩) (fun _ _ => id) fun _ _ _ _ => rfl

theorem State.RequestsOk.endJob {s : State} (h : s.RequestsOk) {j : Job} (hfree : .job j.buf ∉ s.opOwners) :
    (endJob j s).RequestsOk := by
  unfold Machine.endJob
  split
  · exact h.dropJob hfree
  · exact (h.dropJob hfree).releaseHeld _ _

theorem endJob_opOwners (j : Job) (s : State) : (endJob j s).opOwners = s.opOwners :=
  State.opOwners_congr (by simp) (by simp) (by simp)

theorem State.RequestsOk.stopCipher {s : State} (h : s.RequestsOk) (hb : s.BuffersOk) : (stopCipher s).RequestsOk := by
  have hfree : ∀ j ∈ s.ubp.jobs.filter (fun j => j.ciphering), .job j.buf ∉ s.opOwners := by
    intro j hj
    obtain ⟨hmem, hcipher⟩ := List.mem_filter.1 hj
    refine h.job_free (State.job?_of_mem hb hmem) ?_ ?_ <;> intro hstate <;> simp [Job.ciphering, hstate] at hcipher
  unfold Machine.stopCipher
  generalize s.ubp.jobs.filter (fun j => j.ciphering) = l at hfree
  induction l generalizing s with
  | nil => exact h
  | cons j l ih =>
    refine ih (h.endJob (hfree j (by simp))) ((JobsFrom.endJob j s).buffers hb) fun k hk => ?_
    rw [endJob_opOwners]
    exact hfree k (by simp [hk])

/-! ## Flush marks (R75, R76) -/

/-- A FLUSH with no operation asks for its SYNC once its mark is empty. -/
theorem State.RequestsOk.syncIfUnmarked {s : State} (h : s.RequestsOk) {t : Fin 16} (hfree : .flush t ∉ s.opOwners) :
    (syncIfUnmarked t s).RequestsOk := by
  unfold Machine.syncIfUnmarked
  split
  next x hx =>
    split
    next hsync =>
      obtain ⟨hkind, hactive, hmark⟩ := hsync
      refine h.ask (by simp) hfree (by simp) (fun f hf => ?_) (by simp)
      cases hf
      exact ⟨x, hx, hkind, hactive, by simp [Txn.marks, hmark]⟩
    next => exact h
  next => exact h

/-- A FLUSH that may ask for its SYNC gives no other one an operation. -/
theorem syncIfUnmarked_opOwners {t u : Fin 16} (h : u ≠ t) {s : State} (hfree : .flush u ∉ s.opOwners) :
    .flush u ∉ (syncIfUnmarked t s).opOwners := by
  unfold syncIfUnmarked
  split
  · split
    · rw [requestSync, (makeRequest_opOwners .sync (o := .flush t) (by simp) s).mem_iff]
      simp [h, hfree]
    · exact hfree
  · exact hfree

/-- FLUSHes with no operation ask for their SYNC one after another. -/
theorem State.RequestsOk.syncsUnmarked {l : List (Fin 16)} (hl : l.Nodup) {s : State} (h : s.RequestsOk)
    (hfree : ∀ t ∈ l, .flush t ∉ s.opOwners) : (l.foldl (fun acc t => Machine.syncIfUnmarked t acc) s).RequestsOk := by
  induction l generalizing s with
  | nil => exact h
  | cons t l ih =>
    obtain ⟨hnot, hl⟩ := List.nodup_cons.1 hl
    refine ih hl (h.syncIfUnmarked (hfree t (by simp))) fun u hu => syncIfUnmarked_opOwners ?_ (hfree u (by simp [hu]))
    rintro rfl
    exact hnot hu

theorem State.RequestsOk.leaveMarks {s : State} (h : s.RequestsOk) (ht : s.TagsOk) (b : Fin 8) :
    (leaveMarks b s).RequestsOk := by
  have htags : ((s.txns.filter (fun x => x.marks b)).map (fun x => x.tag)).Nodup := ht.sublist (List.filter_sublist.map _)
  have hfree : ∀ t ∈ (s.txns.filter (fun x => x.marks b)).map (fun x => x.tag), .flush t ∉ s.opOwners := by
    intro t hmem howner
    obtain ⟨x, hx, rfl⟩ := List.mem_map.1 hmem
    obtain ⟨hx, hmarks⟩ := List.mem_filter.1 hx
    obtain ⟨y, hy, -, -, -, hnone⟩ := h.syncs _ howner
    cases (State.txn?_of_mem ht hx).symm.trans hy
    simp [hnone b] at hmarks
  have hleft : (s.setTxns (s.txns.map (fun x =>
      { x with flushMark := x.flushMark.map (fun m => m.filter (fun c => c != b)) }))).RequestsOk := by
    refine h.of_txns rfl rfl rfl rfl rfl (.inl rfl) (fun f x hx => ?_) fun y hy hkind => ?_
    · refine ⟨_, (List.find?_map ..).trans (congrArg (Option.map _) hx), id, fun _ hsync => ?_⟩
      obtain ⟨hkind, hphase, hactive, hmarks⟩ := hsync
      refine ⟨hkind, hphase, hactive, fun c => ?_⟩
      have hc := hmarks c
      cases hm : x.flushMark with
      | none => simp [Txn.marks, hm]
      | some m =>
        simp only [Txn.marks, hm, List.contains_eq_mem, decide_eq_false_iff_not] at hc
        simp [Txn.marks, hm, hc]
    · obtain ⟨x, hx, rfl⟩ := List.mem_map.1 hy
      exact h.flushes x hx hkind
  exact hleft.syncsUnmarked htags hfree

end Sys2Proof.Machine


/-! PROOF. The request list through completions and through the elementary changes of the units (O10). -/

namespace Sys2Proof.Machine

open Sys2Proof

theorem State.RequestsOk.of_neutral {s t : State} (h : s.RequestsOk) (hn : Neutral s t) : t.RequestsOk := by
  obtain ⟨htxns, hjobs, -, -, hslots, hreq, herr, -, -, -, -, -, hsweep, -, houtput, -⟩ := hn
  exact h.of_jobs htxns hreq hslots herr hsweep houtput fun b _ j hj => ⟨j, (State.job?_congr hjobs b).trans hj, .refl j⟩

/-! ## The sweep's DISCARD (R143, R148) -/

/-- The sweep's record may change as it likes while no DISCARD is outstanding. -/
theorem State.RequestsOk.setSwu {s : State} (h : s.RequestsOk) {x : Swu} (hx : .sweep ∈ s.opOwners → x.discardOut = true) :
    (s.setSwu x).RequestsOk :=
  ⟨h.owners, h.named, h.jobRequests, h.jobSlots, h.jobErrors, h.syncs, hx, h.flushes, h.sending⟩

/-- With its DISCARD not outstanding the sweep owns no operation (R143). -/
theorem State.RequestsOk.sweep_free {s : State} (h : s.RequestsOk) (hout : s.swu.discardOut = false) :
    .sweep ∉ s.opOwners := by
  intro howner
  simpa [hout] using h.sweep howner

theorem State.RequestsOk.requestWindow {s : State} (h : s.RequestsOk) (hout : s.swu.discardOut = false) (c u : Nat) :
    (requestWindow c u s).RequestsOk :=
  (h.setSwu (fun _ => by rfl)).ask (by simp) (h.sweep_free hout) (by simp) (by simp) (by simp)

theorem State.RequestsOk.ksRequest {s : State} (h : s.RequestsOk) (r : KsReq) : (ksRequest r s).RequestsOk :=
  h.of_jobs rfl rfl rfl rfl rfl (.inl rfl) fun _ _ j hj => ⟨j, hj, .refl j⟩

theorem State.RequestsOk.requestCursor {s : State} (h : s.RequestsOk) (c : Option Nat) (skipped : Bool) :
    (requestCursor c skipped s).RequestsOk :=
  (h.setSwu (by exact h.sweep)).ksRequest _

theorem State.RequestsOk.makeDue {s : State} (h : s.RequestsOk) : (makeDue s).RequestsOk := by
  unfold Machine.makeDue
  split
  · exact h
  next hout =>
    have hout : s.swu.discardOut = false := by simp_all
    split
    · exact h.setSwu h.sweep
    · split
      · split
        · exact h.requestWindow hout _ _
        · exact (h.setSwu (by exact h.sweep)).requestCursor _ _
      · exact h.setSwu h.sweep

theorem State.RequestsOk.windowResult {s : State} (h : s.RequestsOk) (hfree : .sweep ∉ s.opOwners) (r : WindowResult)
    (n : Nat) : (windowResult r n s).RequestsOk := by
  have hswu (x : Swu) : (s.setSwu x).RequestsOk := h.setSwu fun howner => absurd howner hfree
  have hadvance (c : Nat) (skipped : Bool) (x : Swu) : (afterAdvance c skipped (s.setSwu x)).RequestsOk := by
    unfold afterAdvance
    split
    · exact (hswu x).requestCursor _ _
    · split
      · exact (hswu x).requestCursor _ _
      · exact (hswu x).makeDue
  unfold Machine.windowResult
  dsimp only
  split
  · exact hswu _
  · split
    · exact (hswu _).makeDue
    · exact (hswu _).makeDue
    · exact hadvance _ _ _
    · exact hadvance _ _ _

theorem State.RequestsOk.eraseHold {s : State} (h : s.RequestsOk) : (eraseHold s).RequestsOk := by
  unfold Machine.eraseHold
  dsimp only
  split
  next hwaits =>
    obtain ⟨r, hr, ho⟩ : ∃ r ∈ s.dli.requests, r.owner = .sweep := by simpa [State.discardWaits] using hwaits
    have hkept : (s.setDli { s.dli with requests := s.dli.requests.filter (fun r => r.owner != .sweep) }).RequestsOk := by
      refine h.mono (State.opOwners_sublist List.filter_sublist (.refl _) (.refl _))
        (fun r hr => (List.mem_filter.1 hr).1) (fun z hz => .inr hz) (fun e he => he)
        (fun b _ j hj => ⟨j, hj, .refl j⟩) (fun f _ x hx hsync => ⟨x, hx, hsync⟩) (fun _ => id) h.flushes h.sending
    refine hkept.setSwu fun howner => ?_
    have hnodup := h.owners
    simp only [State.opOwners, List.filter_append, List.filter_map, List.nodup_append, List.mem_append, List.mem_map,
      List.mem_filter, Function.comp_apply, bne_iff_ne] at hnodup
    obtain ⟨⟨-, -, hrs⟩, -, hre⟩ := hnodup
    have hreq : r ∈ s.dli.requests ∧ r.owner ≠ .nobody := ⟨hr, by simp [ho]⟩
    rcases (State.mem_opOwners.1 howner).2 with ⟨q, hq, hqo⟩ | ⟨z, hz, hzo⟩ | ⟨e, he, heo⟩
    · simpa [hqo] using (List.mem_filter.1 hq).2
    · exact absurd rfl (hrs _ ⟨r, hreq, ho⟩ _ ⟨z, ⟨hz, by simp [hzo]⟩, hzo⟩)
    · exact absurd rfl (hre _ (.inl ⟨r, hreq, ho⟩) _ ⟨e, ⟨he, by simp [heo]⟩, heo⟩)
  next => exact h.setSwu h.sweep

/-! ## Completions of page operations (R48 to R53, R61) -/

theorem State.RequestsOk.placePage {s : State} (h : s.RequestsOk) (b : Fin 8) (page : List Byte) :
    (placePage b page s).RequestsOk :=
  h.of_jobs (by simp) (by simp) (by simp) (by simp) (by simp) (.inl (by simp)) fun c _ j hj =>
    ⟨j, (State.job?_congr (placePage_jobs b page s) c).trans hj, .refl j⟩

theorem placePage_opOwners (b : Fin 8) (page : List Byte) (s : State) : (placePage b page s).opOwners = s.opOwners :=
  State.opOwners_congr (by simp) (by simp) (by simp)

theorem State.RequestsOk.activityRequest {s : State} (h : s.RequestsOk) : (activityRequest s).RequestsOk :=
  h.of_jobs (by simp) (by simp) (by simp) (by simp) (by simp) (.inl (by simp)) fun b _ j hj =>
    ⟨j, (State.job?_congr (by simp) b).trans hj, .refl j⟩

theorem State.RequestsOk.readEnd {s : State} (h : s.RequestsOk) (hb : s.BuffersOk) {j : Job} (hfree : .job j.buf ∉ s.opOwners)
    (ok : Bool) (page : List Byte) : (readEnd j ok page s).RequestsOk := by
  unfold Machine.readEnd
  split
  · refine (h.placePage _ _).updJob (by exact fun _ => rfl) ?_
    rwa [placePage_opOwners]
  · exact ((h.endJob hfree).failTxn ((JobsFrom.endJob j s).buffers hb) _ _).progress _

theorem State.RequestsOk.writeEnd {s : State} (h : s.RequestsOk) (ht : s.TagsOk) (hb : s.BuffersOk) {j : Job}
    (hfree : .job j.buf ∉ s.opOwners) (ok : Bool) : (writeEnd j ok s).RequestsOk := by
  have hended := h.endJob hfree
  have htags := (Terms.endJob j s).tags ht
  unfold Machine.writeEnd
  split
  · exact (((hended.addDone _ _).leaveMarks ((Terms.addDone _ _ _).tags htags) _).activityRequest).progress _
  · have hjobs : JobsFrom s (Machine.leaveMarks j.buf (Machine.endJob j s)) := (JobsFrom.endJob j s).same_right (by simp)
    exact ((hended.leaveMarks htags _).failTxn (hjobs.buffers hb) _ _).progress _

theorem State.RequestsOk.jobCompletion {s : State} (h : s.RequestsOk) (ht : s.TagsOk) (hb : s.BuffersOk) {b : Fin 8}
    (hfree : .job b ∉ s.opOwners) (op : DOp) (ok : Bool) (page : List Byte) : (jobCompletion b op ok page s).RequestsOk := by
  unfold Machine.jobCompletion
  split
  · exact h
  next j hj =>
    obtain rfl := State.buf_of_job? hj
    split
    · have hplaced : (if ok then Machine.placePage j.buf page s else s).RequestsOk := by
        split
        · exact h.placePage _ _
        · exact h
      have howners : (if ok then Machine.placePage j.buf page s else s).opOwners = s.opOwners := by
        split
        · exact placePage_opOwners _ _ _
        · rfl
      have htags : (if ok then Machine.placePage j.buf page s else s).TagsOk := by
        split
        · simpa [State.TagsOk] using ht
        · exact ht
      have hdrop := hplaced.dropJob (howners ▸ hfree)
      unfold endAbandoned
      split
      · exact hdrop.leaveMarks (by exact htags) _
      · exact hdrop
    · split
      · exact h.readEnd hb hfree _ _
      · exact h.writeEnd ht hb hfree _
      · exact h

theorem State.RequestsOk.syncEnd {s : State} (h : s.RequestsOk) (hb : s.BuffersOk) {t : Fin 16}
    (hfree : .flush t ∉ s.opOwners) (ok : Bool) : (syncEnd t ok s).RequestsOk := by
  unfold Machine.syncEnd
  split
  · exact h
  · split
    · split
      · exact h.setDone hfree
      · exact h.failTxn hb _ _
    · exact h.progress _
    · exact h

/-- The owner of an operation that has left the link takes its completion (R69). -/
theorem State.RequestsOk.ownerTakes {s : State} (h : s.RequestsOk) (ht : s.TagsOk) (hb : s.BuffersOk) {o : Owner}
    (hfree : o ∉ s.opOwners) (op : DOp) (ok lost : Bool) (page : List Byte) :
    (ownerTakes op o ok lost page s).RequestsOk := by
  unfold Machine.ownerTakes
  split
  · exact h.jobCompletion ht hb hfree _ _ _
  · exact h.syncEnd hb hfree _
  · split
    · exact h.windowResult hfree _ _
    · exact h
  · exact h

/-! ## Operations that leave the link (R65, R69, R73) -/

/-- An owner's operation in a slot is its only one (R66). -/
theorem State.opOwners_slot_once {s : State} (h : s.opOwners.Nodup) {z : Slot} (hz : z ∈ s.dli.slots) (ho : z.owner ≠ .nobody) :
    (∀ r ∈ s.dli.requests, r.owner ≠ z.owner) ∧ (∀ y ∈ s.dli.slots, y.owner = z.owner → y = z) ∧
      ∀ e ∈ s.dli.errors, e.owner ≠ z.owner := by
  simp only [State.opOwners, List.filter_append, List.filter_map, List.nodup_append, List.mem_append, List.mem_map,
    List.mem_filter, Function.comp_apply, bne_iff_ne] at h
  obtain ⟨⟨-, hslots, hrs⟩, -, hse⟩ := h
  refine ⟨fun r hr hro => ?_, fun y hy hyo => ?_, fun e he heo => ?_⟩
  · exact hrs _ ⟨r, ⟨hr, by rwa [hro]⟩, hro⟩ _ ⟨z, ⟨hz, ho⟩, rfl⟩ rfl
  · exact List.inj_on_of_nodup_map hslots (List.mem_filter.2 ⟨hy, by simpa [hyo] using ho⟩)
      (List.mem_filter.2 ⟨hz, by simpa using ho⟩) hyo
  · exact hse _ (.inr ⟨z, ⟨hz, ho⟩, rfl⟩) _ ⟨e, ⟨he, by rwa [heo]⟩, heo⟩ rfl

/-- The operation of a slot leaves the link (R65). -/
theorem State.RequestsOk.freeSlot {s : State} (h : s.RequestsOk) {z : Slot} (hz : z ∈ s.dli.slots) :
    (s.setDli { s.dli with slots := s.dli.slots.filter (fun y => y.dtag != z.dtag) }).RequestsOk ∧
      z.owner ∉ (s.setDli { s.dli with slots := s.dli.slots.filter (fun y => y.dtag != z.dtag) }).opOwners := by
  have hsub : (s.setDli { s.dli with slots := s.dli.slots.filter (fun y => y.dtag != z.dtag) }).opOwners.Sublist s.opOwners :=
    State.opOwners_sublist (.refl _) List.filter_sublist (.refl _)
  have hfree : z.owner ∉ (s.setDli { s.dli with slots := s.dli.slots.filter (fun y => y.dtag != z.dtag) }).opOwners := by
    intro howner
    obtain ⟨ho, hmem⟩ := State.mem_opOwners.1 howner
    obtain ⟨hr, hs, he⟩ := State.opOwners_slot_once h.owners hz ho
    rcases hmem with ⟨r, hrm, hro⟩ | ⟨y, hym, hyo⟩ | ⟨e, hem, heo⟩
    · exact hr r hrm hro
    · obtain ⟨hym, hne⟩ := List.mem_filter.1 hym
      simp [hs y hym hyo] at hne
    · exact he e hem heo
  refine ⟨h.mono hsub (fun r hr => hr) (fun y hy => .inr (List.mem_filter.1 hy).1) (fun e he => he)
    (fun b _ j hj => ⟨j, hj, .refl j⟩) (fun f hf x hx hsync => ⟨x, hx, hsync⟩) (fun _ => id) h.flushes h.sending, hfree⟩

/-- An ERROR completion leaves the link as its owner takes it (R73). -/
theorem State.RequestsOk.takeError {s : State} (h : s.RequestsOk) {e : PendingError} (he : e ∈ s.dli.errors) :
    (s.setDli { s.dli with errors := s.dli.errors.erase e }).RequestsOk ∧
      e.owner ∉ (s.setDli { s.dli with errors := s.dli.errors.erase e }).opOwners := by
  refine ⟨h.mono (State.opOwners_sublist (.refl _) (.refl _) List.erase_sublist) (fun r hr => hr) (fun y hy => .inr hy)
    (fun e he => List.mem_of_mem_erase he) (fun b _ j hj => ⟨j, hj, .refl j⟩) (fun f hf x hx hsync => ⟨x, hx, hsync⟩)
    (fun _ => id) h.flushes h.sending, fun howner => ?_⟩
  have hp : (e.owner != .nobody) = true := by simpa using (State.mem_opOwners.1 howner).1
  have hperm : s.opOwners.Perm (e.owner :: (s.setDli { s.dli with errors := s.dli.errors.erase e }).opOwners) := by
    have herr : (s.dli.errors.map PendingError.owner).Perm (e.owner :: (s.dli.errors.erase e).map PendingError.owner) :=
      (List.perm_cons_erase he).map PendingError.owner
    exact (((herr.append_left _).trans List.perm_middle).filter _).trans (.of_eq (List.filter_cons_of_pos hp))
  exact (List.nodup_cons.1 (hperm.nodup_iff.1 h.owners)).1 howner

/-- What is completed ERROR after a loss: what was, what the slots held for an owner, and what was requested (R73). -/
theorem mem_loseMedia_errors {e : PendingError} {s : State} : e ∈ (loseMedia s).dli.errors ↔ e ∈ s.dli.errors ∨
    (∃ z ∈ s.dli.slots, z.owner ≠ .nobody ∧ e = { op := z.op, owner := z.owner, issued := true }) ∨
    ∃ r ∈ s.dli.requests, e = { op := r.op, owner := r.owner, issued := false } := by
  simp only [loseMedia, State.setDli_fields, List.mem_append, List.mem_map, List.mem_filter, bne_iff_ne, or_assoc, and_assoc,
    eq_comm (a := e)]

theorem loseMedia_opOwners (s : State) : (loseMedia s).opOwners.Perm s.opOwners := by
  have hslots : (s.dli.slots.filter (fun z => z.owner != .nobody)).map Slot.owner =
      (s.dli.slots.map Slot.owner).filter (fun o => o != .nobody) := by
    rw [List.filter_map]
    rfl
  have herrors : (loseMedia s).dli.errors.map PendingError.owner = s.dli.errors.map PendingError.owner ++
      (s.dli.slots.map Slot.owner).filter (fun o => o != .nobody) ++ s.dli.requests.map DReq.owner := by
    rw [← hslots]
    simp [loseMedia, Function.comp_def]
  unfold State.opOwners
  rw [herrors]
  simp only [loseMedia, State.setDli_fields, List.map_nil, List.nil_append, List.filter_append, List.filter_filter, Bool.and_self]
  exact (List.perm_append_comm.trans ((List.perm_append_comm.append_left _).trans (.of_eq (List.append_assoc ..).symm)))

/-- At a loss what the link holds is completed ERROR toward its owners (R73). -/
theorem State.RequestsOk.loseMedia {s : State} (h : s.RequestsOk) : (loseMedia s).RequestsOk := by
  have hperm := loseMedia_opOwners s
  refine ⟨hperm.nodup_iff.2 h.owners, by simp [Machine.loseMedia], by simp [Machine.loseMedia], by simp [Machine.loseMedia],
    fun e he b hb => ?_, fun f hf => ?_, fun hs => h.sweep (hperm.mem_iff.1 hs), h.flushes, h.sending⟩
  · rcases mem_loseMedia_errors.1 he with he | ⟨z, hz, -, rfl⟩ | ⟨r, hr, rfl⟩
    · exact h.jobErrors e he b hb
    · obtain ⟨j, hj, -, hwork⟩ := h.jobSlots z hz b hb
      exact ⟨j, hj, hwork⟩
    · obtain ⟨j, hj, -, hwork⟩ := h.jobRequests r hr b hb
      exact ⟨j, hj, hwork⟩
  · obtain ⟨x, hx, hkind, hphase, hactive, hmarks⟩ := h.syncs f (hperm.mem_iff.1 hf)
    refine ⟨x, hx, hkind, hphase, fun hissued => hactive ?_, hmarks⟩
    simp only [State.syncIssued, Bool.or_eq_false_iff, List.any_eq_false, beq_iff_eq, Bool.and_eq_true, not_and] at hissued ⊢
    obtain ⟨-, herrors⟩ := hissued
    refine ⟨fun z hz hzo => ?_, fun e he => herrors e (mem_loseMedia_errors.2 (.inl he))⟩
    exact herrors _ (mem_loseMedia_errors.2 (.inr (.inl ⟨z, hz, by simp [hzo], rfl⟩))) hzo rfl

end Sys2Proof.Machine


/-! PROOF. The request list through the closure of an event, the start of jobs, admission and the emptying of the table
(O10). -/

namespace Sys2Proof.Machine

open Sys2Proof

/-! ## The arbiters' choices (R29, R57, R67) -/

theorem lowestRequest_mem {l : List DReq} {r : DReq} (h : lowestRequest l = some r) : r ∈ l := by
  induction l generalizing r with
  | nil => cases h
  | cons a l ih =>
    unfold lowestRequest at h
    split at h
    · cases h
      exact .head _
    next q hq =>
      split at h <;> cases h
      · exact .tail _ (ih hq)
      · exact .head _

/-- The slot arbiter chooses a request of the list (R67). -/
theorem State.chosenRequest_mem {s : State} {r : DReq} (h : s.chosenRequest = some r) : r ∈ s.dli.requests := by
  unfold State.chosenRequest at h
  split at h
  · cases h
  · split at h
    next q hq =>
      cases h
      exact List.mem_of_find?_eq_some hq
    next =>
      split at h
      next q hq =>
        cases h
        obtain ⟨x, -, hx⟩ := List.exists_of_findSome?_eq_some hq
        exact (List.mem_filter.1 (lowestRequest_mem hx)).1
      next =>
        unfold State.discardRequest at h
        split at h
        · cases h
        · exact List.mem_of_find?_eq_some h

/-- The CE's next job is of the cipher queue (R57). -/
theorem State.nextCipher_mem {s : State} {j : Job} (h : s.nextCipher = some j) : j ∈ s.ubp.jobs ∧ j.queued = true := by
  obtain ⟨x, -, hx⟩ := List.exists_of_findSome?_eq_some h
  obtain ⟨hmem, -⟩ := lowestJob_spec hx
  obtain ⟨hmem, -⟩ := List.mem_filter.1 hmem
  simpa [State.cipherQueue] using hmem

/-- A COMPLETE is granted the output for a DONE record of the table (R28, R29). -/
theorem State.nextOutput_complete {s : State} (ht : s.TagsOk) {f : Fin 16} (h : s.nextOutput = .complete f) :
    ∃ x, s.txn? f = some x ∧ x.phase = .done := by
  unfold State.nextOutput at h
  split at h
  · cases h
  · cases hready : s.txns.findSome? s.readyItem with
    | none => simp [hready] at h
    | some o =>
      obtain ⟨x, hx, hitem⟩ := List.exists_of_findSome?_eq_some hready
      obtain rfl : o = .complete f := by simpa [hready] using h
      unfold State.readyItem at hitem
      split at hitem
      next hdone =>
        cases hitem
        exact ⟨x, State.txn?_of_mem ht hx, hdone⟩
      · cases hitem
      · repeat' split at hitem
        all_goals cases hitem

/-! ## The closure of an event -/

theorem issue_job? (d : Fin 4) (r : DReq) (s : State) (b : Fin 8) : (issue d r s).job? b =
    if r.owner = .job b then (s.job? b).map (fun j => { j with pageOp := .issued d }) else s.job? b := by
  unfold issue tellIssued
  split
  next c hc =>
    rw [hc]
    by_cases hb : b = c
    · subst hb
      rw [if_pos rfl]
      exact updJob_job? (f := fun j => { j with pageOp := .issued d }) (fun _ => rfl) s
    · rw [if_neg (by simpa using fun h : c = b => hb h.symm)]
      exact updJob_job?_of_ne (f := fun j => { j with pageOp := .issued d }) hb (fun _ => rfl) s
  next h =>
    have hne : r.owner ≠ .job b := by simp [h]
    rw [if_neg hne]
    rfl
  next h1 h2 =>
    rw [if_neg (h1 b)]
    rfl

@[simp] theorem issue_errors (d : Fin 4) (r : DReq) (s : State) : (issue d r s).dli.errors = s.dli.errors := by
  unfold issue tellIssued
  split <;> rfl

@[simp] theorem issue_discardOut (d : Fin 4) (r : DReq) (s : State) : (issue d r s).swu.discardOut = s.swu.discardOut := by
  unfold issue tellIssued
  split <;> rfl

theorem State.RequestsOk.issue {s : State} (h : s.RequestsOk) {d : Fin 4} {r : DReq} (hr : r ∈ s.dli.requests) :
    (issue d r s).RequestsOk := by
  obtain ⟨hrequests, hslots, -, -⟩ := issue_dli d r s
  have hnamed := h.named r hr
  have hp : (r.owner != .nobody) = true := by simpa using hnamed
  have hperm : (Machine.issue d r s).opOwners.Perm s.opOwners := by
    have hreq : (s.dli.requests.map DReq.owner).Perm (r.owner :: (s.dli.requests.erase r).map DReq.owner) :=
      (List.perm_cons_erase hr).map DReq.owner
    unfold State.opOwners
    rw [hrequests, hslots, issue_errors, List.map_append, List.append_assoc, List.append_assoc, List.append_assoc]
    refine (List.Perm.trans ?_ (hreq.append_right _).symm).filter _
    rw [List.map_cons, List.map_nil, List.singleton_append, List.cons_append]
    exact ((List.perm_middle).append_left _).trans List.perm_middle
  have hnodup := hperm.nodup_iff.2 h.owners
  obtain ⟨hnoReq, honly, hnoErr⟩ := State.opOwners_slot_once hnodup (z := { dtag := d, op := r.op, owner := r.owner })
    (by simp [hslots]) hnamed
  refine ⟨hnodup, fun q hq => ?_, fun q hq b hb => ?_, fun z hz b hb => ?_, fun e he b hb => ?_, fun f hf => ?_,
    fun hs => ?_, by simpa using h.flushes, fun f hf => ?_⟩
  · exact h.named q (List.mem_of_mem_erase (hrequests ▸ hq))
  · rw [issue_job?, if_neg fun ho => hnoReq q hq (hb.trans ho.symm)]
    exact h.jobRequests q (List.mem_of_mem_erase (hrequests ▸ hq)) b hb
  · by_cases ho : r.owner = .job b
    · obtain rfl := honly z hz (hb.trans ho.symm)
      obtain ⟨j, hj, -, hwork⟩ := h.jobRequests r hr b ho
      exact ⟨{ j with pageOp := .issued d }, by rw [issue_job?, if_pos ho, hj]; rfl, rfl, hwork⟩
    · rw [issue_job?, if_neg ho]
      rw [hslots] at hz
      rcases List.mem_append.1 hz with hz | hz
      · exact h.jobSlots z hz b hb
      · rw [List.mem_singleton.1 hz] at hb
        exact absurd hb ho
  · rw [issue_job?, if_neg fun ho => hnoErr e he (hb.trans ho.symm)]
    exact h.jobErrors e (issue_errors d r s ▸ he) b hb
  · obtain ⟨x, hx, hkind, hphase, hactive, hmarks⟩ := h.syncs f (hperm.mem_iff.1 hf)
    refine ⟨x, (State.txn?_congr (by simp) f).trans hx, hkind, hphase, fun hissued => hactive ?_, hmarks⟩
    simp only [State.syncIssued, hslots, issue_errors, List.any_append, Bool.or_eq_false_iff] at hissued ⊢
    exact ⟨hissued.1.1, hissued.2⟩
  · rw [issue_discardOut]
    exact h.sweep (hperm.mem_iff.1 hs)
  · obtain ⟨x, hx, hphase⟩ := h.sending f (by simpa using hf)
    exact ⟨x, (State.txn?_congr (by simp) f).trans hx, hphase⟩

theorem State.RequestsOk.cipherTake {s : State} (h : s.RequestsOk) (hb : s.BuffersOk) : (cipherTake s).RequestsOk := by
  unfold Machine.cipherTake
  split
  · exact h
  · split
    · exact h
    next j hj =>
      obtain ⟨hmem, hqueued⟩ := State.nextCipher_mem hj
      refine h.updJob (by exact fun _ => rfl) (h.job_free (State.job?_of_mem hb hmem) ?_ ?_) <;>
        intro hstate <;> simp [Job.queued, hstate] at hqueued

/-- The output is granted to any but a COMPLETE, or to that of a DONE record. -/
theorem State.RequestsOk.setOutput {s : State} (h : s.RequestsOk) {o : Output}
    (ho : ∀ f, o = .complete f → ∃ x, s.txn? f = some x ∧ x.phase = .done) :
    (s.setUli { s.uli with output := o }).RequestsOk :=
  ⟨h.owners, h.named, h.jobRequests, h.jobSlots, h.jobErrors, h.syncs, h.sweep, h.flushes, ho⟩

theorem State.RequestsOk.grant {s : State} (h : s.RequestsOk) (ht : s.TagsOk) (hb : s.BuffersOk) : (grant s).RequestsOk := by
  unfold Machine.grant
  split
  · exact h
  · have hgranted := h.setOutput (o := s.nextOutput) fun f => State.nextOutput_complete ht
    unfold startRun
    dsimp only
    split
    next t _ =>
      split
      next j hj =>
        obtain ⟨hmem, -, hstate, -⟩ := State.deliverable_spec hj
        exact hgranted.updJob (by exact fun _ => rfl)
          (hgranted.job_free (State.job?_of_mem hb hmem) (by simp [hstate]) (by simp [hstate]))
      next => exact hgranted
    · exact hgranted

theorem State.RequestsOk.dataWaits {s : State} (h : s.RequestsOk) (hb : s.BuffersOk) : (dataWaits s).RequestsOk := by
  refine h.of_jobs rfl rfl rfl rfl rfl (.inl rfl) fun b howner j hj => ?_
  obtain ⟨k, hk, hwork⟩ := h.job_works howner
  cases hj.symm.trans hk
  refine ⟨j, ?_, .refl j⟩
  refine job?_of_filterMap (f := some ∘ fun k => if mayWait s.ubp.jobs k then { k with state := .dataWait } else k)
    (by rw [dataWaits_jobs, List.filterMap_eq_map]) ((JobsFrom.dataWaits s).buffers hb) hj ?_ rfl
  have hnot : mayWait s.ubp.jobs j = false := by
    rcases hwork with hstate | hstate <;> simp [mayWait, hstate]
  simp [hnot]

/-! ## The Cipher Engine and the intake (R49, R51, R58) -/

theorem putUnit_opOwners (b : Fin 8) (u : Fin 4096 → Byte) (s : State) : (putUnit b u s).opOwners = s.opOwners := by
  rw [putUnit, placePage_opOwners]

theorem updJob_opOwners (b : Fin 8) (f : Job → Job) (s : State) : (updJob b f s).opOwners = s.opOwners := rfl

theorem State.RequestsOk.requestWrite {s : State} (h : s.RequestsOk) {b : Fin 8} (hfree : .job b ∉ s.opOwners) {j : Job}
    (hj : s.job? b = some j) (hstate : j.state = .mediaWrite) : (requestWrite b j.unit s).RequestsOk := by
  refine (h.updJob (f := fun j => { j with pageOp := .requested }) (fun _ => rfl) hfree).ask (by simp) hfree
    (fun c hc => ?_) (by simp) (by simp)
  cases hc
  exact ⟨{ j with pageOp := .requested }, by rw [updJob_job? (by exact fun _ => rfl), hj]; rfl, rfl, .inr ⟨hstate, rfl⟩⟩

theorem State.RequestsOk.cipherEnd {s : State} (h : s.RequestsOk) (hb : s.BuffersOk) : (cipherEnd s).RequestsOk := by
  unfold Machine.cipherEnd
  split
  next j key hj hkey =>
    dsimp only
    have hjob := State.job?_of_mem hb (List.mem_of_find?_eq_some hj)
    have hcipher : j.ciphering = true := List.find?_some hj
    have hfree : .job j.buf ∉ s.opOwners := by
      refine h.job_free hjob ?_ ?_ <;> intro hstate <;> simp [Job.ciphering, hstate] at hcipher
    have hput (u : Fin 4096 → Byte) : (putUnit j.buf u s).RequestsOk := by
      rw [putUnit]
      exact h.placePage _ _
    have hmoved (u : Fin 4096 → Byte) (x : JobState) :
        (Machine.updJob j.buf (fun y => { y with state := x }) (putUnit j.buf u s)).RequestsOk := by
      refine (hput u).updJob (f := fun y => { y with state := x }) (fun _ => rfl) ?_
      rwa [putUnit_opOwners]
    have hwrite (u : Fin 4096 → Byte) : (Machine.requestWrite j.buf j.unit
        (Machine.updJob j.buf (fun y => { y with state := .mediaWrite }) (putUnit j.buf u s))).RequestsOk := by
      refine (hmoved u .mediaWrite).requestWrite (j := { j with state := .mediaWrite }) ?_ ?_ rfl
      · rwa [updJob_opOwners, putUnit_opOwners]
      · rw [updJob_job? (f := fun y => { y with state := .mediaWrite }) (fun _ => rfl),
          State.job?_congr (putUnit_jobs _ _ _), hjob]
        rfl
    split
    · exact hmoved _ _
    · exact hmoved _ _
    · exact hwrite _
  · exact h

/-- Where only the intakes and the buffers change, the list stays in keeping. -/
theorem State.RequestsOk.takeSector {s : State} (h : s.RequestsOk) (hb : s.BuffersOk) {t : Fin 16} {j : Job}
    (hj : s.waitingJob t = some j) (i : Intake) (sector : List Byte) : (takeSector i j sector s).RequestsOk := by
  have hmem := List.mem_of_find?_eq_some hj
  have hfound := List.find?_some hj
  have hstate : j.state = .dataWait := by
    simp only [Bool.and_eq_true, beq_iff_eq] at hfound
    exact hfound.2
  have hfree := h.job_free (State.job?_of_mem hb hmem) (by simp [hstate]) (by simp [hstate])
  have hplaced : (placeSector j.buf i.next sector s).RequestsOk :=
    h.of_jobs (by simp) (by simp) (by simp) (by simp) (by simp) (.inl (by simp)) fun c _ k hk =>
      ⟨k, (State.job?_congr (placeSector_jobs _ _ _ s) c).trans hk, .refl k⟩
  have howners : (placeSector j.buf i.next sector s).opOwners = s.opOwners :=
    State.opOwners_congr (by simp) (by simp) (by simp)
  have huli (x : Uli) (hx : x.output = (placeSector j.buf i.next sector s).uli.output) :
      ((placeSector j.buf i.next sector s).setUli x).RequestsOk :=
    hplaced.of_jobs rfl rfl rfl rfl rfl (.inl hx) fun _ _ k hk => ⟨k, hk, .refl k⟩
  unfold Machine.takeSector
  dsimp only
  split
  · exact (huli _ (by rfl)).updJob (by exact fun _ => rfl) (by exact howners ▸ hfree)
  · exact huli _ rfl

end Sys2Proof.Machine


/-! PROOF. The request list through every command (O10). -/

namespace Sys2Proof.Machine

open Sys2Proof

/-! ## The start of a unit job (R47) -/

theorem State.RequestsOk.startJob {s : State} (h : s.RequestsOk) {b : Fin 8} (hb : ∀ j ∈ s.ubp.jobs, j.buf ≠ b) (x : Txn)
    (u : Nat) : (startJob b x u s).RequestsOk := by
  have hfree := h.buffer_free hb
  have hadd (j : Job) : (s.setUbp { s.ubp with jobs := s.ubp.jobs ++ [j] }).RequestsOk := by
    refine h.of_jobs rfl rfl rfl rfl rfl (.inl rfl) fun c _ k hk => ⟨k, ?_, .refl k⟩
    exact List.find?_append.trans (by rw [show s.ubp.jobs.find? _ = some k from hk]; rfl)
  have hstarted (j : Job) (tag : Fin 16) : (Machine.updTxn tag (fun y => { y with nextUnit := some (u + 1), jobsHeld := y.jobsHeld + 1 })
      (s.setUbp { s.ubp with jobs := s.ubp.jobs ++ [j] })).RequestsOk :=
    (hadd j).updTxn (fun _ => rfl) (fun _ => ⟨rfl, rfl, rfl⟩) (fun _ _ => id) fun _ _ _ _ => rfl
  have hfound (j : Job) (hj : j.buf = b) : (s.ubp.jobs ++ [j]).find? (fun k => k.buf == b) = some j := by
    rw [List.find?_append, List.find?_eq_none.2 (by simpa using hb)]
    simp [hj]
  unfold Machine.startJob
  dsimp only
  split
  · exact (hstarted _ _).updJob (f := fun j => { j with state := .dataQueue }) (fun _ => rfl) hfree
  · refine (((hstarted _ _).updJob (f := fun j => { j with state := .mediaRead }) (fun _ => rfl) hfree).updJob
      (f := fun j => { j with pageOp := .requested }) (fun _ => rfl) hfree).ask (by simp) hfree (fun c hc => ?_) (by simp)
      (by simp)
    cases hc
    rw [updJob_job? (f := fun j => { j with pageOp := .requested }) (fun _ => rfl),
      updJob_job? (f := fun j => { j with state := .mediaRead }) (fun _ => rfl)]
    exact ⟨_, congrArg (Option.map _) (congrArg (Option.map _) (hfound _ rfl)), rfl, .inl ⟨rfl, rfl⟩⟩

/-- A delivery run's job has no operation (R52, R55). -/
theorem State.RequestsOk.delivering_free {s : State} (h : s.RequestsOk) (hb : s.BuffersOk) {t : Fin 16} {j : Job}
    (hj : s.deliveringJob t = some j) : .job j.buf ∉ s.opOwners := by
  have hfound := List.find?_some hj
  have hstate : j.state = .delivering := by
    simp only [Bool.and_eq_true, beq_iff_eq] at hfound
    exact hfound.2
  exact h.job_free (State.job?_of_mem hb (List.mem_of_find?_eq_some hj)) (by simp [hstate]) (by simp [hstate])

/-! ## Admission (R20, R22, R76) -/

/-- An admitted FLUSH has no transfer count (R22). -/
theorem State.admitted_flush (s : State) (k : TxKind) (tag : Fin 16) (r : Request)
    (h : (s.admitted k tag r).kind = .flush) : (s.admitted k tag r).transfer = none := by
  have hclamped (x : Txn) (n : Option Nat) : (x.clamped n).kind = x.kind := by
    unfold Txn.clamped
    dsimp only
    split <;> rfl
  have hkind : (s.admitted k tag r).kind = k := by
    unfold State.admitted
    dsimp only
    repeat' split
    all_goals simp [hclamped, Txn.atAdmission]
  obtain rfl : k = .flush := hkind.symm.trans h
  unfold State.admitted
  dsimp only
  split <;> rfl

theorem State.RequestsOk.admitRequest {s : State} (h : s.RequestsOk) (k : TxKind) {t : Fin 16} (r : Request)
    (hnew : s.txn? t = none) : (admitRequest k t r s).RequestsOk := by
  have hfree : .flush t ∉ s.opOwners := by
    intro howner
    obtain ⟨x, hx, -⟩ := h.syncs t howner
    cases hnew.symm.trans hx
  refine State.RequestsOk.syncIfUnmarked ?_ (by exact hfree)
  refine h.of_txns rfl rfl rfl rfl rfl (.inl rfl) (fun f x hx => ⟨x, ?_, id, fun _ => id⟩) fun y hy hkind => ?_
  · exact List.find?_append.trans (by rw [show s.txns.find? _ = some x from hx]; rfl)
  · rcases List.mem_append.1 hy with hy | hy
    · exact h.flushes y hy hkind
    · rw [List.mem_singleton.1 hy] at hkind ⊢
      exact s.admitted_flush k t r hkind

/-! ## Records that leave the table (R28, R39, R63, R78) -/

theorem emptyTable_dli (s : State) :
    (emptyTable s).dli.requests = (s.dli.requests.filter (fun r =>
      !ownerIn ((s.ubp.jobs.filter (fun j => j.atEmptying.isNone)).map (fun j => j.buf)) r.owner)).filter
      (fun r => !ownerIsFlush r.owner) ∧
    (emptyTable s).dli.slots = s.dli.slots.map (fun x => { x with owner := ownerOrphaned x.owner }) ∧
    (emptyTable s).dli.errors = (s.dli.errors.filter (fun e =>
      !ownerIn ((s.ubp.jobs.filter (fun j => j.atEmptying.isNone)).map (fun j => j.buf)) e.owner)).filter
      (fun e => !ownerIsFlush e.owner) := ⟨rfl, rfl, rfl⟩

theorem emptyTable_jobs (s : State) : (emptyTable s).ubp.jobs = s.ubp.jobs.filterMap Job.atEmptying := rfl

theorem Job.atEmptying_fields {j k : Job} (h : j.atEmptying = some k) : k = { j with abandoned := true } := by
  rw [Job.atEmptying_eq] at h
  obtain ⟨-, h⟩ := Option.ite_none_right_eq_some.1 h
  exact (Option.some.inj h).symm

theorem orphaned_sublist (l : List Owner) :
    ((l.map ownerOrphaned).filter (fun o => o != .nobody)).Sublist (l.filter (fun o => o != .nobody)) := by
  induction l with
  | nil => exact .slnil
  | cons o l ih =>
    cases o with
    | flush f => exact ih.trans ((List.sublist_cons_self _ _).filter _)
    | _ => simpa [ownerOrphaned] using ih

/-- After the emptying no FLUSH owns an operation (R78). -/
theorem emptyTable_flush_free (s : State) (f : Fin 16) : .flush f ∉ (emptyTable s).opOwners := by
  intro howner
  obtain ⟨hreq, hslots, herr⟩ := emptyTable_dli s
  rcases (State.mem_opOwners.1 howner).2 with ⟨r, hr, ho⟩ | ⟨z, hz, ho⟩ | ⟨e, he, ho⟩
  · have hkept := (List.mem_filter.1 (hreq ▸ hr)).2
    simp [ownerIsFlush, ho] at hkept
  · obtain ⟨y, -, rfl⟩ := List.mem_map.1 (hslots ▸ hz)
    cases hy : y.owner <;> simp [hy, ownerOrphaned] at ho
  · have hkept := (List.mem_filter.1 (herr ▸ he)).2
    simp [ownerIsFlush, ho] at hkept

/-- A job with an operation left after the emptying stays, as it was for the operation (R63). -/
theorem emptyTable_job {s : State} (h : s.RequestsOk) (hb : s.BuffersOk) {b : Fin 8}
    (howner : .job b ∈ (emptyTable s).opOwners) {j : Job} (hj : s.job? b = some j) :
    ∃ k, (emptyTable s).job? b = some k ∧ j.SameOp k := by
  have hbuf := State.buf_of_job? hj
  have hstays : j.atEmptying ≠ none := by
    intro hnone
    have hgone : b ∈ (s.ubp.jobs.filter (fun j => j.atEmptying.isNone)).map (fun j => j.buf) :=
      List.mem_map.2 ⟨j, List.mem_filter.2 ⟨State.mem_of_job? hj, by simp [hnone]⟩, hbuf⟩
    obtain ⟨hreq, hslots, herr⟩ := emptyTable_dli s
    rcases (State.mem_opOwners.1 howner).2 with ⟨r, hr, ho⟩ | ⟨z, hz, ho⟩ | ⟨e, he, ho⟩
    · have hkept := (List.mem_filter.1 (List.mem_filter.1 (hreq ▸ hr)).1).2
      simp only [ownerIn, ho, List.contains_eq_mem, hgone, decide_true, Bool.not_true, Bool.false_eq_true] at hkept
    · obtain ⟨y, hy, rfl⟩ := List.mem_map.1 (hslots ▸ hz)
      have hyo : y.owner = .job b := by
        cases hy : y.owner <;> simp_all [ownerOrphaned]
      obtain ⟨k, hk, hop, hwork⟩ := h.jobSlots y hy b hyo
      cases hj.symm.trans hk
      rcases hwork with ⟨hstate, -⟩ | ⟨hstate, -⟩ <;> simp [Job.atEmptying_eq, hstate, hop, Job.isIssuedRead] at hnone
    · have hkept := (List.mem_filter.1 (List.mem_filter.1 (herr ▸ he)).1).2
      simp only [ownerIn, ho, List.contains_eq_mem, hgone, decide_true, Bool.not_true, Bool.false_eq_true] at hkept
  obtain ⟨k, hk⟩ := Option.ne_none_iff_exists'.1 hstays
  obtain rfl := Job.atEmptying_fields hk
  exact ⟨_, job?_of_filterMap (emptyTable_jobs s) ((JobsFrom.emptyTable s).buffers hb) hj hk rfl, rfl, rfl, rfl⟩

theorem State.RequestsOk.emptyTable {s : State} (h : s.RequestsOk) (hb : s.BuffersOk) : (emptyTable s).RequestsOk := by
  obtain ⟨hreq, hslots, herr⟩ := emptyTable_dli s
  have hreqSub : (Machine.emptyTable s).dli.requests.Sublist s.dli.requests :=
    hreq ▸ List.filter_sublist.trans List.filter_sublist
  have herrSub : (Machine.emptyTable s).dli.errors.Sublist s.dli.errors :=
    herr ▸ List.filter_sublist.trans List.filter_sublist
  have howners : (Machine.emptyTable s).opOwners.Sublist s.opOwners := by
    unfold State.opOwners
    simp only [List.filter_append]
    refine (((hreqSub.map _).filter _).append ?_).append ((herrSub.map _).filter _)
    have hmap : (Machine.emptyTable s).dli.slots.map Slot.owner = (s.dli.slots.map Slot.owner).map ownerOrphaned := by
      rw [hslots, List.map_map, List.map_map]
      rfl
    rw [hmap]
    exact orphaned_sublist _
  refine h.mono howners (fun r hr => hreqSub.subset hr) (fun z hz => ?_) (fun e he => herrSub.subset he)
    (fun b howner j hj => emptyTable_job h hb howner hj) (fun f hf => absurd hf (emptyTable_flush_free s f)) (fun _ => id)
    (by simp [Machine.emptyTable, withdrawJobs]) (fun f hf => by simp [Machine.emptyTable, withdrawJobs] at hf)
  obtain ⟨y, hy, rfl⟩ := List.mem_map.1 (hslots ▸ hz)
  cases ho : y.owner with
  | flush f => exact .inl rfl
  | _ => exact .inr (by simpa [ownerOrphaned, ← ho] using hy)

/-- A record leaves the table with the COMPLETE sent for it (R28). -/
theorem State.RequestsOk.dropTxn {s : State} (h : s.RequestsOk) {t : Fin 16} {x : Txn} (hx : s.txn? t = some x)
    (hdone : x.phase = .done) : (freeOutput (dropTxn t s)).RequestsOk := by
  refine h.mono (.refl _) (fun r hr => hr) (fun z hz => .inr hz) (fun e he => he) (fun b _ j hj => ⟨j, hj, .refl j⟩)
    (fun f hf y hy hsync => ?_) (fun _ => id) (fun y hy => h.flushes y (List.mem_filter.1 hy).1) (by simp [freeOutput])
  have hne : f ≠ t := by
    rintro rfl
    cases hx.symm.trans hy
    obtain ⟨-, hphase, -⟩ := hsync
    exact hphase hdone
  refine ⟨y, ?_, hsync⟩
  have hkept : (s.txns.filter (fun z => z.tag != t)).find? (fun z => z.tag == f) = s.txns.find? (fun z => z.tag == f) := by
    rw [List.find?_filter]
    congr 1
    funext z
    by_cases hz : z.tag = f <;> simp [hz, hne]
  exact hkept.trans hy

/-! ## Every command -/

/-- From `s` to `t` tags and buffers stay distinct, and with them the request list stays in keeping with its owners. -/
structure Asks (s t : State) : Prop where
  tags : s.TagsOk → t.TagsOk
  buffers : s.BuffersOk → t.BuffersOk
  requests : s.TagsOk → s.BuffersOk → s.RequestsOk → t.RequestsOk

theorem Asks.refl (s : State) : Asks s s := ⟨id, id, fun _ _ => id⟩

theorem Asks.trans {s t u : State} (h1 : Asks s t) (h2 : Asks t u) : Asks s u :=
  ⟨h2.tags ∘ h1.tags, h2.buffers ∘ h1.buffers,
    fun ht hb h => h2.requests (h1.tags ht) (h1.buffers hb) (h1.requests ht hb h)⟩

/-- Where the records, the jobs and the link stay, the list does. -/
theorem Asks.of_same {s t : State} (htxns : t.txns = s.txns) (hjobs : t.ubp.jobs = s.ubp.jobs)
    (hreq : t.dli.requests = s.dli.requests) (hslots : t.dli.slots = s.dli.slots) (herr : t.dli.errors = s.dli.errors)
    (hsweep : t.swu.discardOut = s.swu.discardOut) (houtput : t.uli.output = s.uli.output ∨ t.uli.output = .free) :
    Asks s t where
  tags := (Terms.of_same htxns).tags
  buffers := (JobsFrom.of_same hjobs).buffers
  requests _ _ h := h.of_jobs htxns hreq hslots herr hsweep houtput fun b _ j hj =>
    ⟨j, (State.job?_congr hjobs b).trans hj, .refl j⟩

/-- A list that the changes of the records and of the jobs leave in keeping with its owners. -/
theorem Asks.of {s t : State} (hterms : Terms s t) (hbases : Bases s t)
    (h : s.TagsOk → s.BuffersOk → s.RequestsOk → t.RequestsOk) : Asks s t :=
  ⟨hterms.tags, hbases.buffers, h⟩

theorem asks_walk : Walk Asks where
  refl := .refl
  trans := .trans
  neutral hn := .of (terms_walk.neutral hn) (bases_walk.neutral hn) fun _ _ h => h.of_neutral hn
  judge s := .of_same (by simp) (by simp) (by simp) (by simp) (by simp) (by simp) (.inl (by simp))
  ksRequest r s := .of_same rfl rfl rfl rfl rfl rfl (.inl rfl)
  endWrite c s := .of_same rfl rfl rfl rfl rfl rfl (.inl rfl)
  enter a s := .of_same (by simp) (by simp) (by simp) (by simp) (by simp) (by simp) (.inl (by rw [enter_uli]; split <;> rfl))
  presentOverlay s _ := .of_same (by simp) (by simp) (by simp) (by simp) (by simp) (by simp) (.inl (by rw [present_uli]; split <;> rfl))
  clearKey s := .of_same rfl rfl rfl rfl rfl rfl (.inl rfl)
  loadKey k s _ := .of_same rfl rfl rfl rfl rfl rfl (.inl rfl)
  loadSession k s _ := .of_same rfl rfl rfl rfl rfl rfl (.inl rfl)
  failTxn t f s := .of (terms_walk.failTxn t f s) (bases_walk.failTxn t f s) fun _ hb h => h.failTxn hb t f
  progress t s := .of (terms_walk.progress t s) (bases_walk.progress t s) fun _ _ h => h.progress t
  addDone t k s := .of (terms_walk.addDone t k s) (bases_walk.addDone t k s) fun _ _ h => h.addDone t k
  stopCipher s := .of (terms_walk.stopCipher s) (bases_walk.stopCipher s) fun _ hb h => h.stopCipher hb
  endRun t j s hj := .of (terms_walk.endRun t j s hj) (bases_walk.endRun t j s hj) fun _ hb h =>
    h.endJob (h.delivering_free hb hj)
  runOn t j s hj := .of (terms_walk.runOn t j s hj) (bases_walk.runOn t j s hj) fun _ hb h =>
    h.updJob (fun _ => rfl) (h.delivering_free hb hj)
  requestWindow c u s hout := .of (terms_walk.requestWindow c u s hout) (bases_walk.requestWindow c u s hout) fun _ _ h =>
    h.requestWindow hout c u
  eraseHold s := .of (terms_walk.eraseHold s) (bases_walk.eraseHold s) fun _ _ h => h.eraseHold
  loseMedia s := .of (terms_walk.loseMedia s) (bases_walk.loseMedia s) fun _ _ h => h.loseMedia
  completion d x ok page s hx := .of (terms_walk.completion d x ok page s hx) (bases_walk.completion d x ok page s hx)
    fun ht hb h => by
      obtain ⟨hleft, hfree⟩ := h.freeSlot (List.mem_of_find?_eq_some hx)
      exact hleft.ownerTakes ht hb hfree _ _ _ _
  error o e s he := .of (terms_walk.error o e s he) (bases_walk.error o e s he) fun ht hb h => by
    obtain ⟨hleft, hfree⟩ := h.takeError (List.mem_of_find?_eq_some he)
    have ho : e.owner = o := by simpa using List.find?_some he
    exact hleft.ownerTakes ht hb (ho ▸ hfree) _ _ _ _
  startJob b x s hb hx := .of (terms_walk.startJob b x s hb hx) (bases_walk.startJob b x s hb hx) fun _ _ h =>
    h.startJob (State.freeBuffer_spec hb) x _
  dataWaits s := .of (terms_walk.dataWaits s) (bases_walk.dataWaits s) fun _ hb h => h.dataWaits hb
  issue d r s hd hr := .of (terms_walk.issue d r s hd hr) (bases_walk.issue d r s hd hr) fun _ _ h =>
    h.issue (State.chosenRequest_mem hr)
  cipherTake s := .of (terms_walk.cipherTake s) (bases_walk.cipherTake s) fun _ hb h => h.cipherTake hb
  grant s := .of (terms_walk.grant s) (bases_walk.grant s) fun ht hb h => h.grant ht hb
  cipherEnd s := .of (terms_walk.cipherEnd s) (bases_walk.cipherEnd s) fun _ hb h => h.cipherEnd hb
  takeSector t i j sector s hj := .of (terms_walk.takeSector t i j sector s hj) (bases_walk.takeSector t i j sector s hj)
    fun _ hb h => h.takeSector hb hj i sector
  admitRequest k t r s hnew := .of (terms_walk.admitRequest k t r s hnew) (bases_walk.admitRequest k t r s hnew)
    fun _ _ h => h.admitRequest k r hnew

theorem Asks.emptyTable (s : State) : Asks s (emptyTable s) where
  tags _ := by simp [State.TagsOk, Machine.emptyTable, withdrawJobs]
  buffers := (JobsFrom.emptyTable s).buffers
  requests _ hb h := h.emptyTable hb

/-- The record whose COMPLETE holds the output leaves the table, and the output falls free (R28). -/
theorem Asks.dropSent {s : State} {t : Fin 16} (houtput : s.uli.output = .complete t) :
    Asks s (freeOutput (dropTxn t s)) where
  tags ht := ht.sublist (List.filter_sublist.map _)
  buffers := id
  requests _ _ h := by
    obtain ⟨x, hx, hdone⟩ := h.sending t houtput
    exact h.dropTxn hx hdone

/-- The record of a COMPLETE sent leaves the table, and what was held back follows (R28). -/
theorem completeSent_cases {R : State → State → Prop} (w : Walk R) {s : State}
    (hdrop : ∀ (u : State) (t : Fin 16), s.uli.output = .complete t → u.uli.output = .complete t → u.ubp = s.ubp →
      R u (freeOutput (dropTxn t u)))
    (hsent : ∀ u : State, u.txns = s.txns → u.ubp = s.ubp → u.dli = s.dli → u.swu.discardOut = s.swu.discardOut →
      u.uli.output = s.uli.output → R s u) : R s (completeSent s) := by
  unfold Machine.completeSent
  split
  next t houtput =>
    split
    next x hx =>
      refine w.trans (w.trans (hsent (sendUp (.complete (s.completeOf x)) (if x.kind = .state then stateSent s else s))
        ?_ ?_ ?_ ?_ ?_) (hdrop _ t houtput ?_ ?_)) (w.settle _)
      any_goals split <;> rfl
      split <;> exact houtput
    next => exact w.refl s
  · exact w.refl s

theorem Asks.completeSent (s : State) : Asks s (completeSent s) :=
  completeSent_cases asks_walk (fun _ _ _ houtput _ => .dropSent houtput) fun _ htxns hubp hdli hsweep houtput =>
    .of_same htxns (by rw [hubp]) (by rw [hdli]) (by rw [hdli]) (by rw [hdli]) hsweep (.inl houtput)

/-- A part just released has a list in keeping with its owners: it is empty. -/
theorem Asks.atRelease (nvm : Nvm) (n : Nat) (up : List UpRecord) (down : List DownRecord) (p : List Instr) (s : State) :
    Asks s (State.atRelease nvm n up down p) := by
  have hsafe := State.atRelease_safe nvm n up down p
  exact ⟨fun _ => hsafe.tags, fun _ => hsafe.buffers, fun _ _ _ => hsafe.requests⟩

/-- A walk that the emptying of the table, the images read and the changes of power meet too is met by every command but
COMPLETE_SENT. -/
theorem Walk.exec_but_completeSent {R : State → State → Prop} (w : Walk R) (hempty : ∀ s, R s (Machine.emptyTable s))
    (himages : ∀ s, R s (readImages s)) (hon : ∀ s, R s (powerOn s)) (hloss : ∀ fate s, R s (powerLoss fate s))
    (hclock : ∀ s, R s (s.setInd (patternTick s.ind))) {c : Instr} (hc : c ≠ .completeSent) {s t : State}
    (h : Machine.exec c s = .next t) : R s t := by
  cases c with
  | powerOn => cases h; exact hon s
  | powerLoss fate => cases h; exact hloss fate s
  | ksReadingComplete =>
    cases h
    by_cases hp : s.power = .reading
    · exact w.trans (himages s) (w.readingComplete hempty hp)
    · rw [Machine.readingComplete, if_neg hp]
      exact w.refl s
  | linkReset => exact w.exec_link hempty (.inl rfl) h
  | suspend => exact w.exec_link hempty (.inr (.inl rfl)) h
  | resume => exact w.exec_link hempty (.inr (.inr (.inl rfl))) h
  | refusalSent => exact w.exec_link hempty (.inr (.inr (.inr rfl))) h
  | completeSent => exact absurd rfl hc
  | _ => exact w.exec (fun _ => hclock s) rfl h

/-- What holds of every released part holds of a part after POWER_ON, or the part stays as it was. -/
theorem powerOn_cases {R : State → State → Prop} (s : State) (hrefl : R s s)
    (hrelease : ∀ nvm n up down p, R s (State.atRelease nvm n up down p)) : R s (powerOn s) := by
  unfold powerOn
  split
  · exact hrelease _ _ _ _ _
  · exact hrefl

theorem exec_asks {c : Instr} {s t : State} (h : exec c s = .next t) : Asks s t := by
  by_cases hc : c = .completeSent
  · subst hc
    exact asks_walk.whenRunning h (.completeSent s)
  · refine asks_walk.exec_but_completeSent Asks.emptyTable (fun _ => .of_same rfl rfl rfl rfl rfl rfl (.inl rfl))
      (fun s => powerOn_cases s (.refl s) fun _ _ _ _ _ => .atRelease _ _ _ _ _ s) (fun fate s => ?_)
      (fun _ => .of_same rfl rfl rfl rfl rfl rfl (.inl rfl)) hc h
    unfold powerLoss
    split
    · exact .refl s
    · exact (Asks.atRelease (s.ks.afterLoss fate s.draws) (s.draws + 1) s.uli.sent s.dli.sent s.pending s).trans
        (.of_same rfl rfl rfl rfl rfl rfl (.inl rfl))

end Sys2Proof.Machine


/-! PROOF. The jobs of a transaction (O10): its jobs-held field counts them, four at most (R43, R44). -/

namespace Sys2Proof.Machine

open Sys2Proof

/-! ## Counting jobs -/

/-- What the counts rest on: of each record its tag and its jobs-held field, of each job its transaction and whether it is
abandoned. -/
def State.heldPart (s : State) : List (Fin 16 × Nat) × List (Fin 16 × Bool) :=
  (s.txns.map (fun x => (x.tag, x.jobsHeld)), s.ubp.jobs.map (fun j => (j.owner, j.abandoned)))

theorem State.jobsOf_eq_countP (s : State) (t : Fin 16) : s.jobsOf t = s.ubp.jobs.countP (fun j => j.isOf t) :=
  (List.countP_eq_length_filter).symm

theorem State.jobsOf_eq_count (s : State) (t : Fin 16) : s.jobsOf t = s.heldPart.2.count (t, false) := by
  rw [State.jobsOf_eq_countP, State.heldPart, List.count, List.countP_map]
  congr 1
  funext j
  cases h : j.abandoned <;> simp [Job.isOf, h]

theorem State.txn?_isSome {s : State} {t : Fin 16} : (s.txn? t).isSome = true ↔ ∃ x ∈ s.txns, x.tag = t := by
  simp [State.txn?, List.find?_isSome]

theorem State.heldOk_iff (s : State) : s.HeldOk ↔
    (∀ p ∈ s.heldPart.1, p.2 = s.heldPart.2.count (p.1, false) ∧ s.heldPart.2.count (p.1, false) ≤ 4) ∧
    ∀ q ∈ s.heldPart.2, q.2 = false → ∃ p ∈ s.heldPart.1, p.1 = q.1 := by
  simp [State.HeldOk, State.jobsOf_eq_count, State.txn?_isSome, State.heldPart]

theorem State.HeldOk.of_same {s t : State} (h : s.HeldOk) (ht : t.heldPart = s.heldPart) : t.HeldOk := by
  rw [State.heldOk_iff, ht]
  exact s.heldOk_iff.1 h

/-- The count where `n` jobs have left a transaction. -/
theorem State.HeldOk.released {s t : State} (h : s.HeldOk) {tag : Fin 16} {n : Nat}
    (hrecords : t.heldPart.1 = (releaseHeld tag n s).heldPart.1)
    (hcount : ∀ u, t.jobsOf u = if u = tag then s.jobsOf u - n else s.jobsOf u)
    (hjobs : ∀ k ∈ t.ubp.jobs, k.abandoned = false → ∃ j ∈ s.ubp.jobs, j.abandoned = false ∧ j.owner = k.owner) :
    t.HeldOk := by
  obtain ⟨hheld, hnamed⟩ := h
  have hfrom (p : Fin 16 × Nat) : p ∈ t.heldPart.1 ↔
      ∃ x ∈ s.txns, (x.tag, if x.tag = tag then x.jobsHeld - n else x.jobsHeld) = p := by
    rw [hrecords]
    simp only [State.heldPart, releaseHeld, updTxn_txns, List.map_map, List.mem_map]
    refine exists_congr fun x => and_congr_right fun _ => ?_
    by_cases hx : x.tag = tag <;> simp [hx]
  refine ⟨fun y hy => ?_, fun k hk hkept => ?_⟩
  · obtain ⟨x, hx, hxy⟩ := (hfrom (y.tag, y.jobsHeld)).1 (List.mem_map.2 ⟨y, hy, rfl⟩)
    obtain ⟨htag, hval⟩ := Prod.mk.inj hxy
    obtain ⟨heq, hle⟩ := hheld x hx
    rw [hcount, ← htag, ← hval, ← heq]
    split <;> omega
  · obtain ⟨j, hj, hkeptj, howner⟩ := hjobs k hk hkept
    obtain ⟨x, hx, htag⟩ := State.txn?_isSome.1 (hnamed j hj hkeptj)
    obtain ⟨y, hy, hxy⟩ := List.mem_map.1 ((hfrom _).2 ⟨x, hx, rfl⟩)
    exact State.txn?_isSome.2 ⟨y, hy, (Prod.mk.inj hxy).1.trans (htag.trans howner)⟩

/-! ## Records and jobs -/

theorem updTxn_heldPart {tag : Fin 16} {f : Txn → Txn} (hf : ∀ x, (f x).tag = x.tag ∧ (f x).jobsHeld = x.jobsHeld)
    (s : State) : (updTxn tag f s).heldPart = s.heldPart := by
  refine Prod.ext ?_ rfl
  simp only [State.heldPart, updTxn_txns, List.map_map]
  refine List.map_congr_left fun x _ => ?_
  by_cases hx : x.tag = tag <;> simp [hx, hf]

theorem updJob_heldPart {b : Fin 8} {f : Job → Job} (hf : ∀ j, (f j).owner = j.owner ∧ (f j).abandoned = j.abandoned)
    (s : State) : (updJob b f s).heldPart = s.heldPart := by
  refine Prod.ext rfl ?_
  simp only [State.heldPart, updJob_jobs, List.map_map]
  refine List.map_congr_left fun j _ => ?_
  by_cases hj : j.buf = b <;> simp [hj, hf]

theorem heldPart_congr {s t : State} (htxns : t.txns = s.txns) (hjobs : t.ubp.jobs = s.ubp.jobs) : t.heldPart = s.heldPart := by
  simp [State.heldPart, htxns, hjobs]

theorem setDone_heldPart (tag : Fin 16) (s : State) : (setDone tag s).heldPart = s.heldPart :=
  updTxn_heldPart (by exact fun _ => ⟨rfl, rfl⟩) s

theorem progress_heldPart (tag : Fin 16) (s : State) : (progress tag s).heldPart = s.heldPart := by
  unfold progress
  split
  · rfl
  · split
    · split
      · exact setDone_heldPart _ s
      · rfl
    · split
      · rfl
      · exact setDone_heldPart _ s
    · rfl

theorem addDone_heldPart (tag : Fin 16) (k : Nat) (s : State) : (addDone tag k s).heldPart = s.heldPart :=
  updTxn_heldPart (by exact fun _ => ⟨rfl, rfl⟩) s

theorem leaveMarks_heldPart (b : Fin 8) (s : State) : (leaveMarks b s).heldPart = s.heldPart := by
  refine Prod.ext ?_ (by simp [State.heldPart])
  simp [State.heldPart, leaveMarks_txns, Function.comp_def]

/-- A job of the table ends (R44). -/
theorem State.HeldOk.endJob {s : State} (h : s.HeldOk) (hb : s.BuffersOk) {j : Job} (hj : j ∈ s.ubp.jobs) :
    (endJob j s).HeldOk := by
  have hnodup : s.ubp.jobs.Nodup := List.Nodup.of_map _ hb
  have hjobs : (Machine.endJob j s).ubp.jobs = s.ubp.jobs.erase j := by
    rw [endJob_jobs, hnodup.erase_eq_filter]
    refine List.filter_congr fun k hk => ?_
    by_cases hkj : k = j
    · simp [hkj]
    · have hne : k.buf ≠ j.buf := fun hbuf => hkj (hb.eq_of_buf hk hj hbuf)
      rw [bne_iff_ne.2 hne, bne_iff_ne.2 hkj]
  have hcount (u : Fin 16) : (Machine.endJob j s).jobsOf u = s.jobsOf u - if j.isOf u then 1 else 0 := by
    rw [State.jobsOf_eq_countP, State.jobsOf_eq_countP, hjobs, List.countP_erase]
    simp [hj]
  refine h.released (tag := j.owner) (n := if j.abandoned then 0 else 1) ?_ (fun u => ?_) fun k hk hkept => ?_
  · unfold Machine.endJob
    split
    next habandoned =>
      exact congrArg (List.map _) (updTxn_id_txns j.owner s).symm
    next habandoned =>
      rfl
  · rw [hcount]
    by_cases hu : u = j.owner
    · subst hu
      cases ha : j.abandoned <;> simp [Job.isOf, ha]
    · have hne : j.isOf u = false := by simp [Job.isOf, Ne.symm hu]
      simp [hne, hu]
  · rw [hjobs] at hk
    exact ⟨k, List.mem_of_mem_erase hk, hkept, rfl⟩

/-- The jobs a failure leaves to its transaction, and those that leave it, are the jobs it had (R60). -/
theorem countP_disposed (t : Fin 16) (l : List Job) :
    (l.filterMap (fun j => if j.isOf t then j.atFailure else some j)).countP (fun j => j.isOf t) +
      l.countP (fun j => j.isOf t && j.leavesAtFailure) = l.countP (fun j => j.isOf t) := by
  induction l with
  | nil => rfl
  | cons j l ih =>
    by_cases hof : j.isOf t
    · cases hfate : j.atFailure with
      | none =>
        have hleaves : j.leavesAtFailure = true := by simp [Job.leavesAtFailure, hfate]
        simp [hof, hfate, hleaves]
        omega
      | some k =>
        obtain ⟨-, howner, -⟩ := Job.atFailure_fields hfate
        have hk : k.isOf t = !k.abandoned := by
          have : j.owner = t := by simp only [Job.isOf, Bool.and_eq_true, beq_iff_eq] at hof; exact hof.1
          simp [Job.isOf, howner, this]
        have hleaves : j.leavesAtFailure = k.abandoned := by simp [Job.leavesAtFailure, hfate]
        cases ha : k.abandoned <;> simp [hof, hfate, hleaves, hk, ha] <;> omega
    · simpa [List.countP_cons, hof] using ih

/-- The jobs of the other transactions stay as many. -/
theorem countP_disposed_of_ne {t u : Fin 16} (h : u ≠ t) (l : List Job) :
    (l.filterMap (fun j => if j.isOf t then j.atFailure else some j)).countP (fun j => j.isOf u) =
      l.countP (fun j => j.isOf u) := by
  induction l with
  | nil => rfl
  | cons j l ih =>
    by_cases hof : j.isOf t
    · have howner : j.owner = t := by simp only [Job.isOf, Bool.and_eq_true, beq_iff_eq] at hof; exact hof.1
      have hj : j.isOf u = false := by simp [Job.isOf, howner, Ne.symm h]
      cases hfate : j.atFailure with
      | none => simp [hof, hfate, hj, ih]
      | some k =>
        obtain ⟨-, hsame, -⟩ := Job.atFailure_fields hfate
        have hk : k.isOf u = false := by simp [Job.isOf, hsame, howner, Ne.symm h]
        simp [hof, hfate, hj, hk, ih]
    · simp [hof, List.countP_cons, ih]

theorem State.HeldOk.failTxn {s : State} (h : s.HeldOk) (t : Fin 16) (f : Failure) : (failTxn t f s).HeldOk := by
  by_cases hx : ∃ x, s.txn? t = some x ∧ x.phase = .active ∧ x.failure = none
  case neg =>
    rwa [failTxn_of_inactive fun x hxt => ?_]
    by_contra hne
    exact hx ⟨x, hxt, by simpa [not_or] using hne⟩
  obtain ⟨x, hx, hactive, hfresh⟩ := hx
  have htag := State.tag_of_txn? hx
  have hjobs : (Machine.failTxn t f s).ubp.jobs =
      if x.isUserTransfer then s.ubp.jobs.filterMap (fun j => if j.isOf t then j.atFailure else some j) else s.ubp.jobs := by
    rw [failTxn_of_active hx hactive hfresh]
    split <;> simp [disposeWork_jobs, htag]
  refine h.released (tag := t) (n := s.leaving x) ?_ (fun u => ?_) fun k hk hkept => ?_
  · rw [State.heldPart, failTxn_table hx hactive hfresh]
    simp only [State.heldPart, releaseHeld, updTxn_txns, List.map_map]
    refine List.map_congr_left fun y _ => ?_
    by_cases hy : y.tag = t <;> simp [hy, Txn.failed]
  · rw [State.jobsOf_eq_countP, State.jobsOf_eq_countP, hjobs]
    unfold State.leaving
    split
    · split
      next hu =>
        subst hu
        have hsplit := countP_disposed u s.ubp.jobs
        rw [htag, List.filter_filter, ← List.countP_eq_length_filter]
        simp only [Bool.and_comm] at hsplit ⊢
        omega
      next hu => exact countP_disposed_of_ne hu _
    · simp
  · rw [hjobs] at hk
    split at hk
    · obtain ⟨j, hj, hfate⟩ := List.mem_filterMap.1 hk
      split at hfate
      next hof =>
        obtain ⟨-, howner, -⟩ := Job.atFailure_fields hfate
        simp only [Job.isOf, Bool.and_eq_true, Bool.not_eq_true'] at hof
        obtain ⟨-, hkeptj⟩ := hof
        exact ⟨j, hj, hkeptj, howner.symm⟩
      next =>
        cases hfate
        exact ⟨k, hj, hkept, rfl⟩
    · exact ⟨k, hk, hkept, rfl⟩

theorem State.HeldOk.stopCipher {s : State} (h : s.HeldOk) (hb : s.BuffersOk) : (stopCipher s).HeldOk := by
  have hmem : ∀ j ∈ s.ubp.jobs.filter (fun j => j.ciphering), j ∈ s.ubp.jobs := fun j hj => (List.mem_filter.1 hj).1
  have hbufs : ((s.ubp.jobs.filter (fun j => j.ciphering)).map (fun j => j.buf)).Nodup :=
    hb.sublist (List.filter_sublist.map _)
  unfold Machine.stopCipher
  generalize s.ubp.jobs.filter (fun j => j.ciphering) = l at hmem hbufs
  induction l generalizing s with
  | nil => exact h
  | cons j l ih =>
    obtain ⟨hnot, hbufs⟩ := List.nodup_cons.1 hbufs
    refine ih (h.endJob hb (hmem j (by simp))) ((JobsFrom.endJob j s).buffers hb) (fun k hk => ?_) hbufs
    rw [endJob_jobs]
    have hne : k.buf ≠ j.buf := fun hkj => hnot (List.mem_map.2 ⟨k, hk, hkj⟩)
    simpa [hne] using hmem k (by simp [hk])

/-! ## Completions (R48 to R53, R61) -/

theorem placePage_heldPart (b : Fin 8) (page : List Byte) (s : State) : (placePage b page s).heldPart = s.heldPart :=
  heldPart_congr (by simp) (by simp)

theorem State.HeldOk.jobCompletion {s : State} (h : s.HeldOk) (hb : s.BuffersOk) (b : Fin 8) (op : DOp) (ok : Bool)
    (page : List Byte) : (jobCompletion b op ok page s).HeldOk := by
  unfold Machine.jobCompletion
  split
  · exact h
  next j hj =>
    have hmem := State.mem_of_job? hj
    split
    next habandoned =>
      have hplaced : (if ok then placePage b page s else s).heldPart = s.heldPart := by
        split
        · exact placePage_heldPart b page s
        · rfl
      have hjobs : (if ok then placePage b page s else s).ubp.jobs = s.ubp.jobs := by split <;> simp
      have hdrop : (dropJob j.buf (if ok then placePage b page s else s)).HeldOk := by
        have hended := (h.of_same hplaced).endJob ((JobsFrom.of_same hjobs).buffers hb) (hjobs.symm ▸ hmem)
        rwa [Machine.endJob, if_pos habandoned] at hended
      unfold endAbandoned
      split
      · exact hdrop.of_same (leaveMarks_heldPart _ _)
      · exact hdrop
    next =>
      have hended := h.endJob hb hmem
      split
      · unfold readEnd
        split
        · exact h.of_same ((updJob_heldPart (by exact fun _ => ⟨rfl, rfl⟩) _).trans (placePage_heldPart _ _ s))
        · exact (hended.failTxn _ _).of_same (progress_heldPart _ _)
      · unfold writeEnd
        split
        · have hshown (u : State) : (activityRequest u).heldPart = u.heldPart := heldPart_congr (by simp) (by simp)
          refine hended.of_same ?_
          rw [progress_heldPart, hshown, leaveMarks_heldPart, addDone_heldPart]
        · exact ((hended.of_same (leaveMarks_heldPart _ _)).failTxn _ _).of_same (progress_heldPart _ _)
      · exact h

theorem State.HeldOk.ownerTakes {s : State} (h : s.HeldOk) (hb : s.BuffersOk) (op : DOp) (o : Owner) (ok lost : Bool)
    (page : List Byte) : (ownerTakes op o ok lost page s).HeldOk := by
  unfold Machine.ownerTakes
  split
  · exact h.jobCompletion hb _ _ _ _
  · unfold syncEnd
    split
    · exact h
    · split
      · split
        · exact h.of_same (setDone_heldPart _ s)
        · exact h.failTxn _ _
      · exact h.of_same (progress_heldPart _ s)
      · exact h
  · split
    · exact h.of_same (heldPart_congr (by simp) (by simp))
    · exact h
  · exact h

/-! ## Starts and admissions (R20, R46, R47) -/

theorem State.HeldOk.startJob {s : State} (h : s.HeldOk) {b : Fin 8} {x : Txn} (hb : s.freeBuffer = some b)
    (hx : s.txns.find? s.eligible = some x) (u : Nat) : (startJob b x u s).HeldOk := by
  obtain ⟨hheld, hnamed⟩ := h
  have hmem := List.mem_of_find?_eq_some hx
  obtain ⟨-, -, -, hfew, -⟩ := (s.eligible_iff x).1 (List.find?_some hx)
  have hjobs := startJob_jobs (State.freeBuffer_spec hb) x u
  have hcount (t : Fin 16) : (Machine.startJob b x u s).jobsOf t = s.jobsOf t + if x.tag = t then 1 else 0 := by
    rw [State.jobsOf_eq_countP, State.jobsOf_eq_countP, hjobs, List.countP_append]
    simp [Job.isOf, Job.started]
  refine ⟨fun y hy => ?_, fun j hj hkept => ?_⟩
  · rw [startJob_txns, updTxn_txns] at hy
    obtain ⟨z, hz, rfl⟩ := List.mem_map.1 hy
    obtain ⟨heq, hle⟩ := hheld z hz
    obtain ⟨hxeq, -⟩ := hheld x hmem
    by_cases hzx : z.tag = x.tag
    · simp only [hzx, if_true, hcount]
      rw [hzx] at heq hle
      omega
    · simp only [hzx, if_false, hcount, Ne.symm hzx]
      omega
  · have hstays (t : Fin 16) (hex : ∃ y ∈ s.txns, y.tag = t) : ((Machine.startJob b x u s).txn? t).isSome = true := by
      obtain ⟨y, hy, htag⟩ := hex
      refine State.txn?_isSome.2 ⟨_, by rw [startJob_txns, updTxn_txns]; exact List.mem_map_of_mem hy, ?_⟩
      split <;> exact htag
    rw [hjobs] at hj
    rcases List.mem_append.1 hj with hj | hj
    · exact hstays _ (State.txn?_isSome.1 (hnamed j hj hkept))
    · rw [List.mem_singleton.1 hj]
      exact hstays _ ⟨x, hmem, rfl⟩

theorem State.admitted_jobsHeld (s : State) (k : TxKind) (tag : Fin 16) (r : Request) :
    (s.admitted k tag r).jobsHeld = 0 := by
  have hclamped (x : Txn) (n : Option Nat) : (x.clamped n).jobsHeld = x.jobsHeld := by
    unfold Txn.clamped
    dsimp only
    split <;> rfl
  unfold State.admitted
  dsimp only
  repeat' split
  all_goals simp [hclamped, Txn.atAdmission]

/-- A tag out of the table has no jobs. -/
theorem State.HeldOk.jobsOf_new {s : State} (h : s.HeldOk) {t : Fin 16} (ht : s.txn? t = none) : s.jobsOf t = 0 := by
  obtain ⟨-, hnamed⟩ := h
  rw [State.jobsOf_eq_countP, List.countP_eq_zero]
  intro j hj hof
  simp only [Job.isOf, Bool.and_eq_true, beq_iff_eq, Bool.not_eq_true'] at hof
  obtain ⟨howner, hkept⟩ := hof
  simpa [howner, ht] using hnamed j hj hkept

theorem State.HeldOk.admitRequest {s : State} (h : s.HeldOk) (k : TxKind) {t : Fin 16} (r : Request)
    (ht : s.txn? t = none) : (admitRequest k t r s).HeldOk := by
  obtain ⟨htag, -⟩ := s.admitted_fields k t r
  have hcount (u : Fin 16) : (Machine.admitRequest k t r s).jobsOf u = s.jobsOf u := by
    simp [State.jobsOf]
  refine ⟨fun y hy => ?_, fun j hj hkept => ?_⟩
  · rw [hcount]
    rw [admitRequest_txns] at hy
    rcases List.mem_append.1 hy with hy | hy
    · exact h.1 y hy
    · rw [List.mem_singleton.1 hy, htag, h.jobsOf_new ht, State.admitted_jobsHeld]
      exact ⟨rfl, by omega⟩
  · obtain ⟨y, hy, hyj⟩ := State.txn?_isSome.1 (h.2 j (by simpa using hj) hkept)
    exact State.txn?_isSome.2 ⟨y, by rw [admitRequest_txns]; exact List.mem_append_left _ hy, hyj⟩

/-- With the table empty and every job abandoned there is nothing to count. -/
theorem State.HeldOk.of_emptied {s : State} (htxns : s.txns = []) (hjobs : ∀ j ∈ s.ubp.jobs, j.abandoned = true) :
    s.HeldOk := by
  refine ⟨by simp [htxns], fun j hj hkept => ?_⟩
  simp [hjobs j hj] at hkept

/-! ## Every command -/

/-- From `s` to `t` the jobs-held fields go on counting the jobs. -/
structure Held (s t : State) : Prop where
  tags : s.TagsOk → t.TagsOk
  buffers : s.BuffersOk → t.BuffersOk
  held : s.TagsOk → s.BuffersOk → s.HeldOk → t.HeldOk

theorem Held.of {s t : State} (h : Asks s t) (hheld : s.BuffersOk → s.HeldOk → t.HeldOk) : Held s t :=
  ⟨h.tags, h.buffers, fun _ => hheld⟩

theorem Held.of_same {s t : State} (h : Asks s t) (hsame : t.heldPart = s.heldPart) : Held s t :=
  .of h fun _ hs => hs.of_same hsame

theorem Held.of_lists {s t : State} (htxns : t.txns = s.txns) (hjobs : t.ubp.jobs = s.ubp.jobs) : Held s t :=
  ⟨(Terms.of_same htxns).tags, (JobsFrom.of_same hjobs).buffers, fun _ _ h => h.of_same (heldPart_congr htxns hjobs)⟩

theorem Held.trans {s t u : State} (h1 : Held s t) (h2 : Held t u) : Held s u :=
  ⟨h2.tags ∘ h1.tags, h2.buffers ∘ h1.buffers, fun ht hb h => h2.held (h1.tags ht) (h1.buffers hb) (h1.held ht hb h)⟩

/-- A map of the jobs that keeps their transaction and whether they are abandoned. -/
theorem heldPart_of_map {s t : State} (htxns : t.txns = s.txns) {f : Job → Job}
    (hf : ∀ j, (f j).owner = j.owner ∧ (f j).abandoned = j.abandoned) (hjobs : t.ubp.jobs = s.ubp.jobs.map f) :
    t.heldPart = s.heldPart := by
  simp [State.heldPart, htxns, hjobs, hf, Function.comp_def]

theorem issue_heldPart (d : Fin 4) (r : DReq) (s : State) : (issue d r s).heldPart = s.heldPart := by
  unfold issue tellIssued
  split
  next b _ => exact updJob_heldPart (f := fun j => { j with pageOp := .issued d }) (fun _ => ⟨rfl, rfl⟩) s
  · rfl
  · rfl

theorem cipherTake_heldPart (s : State) : (cipherTake s).heldPart = s.heldPart := by
  unfold cipherTake
  split
  · rfl
  · split
    · rfl
    · exact updJob_heldPart (by exact fun _ => ⟨rfl, rfl⟩) s

theorem grant_heldPart (s : State) : (grant s).heldPart = s.heldPart := by
  unfold grant startRun
  split
  · rfl
  · dsimp only
    split
    · split
      · exact updJob_heldPart (f := fun y => { y with state := .delivering }) (fun _ => ⟨rfl, rfl⟩) _
      · rfl
    · rfl

theorem cipherEnd_heldPart (s : State) : (cipherEnd s).heldPart = s.heldPart := by
  have hput (b : Fin 8) (u : Fin 4096 → Byte) : (putUnit b u s).heldPart = s.heldPart := heldPart_congr (by simp) (by simp)
  have hmoved (b : Fin 8) (u : Fin 4096 → Byte) (x : JobState) :
      (updJob b (fun y => { y with state := x }) (putUnit b u s)).heldPart = s.heldPart :=
    (updJob_heldPart (f := fun y => { y with state := x }) (fun _ => ⟨rfl, rfl⟩) _).trans (hput b u)
  have hwrite (b : Fin 8) (n : Nat) (v : State) : (requestWrite b n v).heldPart = v.heldPart :=
    (heldPart_congr (by simp) (by simp [requestWrite])).trans
      (updJob_heldPart (f := fun j => { j with pageOp := .requested }) (b := b) (fun _ => ⟨rfl, rfl⟩) v)
  unfold cipherEnd
  split
  · dsimp only
    split
    · exact hmoved _ _ _
    · exact hmoved _ _ _
    · exact (hwrite _ _ _).trans (hmoved _ _ _)
  · rfl

theorem takeSector_heldPart (i : Intake) (j : Job) (sector : List Byte) (s : State) :
    (takeSector i j sector s).heldPart = s.heldPart := by
  have hplaced : (placeSector j.buf i.next sector s).heldPart = s.heldPart := heldPart_congr (by simp) (by simp)
  unfold takeSector
  dsimp only
  split
  · exact (updJob_heldPart (f := fun y => { y with state := .encryptWait }) (fun _ => ⟨rfl, rfl⟩) _).trans hplaced
  · exact hplaced

theorem dataWaits_heldPart (s : State) : (dataWaits s).heldPart = s.heldPart :=
  heldPart_of_map rfl (f := fun j => if mayWait s.ubp.jobs j then { j with state := .dataWait } else j)
    (fun j => by split <;> exact ⟨rfl, rfl⟩) (dataWaits_jobs s)

theorem held_walk : Walk Held where
  refl s := .of_lists rfl rfl
  trans := .trans
  neutral hn := by
    obtain ⟨htxns, hjobs, -⟩ := hn
    exact .of_lists htxns hjobs
  judge s := .of_lists (by simp) (by simp)
  ksRequest r s := .of_lists rfl rfl
  endWrite c s := .of_lists rfl rfl
  enter a s := .of_lists (by simp) (by simp)
  presentOverlay s _ := .of_lists (by simp) (by simp)
  clearKey s := .of_lists rfl rfl
  loadKey k s _ := .of_lists rfl rfl
  loadSession k s _ := .of_lists rfl rfl
  failTxn t f s := .of (asks_walk.failTxn t f s) fun _ h => h.failTxn t f
  progress t s := .of_same (asks_walk.progress t s) (progress_heldPart t s)
  addDone t k s := .of_same (asks_walk.addDone t k s) (addDone_heldPart t k s)
  stopCipher s := .of (asks_walk.stopCipher s) fun hb h => h.stopCipher hb
  endRun t j s hj := .of (asks_walk.endRun t j s hj) fun hb h => h.endJob hb (List.mem_of_find?_eq_some hj)
  runOn t j s hj := .of_same (asks_walk.runOn t j s hj) (updJob_heldPart (by exact fun _ => ⟨rfl, rfl⟩) s)
  requestWindow c u s _ := .of_lists (by simp) (by simp)
  eraseHold s := .of_lists (by simp) (by simp)
  loseMedia s := .of_lists rfl rfl
  completion d x ok page s hx := .of (asks_walk.completion d x ok page s hx) fun hb h =>
    State.HeldOk.ownerTakes (by exact h) (by exact hb) _ _ _ _ _
  error o e s he := .of (asks_walk.error o e s he) fun hb h => State.HeldOk.ownerTakes (by exact h) (by exact hb) _ _ _ _ _
  startJob b x s hb hx := .of (asks_walk.startJob b x s hb hx) fun _ h => h.startJob hb hx _
  dataWaits s := .of_same (asks_walk.dataWaits s) (dataWaits_heldPart s)
  issue d r s hd hr := .of_same (asks_walk.issue d r s hd hr) (issue_heldPart d r s)
  cipherTake s := .of_same (asks_walk.cipherTake s) (cipherTake_heldPart s)
  grant s := .of_same (asks_walk.grant s) (grant_heldPart s)
  cipherEnd s := .of_same (asks_walk.cipherEnd s) (cipherEnd_heldPart s)
  takeSector t i j sector s hj := .of_same (asks_walk.takeSector t i j sector s hj) (takeSector_heldPart i j sector s)
  admitRequest k t r s hnew := .of (asks_walk.admitRequest k t r s hnew) fun _ h => h.admitRequest k r hnew

theorem Held.emptyTable (s : State) : Held s (emptyTable s) :=
  .of (.emptyTable s) fun _ _ => .of_emptied (by simp [Machine.emptyTable, withdrawJobs]) fun k hk => by
    obtain ⟨j, -, hfate⟩ := List.mem_filterMap.1 (emptyTable_jobs s ▸ hk)
    rw [Job.atEmptying_fields hfate]

theorem Held.of_none {s t : State} (htxns : t.txns = []) (hjobs : t.ubp.jobs = []) : Held s t :=
  ⟨fun _ => by simp [State.TagsOk, htxns], fun _ => by simp [State.BuffersOk, hjobs],
    fun _ _ _ => .of_emptied htxns (by simp [hjobs])⟩

/-- A record with no job left leaves the table (R28). -/
theorem State.HeldOk.dropTxn {s : State} (h : s.HeldOk) {t : Fin 16} (ht : s.jobsOf t = 0) : (dropTxn t s).HeldOk := by
  refine ⟨fun x hx => h.1 x (List.mem_filter.1 hx).1, fun j hj hkept => ?_⟩
  obtain ⟨x, hx, htag⟩ := State.txn?_isSome.1 (h.2 j hj hkept)
  refine State.txn?_isSome.2 ⟨x, List.mem_filter.2 ⟨hx, ?_⟩, htag⟩
  rw [bne_iff_ne, htag]
  rintro rfl
  rw [State.jobsOf_eq_countP, List.countP_eq_zero] at ht
  exact ht j hj (by simp [Job.isOf, hkept])

end Sys2Proof.Machine


/-! PROOF. Data is asked for in ascending order (O10): what each change of a job leaves of the order of the intake (R30, R47,
R51), and the tables' rules through every step. -/

namespace Sys2Proof.Machine

open Sys2Proof

/-! ## The order of the intake -/

/-- Below a job in DATA_WAIT every job of its transaction has all its data (R51), and a transaction's jobs lie below its next
unit (R47). -/
structure State.Ordered (s : State) : Prop where
  lower : ∀ k ∈ s.ubp.jobs, k.state = .dataWait → ∀ j ∈ s.ubp.jobs, j.WithOf k → j.unit < k.unit → j.HasAllData
  next : ∀ x ∈ s.txns, ∀ j ∈ s.ubp.jobs, j.isOf x.tag = true → ∃ u, x.nextUnit = some u ∧ j.unit < u

/-- Two jobs of one transaction in DATA_WAIT would each lie below the other, or on one unit (R30, R45). -/
theorem State.Ordered.waitsOk {s : State} (h : s.Ordered) (hu : s.UnitsOk) : s.WaitsOk where
  lower := h.lower
  next := h.next
  one k hk hkw j hj hwith hjw := by
    have hnone {i : Job} (hi : i.state = .dataWait) : ¬ i.HasAllData := by simp [Job.HasAllData, hi]
    rcases Nat.lt_trichotomy j.unit k.unit with hlt | heq | hlt
    · exact absurd (h.lower k hk hkw j hj hwith hlt) (hnone hjw)
    · exact List.inj_on_of_nodup_map hu hj hk heq
    · obtain ⟨howner, hj', hk'⟩ := hwith
      exact absurd (h.lower j hj hjw k hk ⟨howner.symm, hk', hj'⟩ hlt) (hnone hkw)

theorem State.WaitsOk.ordered {s : State} (h : s.WaitsOk) : s.Ordered := ⟨h.lower, h.next⟩

/-- The job `k` comes of `j`: for its transaction, on its unit, not taken up again, its data kept, and in DATA_WAIT only where
`j` is. -/
structure Job.Becomes (j k : Job) : Prop where
  owner : k.owner = j.owner
  unit : k.unit = j.unit
  kept : k.abandoned = false → j.abandoned = false
  data : j.HasAllData → k.HasAllData
  wait : k.state = .dataWait → j.state = .dataWait

theorem Job.Becomes.refl (j : Job) : j.Becomes j := ⟨rfl, rfl, id, id, id⟩

theorem Job.Becomes.trans {i j k : Job} (h1 : i.Becomes j) (h2 : j.Becomes k) : i.Becomes k :=
  ⟨h2.owner.trans h1.owner, h2.unit.trans h1.unit, h1.kept ∘ h2.kept, h2.data ∘ h1.data, h1.wait ∘ h2.wait⟩

/-- A job that keeps its state, or is abandoned. -/
theorem Job.Becomes.of_state {j k : Job} (howner : k.owner = j.owner) (hunit : k.unit = j.unit)
    (hkept : k.abandoned = false → j.abandoned = false) (hstate : k.state = j.state) : j.Becomes k :=
  ⟨howner, hunit, hkept, by simp [Job.HasAllData, hstate], by simp [hstate]⟩

/-- From `s` to `t` jobs have ended or moved on, and no record has got another next unit. -/
structure Onward (s t : State) : Prop where
  jobs : ∀ k ∈ t.ubp.jobs, ∃ j ∈ s.ubp.jobs, j.Becomes k
  records : ∀ y ∈ t.txns, ∃ x ∈ s.txns, x.tag = y.tag ∧ x.nextUnit = y.nextUnit

theorem Onward.refl (s : State) : Onward s s := ⟨fun k hk => ⟨k, hk, .refl k⟩, fun y hy => ⟨y, hy, rfl, rfl⟩⟩

theorem Onward.trans {s t u : State} (h1 : Onward s t) (h2 : Onward t u) : Onward s u where
  jobs k hk := by
    obtain ⟨j, hj, hjk⟩ := h2.jobs k hk
    obtain ⟨i, hi, hij⟩ := h1.jobs j hj
    exact ⟨i, hi, hij.trans hjk⟩
  records z hz := by
    obtain ⟨y, hy, htag, hnext⟩ := h2.records z hz
    obtain ⟨x, hx, htag', hnext'⟩ := h1.records y hy
    exact ⟨x, hx, htag'.trans htag, hnext'.trans hnext⟩

theorem State.Ordered.onward {s t : State} (h : s.Ordered) (ht : Onward s t) : t.Ordered where
  lower k hk hwait j hj hwith hlt := by
    obtain ⟨k', hk', hkk⟩ := ht.jobs k hk
    obtain ⟨j', hj', hjj⟩ := ht.jobs j hj
    obtain ⟨howner, hja, hka⟩ := hwith
    refine hjj.data (h.lower k' hk' (hkk.wait hwait) j' hj' ⟨?_, hjj.kept hja, hkk.kept hka⟩ ?_)
    · rw [← hjj.owner, ← hkk.owner, howner]
    · rwa [← hjj.unit, ← hkk.unit]
  next y hy j hj hof := by
    obtain ⟨x, hx, htag, hnext⟩ := ht.records y hy
    obtain ⟨j', hj', hjj⟩ := ht.jobs j hj
    simp only [Job.isOf, Bool.and_eq_true, beq_iff_eq, Bool.not_eq_true'] at hof
    obtain ⟨howner, hkept⟩ := hof
    rw [← hnext, hjj.unit]
    refine h.next x hx j' hj' ?_
    simp [Job.isOf, htag, ← howner, hjj.owner, hjj.kept hkept]

/-! ## What the operations do to the order -/

theorem Onward.of_lists {s t : State} (htxns : t.txns = s.txns) (hjobs : t.ubp.jobs = s.ubp.jobs) : Onward s t :=
  ⟨fun k hk => ⟨k, hjobs ▸ hk, .refl k⟩, fun y hy => ⟨y, htxns ▸ hy, rfl, rfl⟩⟩

/-- The lists of `t` are those of `u`. -/
theorem Onward.same_right {s t u : State} (h : Onward s t) (htxns : u.txns = t.txns) (hjobs : u.ubp.jobs = t.ubp.jobs) :
    Onward s u := h.trans (.of_lists htxns hjobs)

theorem Onward.updTxn {tag : Fin 16} {f : Txn → Txn} (hf : ∀ x, (f x).tag = x.tag ∧ (f x).nextUnit = x.nextUnit) (s : State) :
    Onward s (updTxn tag f s) where
  jobs k hk := ⟨k, hk, .refl k⟩
  records y hy := by
    obtain ⟨x, hx, rfl⟩ := List.mem_map.1 hy
    obtain ⟨htag, hnext⟩ := hf x
    refine ⟨x, hx, ?_⟩
    split
    · exact ⟨htag.symm, hnext.symm⟩
    · exact ⟨rfl, rfl⟩

theorem Onward.updJob {b : Fin 8} {f : Job → Job} {s : State} (hf : ∀ j ∈ s.ubp.jobs, j.buf = b → j.Becomes (f j)) :
    Onward s (updJob b f s) where
  jobs k hk := by
    obtain ⟨j, hj, rfl⟩ := List.mem_map.1 hk
    refine ⟨j, hj, ?_⟩
    split
    next hb => exact hf j hj hb
    next => exact .refl j
  records y hy := ⟨y, hy, rfl, rfl⟩

theorem Onward.dropJob (b : Fin 8) (s : State) : Onward s (dropJob b s) where
  jobs k hk := ⟨k, (List.mem_filter.1 hk).1, .refl k⟩
  records y hy := ⟨y, hy, rfl, rfl⟩

theorem Onward.endJob (j : Job) (s : State) : Onward s (endJob j s) := by
  unfold Machine.endJob
  split
  · exact .dropJob _ s
  · exact (Onward.dropJob j.buf s).trans (.updTxn (by exact fun _ => ⟨rfl, rfl⟩) _)

theorem Onward.setDone (tag : Fin 16) (s : State) : Onward s (setDone tag s) := .updTxn (by exact fun _ => ⟨rfl, rfl⟩) s

theorem Onward.progress (tag : Fin 16) (s : State) : Onward s (progress tag s) := by
  unfold Machine.progress
  split
  · exact .refl s
  · split
    · split
      · exact .setDone _ s
      · exact .refl s
    · split
      · exact .refl s
      · exact .setDone _ s
    · exact .refl s

theorem Onward.addDone (tag : Fin 16) (k : Nat) (s : State) : Onward s (addDone tag k s) :=
  .updTxn (by exact fun _ => ⟨rfl, rfl⟩) s

theorem Onward.leaveMarks (b : Fin 8) (s : State) : Onward s (leaveMarks b s) where
  jobs k hk := ⟨k, by simpa using hk, .refl k⟩
  records y hy := by
    obtain ⟨x, hx, rfl⟩ := List.mem_map.1 (leaveMarks_txns b s ▸ hy)
    exact ⟨x, hx, rfl, rfl⟩

theorem Onward.failTxn (t : Fin 16) (f : Failure) (s : State) : Onward s (failTxn t f s) where
  jobs k hk := by
    rcases failTxn_jobs t f s with hjobs | ⟨x, -, -, -, -, hjobs⟩
    · exact ⟨k, hjobs ▸ hk, .refl k⟩
    · obtain ⟨j, hj, hfate⟩ := List.mem_filterMap.1 (hjobs ▸ hk)
      refine ⟨j, hj, ?_⟩
      split at hfate
      next hof =>
        obtain ⟨-, howner, hunit, hstate, -⟩ := Job.atFailure_fields hfate
        simp only [Job.isOf, Bool.and_eq_true, Bool.not_eq_true'] at hof
        obtain ⟨-, hkept⟩ := hof
        exact .of_state howner hunit (fun _ => hkept) hstate
      next =>
        cases hfate
        exact .refl _
  records y hy := by
    by_cases hx : ∃ x, s.txn? t = some x ∧ x.phase = .active ∧ x.failure = none
    · obtain ⟨x, hx, hactive, hfresh⟩ := hx
      rw [failTxn_table hx hactive hfresh] at hy
      exact (Onward.updTxn (by exact fun _ => ⟨rfl, rfl⟩) s).records y hy
    · rw [failTxn_of_inactive fun x hxt => ?_] at hy
      · exact ⟨y, hy, rfl, rfl⟩
      · by_contra hne
        exact hx ⟨x, hxt, by simpa [not_or] using hne⟩

theorem Onward.stopCipher (s : State) : Onward s (stopCipher s) := by
  unfold Machine.stopCipher
  generalize s.ubp.jobs.filter (fun j => j.ciphering) = l
  induction l generalizing s with
  | nil => exact .refl s
  | cons j l ih => exact (Onward.endJob j s).trans (ih _)

theorem Onward.jobCompletion {b : Fin 8} {op : DOp} {s : State} (hb : s.BuffersOk)
    (hread : ∀ n j, op = .pageRead n → s.job? b = some j → ¬ j.HasAllData) (ok : Bool) (page : List Byte) :
    Onward s (jobCompletion b op ok page s) := by
  unfold Machine.jobCompletion
  split
  · exact .refl s
  next j hj =>
    have hplaced (c : Fin 8) : Onward s (placePage c page s) := .of_lists (by simp) (by simp)
    split
    · have hplaced : Onward s (if ok then placePage b page s else s) := by
        split
        · exact hplaced b
        · exact .refl s
      have hdrop := hplaced.trans (.dropJob j.buf _)
      unfold endAbandoned
      split
      · exact hdrop.trans (.leaveMarks _ _)
      · exact hdrop
    · have hended := Onward.endJob j s
      split
      next n =>
        unfold readEnd
        split
        · refine (hplaced j.buf).trans (.updJob fun k hk hbuf => ?_)
          have hk : k ∈ s.ubp.jobs := by simpa using hk
          obtain rfl := hb.eq_of_buf hk (State.mem_of_job? hj) hbuf
          exact ⟨rfl, rfl, id, fun hdata => absurd hdata (hread n k rfl hj), by simp⟩
        · exact (hended.trans (.failTxn _ _ _)).trans (.progress _ _)
      next =>
        have hshown (u : State) : Onward u (activityRequest u) := .of_lists (by simp) (by simp)
        unfold writeEnd
        split
        · exact (((hended.trans (.addDone _ _ _)).trans (.leaveMarks _ _)).trans (hshown _)).trans (.progress _ _)
        · exact ((hended.trans (.leaveMarks _ _)).trans (.failTxn _ _ _)).trans (.progress _ _)
      next => exact .refl s

/-- The owner of an operation takes its completion, a page read being of a job that has not its data yet (R48). -/
theorem Onward.ownerTakes {op : DOp} {o : Owner} {s : State} (hb : s.BuffersOk)
    (hread : ∀ n b j, op = .pageRead n → o = .job b → s.job? b = some j → ¬ j.HasAllData) (ok lost : Bool)
    (page : List Byte) : Onward s (ownerTakes op o ok lost page s) := by
  unfold Machine.ownerTakes
  split
  · exact .jobCompletion hb (fun n j hop hj => hread n _ j hop rfl hj) _ _
  · unfold syncEnd
    split
    · exact .refl s
    · split
      · split
        · exact .setDone _ s
        · exact .failTxn _ _ s
      · exact .progress _ s
      · exact .refl s
  · split
    · exact .of_lists (by simp) (by simp)
    · exact .refl s
  · exact .refl s

theorem Onward.issue (d : Fin 4) (r : DReq) (s : State) : Onward s (issue d r s) := by
  unfold Machine.issue tellIssued
  split
  next b _ =>
    exact (Onward.updJob (b := b) (f := fun j => { j with pageOp := .issued d }) (s := s)
      fun j _ _ => .of_state rfl rfl id rfl).same_right rfl rfl
  · exact .of_lists rfl rfl
  · exact .of_lists rfl rfl

theorem Job.Becomes.taken (j : Job) : j.Becomes { j with state := j.state.taken } where
  owner := rfl
  unit := rfl
  kept := id
  data h := by rcases h with h | h | h <;> simp [h, JobState.taken, Job.HasAllData]
  wait h := by cases hj : j.state <;> simp [hj, JobState.taken] at h ⊢

theorem Onward.cipherTake (s : State) : Onward s (cipherTake s) := by
  unfold Machine.cipherTake
  split
  · exact .refl s
  · split
    · exact .refl s
    · exact .updJob fun j _ _ => .taken j

theorem Onward.grant {s : State} (hb : s.BuffersOk) : Onward s (grant s) := by
  unfold Machine.grant startRun
  split
  · exact .refl s
  · dsimp only
    split
    · split
      next j hj =>
        obtain ⟨hmem, -, hstate, -⟩ := State.deliverable_spec hj
        refine .trans (.of_lists (by rfl) (by rfl)) (.updJob fun k hk hbuf => ?_)
        obtain rfl := hb.eq_of_buf hk hmem hbuf
        exact ⟨rfl, rfl, id, by simp [Job.HasAllData, show k.state = .deliverWait from hstate], by simp⟩
      next => exact .of_lists rfl rfl
    · exact .of_lists rfl rfl

theorem Onward.cipherEnd {s : State} (hb : s.BuffersOk) : Onward s (cipherEnd s) := by
  unfold Machine.cipherEnd
  split
  next j key hj hkey =>
    have hmem := List.mem_of_find?_eq_some hj
    have hcipher : j.ciphering = true := List.find?_some hj
    have hput (u : Fin 4096 → Byte) : Onward s (putUnit j.buf u s) := .of_lists (by simp) (by simp)
    have hmoved (u : Fin 4096 → Byte) (x : JobState)
        (hdata : j.HasAllData → x = .encryptWait ∨ x = .encrypting ∨ x = .mediaWrite) (hwait : x ≠ .dataWait) :
        Onward s (Machine.updJob j.buf (fun y => { y with state := x }) (putUnit j.buf u s)) := by
      refine (hput u).trans (.updJob (f := fun y => { y with state := x }) fun k hk hbuf => ?_)
      have hk : k ∈ s.ubp.jobs := by simpa using hk
      obtain rfl := hb.eq_of_buf hk hmem hbuf
      exact ⟨rfl, rfl, id, hdata, fun h => absurd h hwait⟩
    have hwrite (n : Nat) (u : State) : Onward u (requestWrite j.buf n u) :=
      (Onward.updJob (f := fun i => { i with pageOp := .requested }) (b := j.buf)
        fun i _ _ => .of_state rfl rfl id rfl).same_right (by simp) (by simp [requestWrite])
    dsimp only
    split
    next hstate hkind => exact hmoved _ _ (by simp [Job.HasAllData, hstate]) (by simp)
    next hstate _ => exact hmoved _ _ (by simp [Job.HasAllData, hstate]) (by simp)
    next => exact (hmoved _ _ (fun _ => .inr (.inr rfl)) (by simp)).trans (hwrite _ _)
  · exact .refl s

theorem Onward.takeSector (i : Intake) (j : Job) (sector : List Byte) (s : State) : Onward s (takeSector i j sector s) := by
  have hplaced : Onward s (placeSector j.buf i.next sector s) := .of_lists (by simp) (by simp)
  unfold Machine.takeSector
  dsimp only
  split
  · refine (hplaced.same_right (by rfl) (by rfl)).trans (.updJob fun k _ _ => ?_)
    exact ⟨rfl, rfl, id, fun _ => .inl rfl, by simp⟩
  · exact hplaced.same_right rfl rfl

theorem Onward.emptyTable (s : State) : Onward s (emptyTable s) where
  jobs k hk := by
    obtain ⟨j, hj, hfate⟩ := List.mem_filterMap.1 (emptyTable_jobs s ▸ hk)
    obtain rfl := Job.atEmptying_fields hfate
    exact ⟨j, hj, .of_state rfl rfl (by simp) rfl⟩
  records y hy := by simp [Machine.emptyTable, withdrawJobs] at hy

/-! ## What adds to the order -/

/-- A job enters DATA_WAIT when every lower one of its transaction has all its data (R51). -/
theorem State.Ordered.dataWaits {s : State} (h : s.Ordered) : (dataWaits s).Ordered := by
  have hdata {j : Job} (hj : j.HasAllData) : mayWait s.ubp.jobs j = false := by
    rw [Bool.eq_false_iff, ne_eq, mayWait_iff]
    rintro ⟨hqueue, -⟩
    simp [Job.HasAllData, hqueue] at hj
  refine ⟨fun k hk hwait j hj hwith hlt => ?_, fun x hx j hj hof => ?_⟩
  · obtain ⟨k', hk', rfl⟩ := List.mem_map.1 hk
    obtain ⟨j', hj', rfl⟩ := List.mem_map.1 hj
    have hbelow : j'.HasAllData := by
      have hwith' : j'.WithOf k' := by
        split at hwith <;> split at hwith <;> exact hwith
      have hlt' : j'.unit < k'.unit := by
        split at hlt <;> split at hlt <;> exact hlt
      split at hwait
      next hmay =>
        obtain ⟨-, -, hall⟩ := (mayWait_iff _ _).1 hmay
        exact hall j' hj' hwith' hlt'
      next => exact h.lower k' hk' hwait j' hj' hwith' hlt'
    rwa [if_neg (by simp [hdata hbelow])]
  · obtain ⟨j', hj', rfl⟩ := List.mem_map.1 hj
    have hof' : j'.isOf x.tag = true := by split at hof <;> exact hof
    obtain ⟨u, hu, hlt⟩ := h.next x hx j' hj' hof'
    refine ⟨u, hu, ?_⟩
    split <;> exact hlt

/-- A job starts on the next unit of its transaction, above all its jobs (R47). -/
theorem State.Ordered.startJob {s : State} (h : s.Ordered) {b : Fin 8} {x : Txn} (hb : s.freeBuffer = some b)
    (hx : s.txns.find? s.eligible = some x) : (startJob b x (x.nextUnit.getD 0) s).Ordered := by
  have hmem := List.mem_of_find?_eq_some hx
  obtain ⟨-, -, -, -, u, hnext, -⟩ := (s.eligible_iff x).1 (List.find?_some hx)
  obtain ⟨hu, -⟩ := Txn.nextUnit_of_next? hnext
  rw [hu, Option.getD_some]
  have hjobs := startJob_jobs (State.freeBuffer_spec hb) x u
  have hbelow {j : Job} (hj : j ∈ s.ubp.jobs) (hof : j.isOf x.tag = true) : j.unit < u := by
    obtain ⟨v, hv, hlt⟩ := h.next x hmem j hj hof
    cases hu.symm.trans hv
    exact hlt
  refine ⟨fun k hk hwait j hj hwith hlt => ?_, fun y hy j hj hof => ?_⟩
  · rw [hjobs] at hk hj
    rcases List.mem_append.1 hk with hk | hk
    · rcases List.mem_append.1 hj with hj | hj
      · exact h.lower k hk hwait j hj hwith hlt
      · rw [List.mem_singleton.1 hj] at hwith hlt
        obtain ⟨howner, -, hkept⟩ := hwith
        have hku : k.unit < u := hbelow hk (by simp [Job.isOf, ← howner, hkept, Job.started])
        exact absurd (Nat.lt_trans hku hlt) (Nat.lt_irrefl _)
    · rw [List.mem_singleton.1 hk] at hwait
      simp only [Job.started] at hwait
      split at hwait <;> cases hwait
  · rw [startJob_txns] at hy
    obtain ⟨z, hz, rfl⟩ := List.mem_map.1 hy
    rw [hjobs] at hj
    by_cases htag : z.tag = x.tag
    · rw [if_pos htag] at hof ⊢
      have hof : j.isOf x.tag = true := by rwa [← htag]
      refine ⟨u + 1, rfl, ?_⟩
      rcases List.mem_append.1 hj with hj | hj
      · exact Nat.lt_succ_of_lt (hbelow hj hof)
      · rw [List.mem_singleton.1 hj]
        exact Nat.lt_succ_self u
    · rw [if_neg htag] at hof ⊢
      rcases List.mem_append.1 hj with hj | hj
      · exact h.next z hz j hj hof
      · rw [List.mem_singleton.1 hj] at hof
        simp only [Job.isOf, Job.started, Bool.and_eq_true, beq_iff_eq] at hof
        exact absurd hof.1.symm htag

/-- A record admitted has no jobs yet (R22). -/
theorem State.Ordered.admitRequest {s : State} (h : s.Ordered) (hheld : s.HeldOk) (k : TxKind) {t : Fin 16} (r : Request)
    (ht : s.txn? t = none) : (admitRequest k t r s).Ordered := by
  obtain ⟨htag, -⟩ := s.admitted_fields k t r
  have hjobs : (Machine.admitRequest k t r s).ubp.jobs = s.ubp.jobs := by simp
  refine ⟨fun i hi hwait j hj => h.lower i (hjobs ▸ hi) hwait j (hjobs ▸ hj), fun y hy j hj hof => ?_⟩
  rw [admitRequest_txns] at hy
  rw [hjobs] at hj
  rcases List.mem_append.1 hy with hy | hy
  · exact h.next y hy j hj hof
  · rw [List.mem_singleton.1 hy, htag] at hof
    have hnone := hheld.jobsOf_new ht
    rw [State.jobsOf_eq_countP, List.countP_eq_zero] at hnone
    exact absurd hof (hnone j hj)

/-! ## Every command -/

/-- From `s` to `t` the tables' rules go on holding. -/
structure Tables (s t : State) : Prop where
  asks : Asks s t
  held : Held s t
  bases : Bases s t
  ordered : s.TagsOk → s.BuffersOk → s.RequestsOk → s.HeldOk → s.Ordered → t.Ordered

theorem Tables.trans {s t u : State} (h1 : Tables s t) (h2 : Tables t u) : Tables s u where
  asks := h1.asks.trans h2.asks
  held := h1.held.trans h2.held
  bases := h1.bases.trans h2.bases
  ordered ht hb hr hh ho := h2.ordered (h1.asks.tags ht) (h1.asks.buffers hb) (h1.asks.requests ht hb hr)
    (h1.held.held ht hb hh) (h1.ordered ht hb hr hh ho)

theorem Tables.of_onward {s t : State} (hasks : Asks s t) (hheld : Held s t) (hbases : Bases s t) (h : Onward s t) :
    Tables s t := ⟨hasks, hheld, hbases, fun _ _ _ _ ho => ho.onward h⟩

theorem Tables.of_lists {s t : State} (hasks : Asks s t) (hbases : Bases s t) (htxns : t.txns = s.txns)
    (hjobs : t.ubp.jobs = s.ubp.jobs) : Tables s t :=
  .of_onward hasks (.of_lists htxns hjobs) hbases (.of_lists htxns hjobs)

/-- A job whose operation is a page read has not its data yet (R48, R52). -/
theorem Job.not_hasAllData_of_read {j : Job} {n : Nat} {op : DOp} (hop : op = .pageRead n)
    (hwork : (j.state = .mediaRead ∧ op = .pageRead j.unit) ∨ (j.state = .mediaWrite ∧ op = .pageWrite j.unit)) :
    ¬ j.HasAllData := by
  rcases hwork with ⟨hstate, -⟩ | ⟨-, hwrite⟩
  · simp [Job.HasAllData, hstate]
  · rw [hop] at hwrite
    cases hwrite

theorem tables_walk : Walk Tables where
  refl s := .of_lists (asks_walk.refl s) (bases_walk.refl s) rfl rfl
  trans := .trans
  neutral hn := by
    have ⟨htxns, hjobs, _⟩ := hn
    exact .of_lists (asks_walk.neutral hn) (bases_walk.neutral hn) htxns hjobs
  judge s := .of_lists (asks_walk.judge s) (bases_walk.judge s) (by simp) (by simp)
  ksRequest r s := .of_lists (asks_walk.ksRequest r s) (bases_walk.ksRequest r s) rfl rfl
  endWrite c s := .of_lists (asks_walk.endWrite c s) (bases_walk.endWrite c s) rfl rfl
  enter a s := .of_lists (asks_walk.enter a s) (bases_walk.enter a s) (by simp) (by simp)
  presentOverlay s h := .of_lists (asks_walk.presentOverlay s h) (bases_walk.presentOverlay s h) (by simp) (by simp)
  clearKey s := .of_lists (asks_walk.clearKey s) (bases_walk.clearKey s) rfl rfl
  loadKey k s h := .of_lists (asks_walk.loadKey k s h) (bases_walk.loadKey k s h) rfl rfl
  loadSession k s h := .of_lists (asks_walk.loadSession k s h) (bases_walk.loadSession k s h) rfl rfl
  failTxn t f s := .of_onward (asks_walk.failTxn t f s) (held_walk.failTxn t f s) (bases_walk.failTxn t f s) (.failTxn t f s)
  progress t s := .of_onward (asks_walk.progress t s) (held_walk.progress t s) (bases_walk.progress t s) (.progress t s)
  addDone t k s := .of_onward (asks_walk.addDone t k s) (held_walk.addDone t k s) (bases_walk.addDone t k s) (.addDone t k s)
  stopCipher s := .of_onward (asks_walk.stopCipher s) (held_walk.stopCipher s) (bases_walk.stopCipher s) (.stopCipher s)
  endRun t j s hj := .of_onward (asks_walk.endRun t j s hj) (held_walk.endRun t j s hj) (bases_walk.endRun t j s hj) (.endJob j s)
  runOn t j s hj := .of_onward (asks_walk.runOn t j s hj) (held_walk.runOn t j s hj) (bases_walk.runOn t j s hj)
    (.updJob fun i _ _ => .of_state rfl rfl id rfl)
  requestWindow c u s h := .of_lists (asks_walk.requestWindow c u s h) (bases_walk.requestWindow c u s h) (by simp) (by simp)
  eraseHold s := .of_lists (asks_walk.eraseHold s) (bases_walk.eraseHold s) (by simp) (by simp)
  loseMedia s := .of_lists (asks_walk.loseMedia s) (bases_walk.loseMedia s) rfl rfl
  completion d x ok page s hx := by
    refine ⟨asks_walk.completion d x ok page s hx, held_walk.completion d x ok page s hx,
      bases_walk.completion d x ok page s hx, fun _ hb hr _ ho => ?_⟩
    refine State.Ordered.onward (by exact ⟨ho.lower, ho.next⟩) (.ownerTakes (by exact hb) (fun n b j hop hob hj => ?_) _ _ _)
    obtain ⟨k, hk, -, hwork⟩ := hr.jobSlots x (List.mem_of_find?_eq_some hx) b hob
    cases hk.symm.trans hj
    exact Job.not_hasAllData_of_read hop hwork
  error o e s he := by
    refine ⟨asks_walk.error o e s he, held_walk.error o e s he, bases_walk.error o e s he, fun _ hb hr _ ho => ?_⟩
    refine State.Ordered.onward (by exact ⟨ho.lower, ho.next⟩) (.ownerTakes (by exact hb) (fun n b j hop hob hj => ?_) _ _ _)
    have heo : e.owner = o := by simpa using List.find?_some he
    obtain ⟨k, hk, hwork⟩ := hr.jobErrors e (List.mem_of_find?_eq_some he) b (heo.trans hob)
    cases hk.symm.trans hj
    exact Job.not_hasAllData_of_read hop hwork
  startJob b x s hb hx := ⟨asks_walk.startJob b x s hb hx, held_walk.startJob b x s hb hx, bases_walk.startJob b x s hb hx,
    fun _ _ _ _ ho => ho.startJob hb hx⟩
  dataWaits s := ⟨asks_walk.dataWaits s, held_walk.dataWaits s, bases_walk.dataWaits s, fun _ _ _ _ ho => ho.dataWaits⟩
  issue d r s hd hr := .of_onward (asks_walk.issue d r s hd hr) (held_walk.issue d r s hd hr) (bases_walk.issue d r s hd hr)
    (.issue d r s)
  cipherTake s := .of_onward (asks_walk.cipherTake s) (held_walk.cipherTake s) (bases_walk.cipherTake s) (.cipherTake s)
  grant s := ⟨asks_walk.grant s, held_walk.grant s, bases_walk.grant s, fun _ hb _ _ ho => ho.onward (.grant hb)⟩
  cipherEnd s := ⟨asks_walk.cipherEnd s, held_walk.cipherEnd s, bases_walk.cipherEnd s,
    fun _ hb _ _ ho => ho.onward (.cipherEnd hb)⟩
  takeSector t i j sector s hj := .of_onward (asks_walk.takeSector t i j sector s hj) (held_walk.takeSector t i j sector s hj)
    (bases_walk.takeSector t i j sector s hj) (.takeSector i j sector s)
  admitRequest k t r s hnew := ⟨asks_walk.admitRequest k t r s hnew, held_walk.admitRequest k t r s hnew,
    bases_walk.admitRequest k t r s hnew, fun _ _ _ hh ho => ho.admitRequest hh k r hnew⟩

theorem Tables.emptyTable (s : State) : Tables s (emptyTable s) :=
  .of_onward (.emptyTable s) (.emptyTable s)
    ⟨(JobsFrom.emptyTable s).buffers, (JobsFrom.emptyTable s).units, fun h => by
      obtain ⟨-, hslots, -⟩ := emptyTable_dli s
      simpa [State.SlotsOk, hslots, Function.comp_def] using h⟩
    (.emptyTable s)

/-- A part whose tables are empty meets their rules. -/
theorem Tables.of_empty {s t : State} (hasks : Asks s t) (htxns : t.txns = []) (hjobs : t.ubp.jobs = [])
    (hslots : t.dli.slots = []) : Tables s t :=
  .of_onward hasks (.of_none htxns hjobs)
    ⟨fun _ => by simp [State.BuffersOk, hjobs], fun _ => by simp [State.UnitsOk, hjobs], fun _ => by simp [State.SlotsOk, hslots]⟩
    ⟨by simp [hjobs], by simp [htxns]⟩

theorem exec_tables {c : Instr} {s t : State} (hc : c ≠ .completeSent) (h : exec c s = .next t) : Tables s t := by
  have hsame {u v : State} (hasks : Asks u v) (htxns : v.txns = u.txns) (hjobs : v.ubp.jobs = u.ubp.jobs)
      (hslots : v.dli.slots = u.dli.slots) : Tables u v := .of_lists hasks (.of_same hjobs hslots) htxns hjobs
  refine tables_walk.exec_but_completeSent Tables.emptyTable
    (fun _ => hsame (.of_same rfl rfl rfl rfl rfl rfl (.inl rfl)) rfl rfl rfl)
    (fun s => powerOn_cases s (tables_walk.refl s) fun _ _ _ _ _ => .of_empty (.atRelease _ _ _ _ _ s) rfl rfl rfl)
    (fun fate s => ?_) (fun _ => hsame (.of_same rfl rfl rfl rfl rfl rfl (.inl rfl)) rfl rfl rfl) hc h
  have hasks : Asks s (powerLoss fate s) := exec_asks (c := .powerLoss fate) rfl
  revert hasks
  unfold powerLoss
  split
  · exact fun _ => tables_walk.refl s
  · exact fun hasks => .of_empty hasks rfl rfl rfl

/-- COMPLETE_SENT, where the record sent holds no job (R28). -/
theorem Tables.completeSent {s : State} (hnone : ∀ tag, s.uli.output = .complete tag → s.jobsOf tag = 0) :
    Tables s (completeSent s) := by
  refine completeSent_cases tables_walk (fun u t hs houtput hubp => ?_) fun u htxns hubp hdli hsweep houtput => ?_
  · have hcount : u.jobsOf t = 0 := by
      rw [← hnone t hs, State.jobsOf, State.jobsOf, hubp]
    have hasks := Asks.dropSent houtput
    refine .of_onward hasks ⟨hasks.tags, hasks.buffers, fun _ _ h => h.dropTxn hcount⟩ (.of_same rfl rfl) ?_
    exact ⟨fun k hk => ⟨k, hk, .refl k⟩, fun y hy => ⟨y, (List.mem_filter.1 hy).1, rfl, rfl⟩⟩
  · refine .of_lists (.of_same htxns (by rw [hubp]) (by rw [hdli]) (by rw [hdli]) (by rw [hdli]) hsweep (.inl houtput))
      (.of_same (by rw [hubp]) (by rw [hdli])) htxns (by rw [hubp])

/-- What COMPLETE_SENT leaves of the tables whatever the record holds. -/
theorem Bases.completeSent (s : State) : Bases s (completeSent s) :=
  completeSent_cases bases_walk (fun _ _ _ _ _ => .of_same rfl rfl) fun _ _ hubp hdli _ _ =>
    .of_same (by rw [hubp]) (by rw [hdli])

theorem exec_bases {c : Instr} {s t : State} (h : exec c s = .next t) : Bases s t := by
  by_cases hc : c = .completeSent
  · subst hc
    exact bases_walk.whenRunning h (.completeSent s)
  · exact (exec_tables hc h).bases

theorem exec_tables_held {c : Instr} {s t : State} (h : exec c s = .next t)
    (hsent : c = .completeSent → ∀ tag, s.uli.output = .complete tag → s.jobsOf tag = 0) : Tables s t := by
  by_cases hc : c = .completeSent
  · subst hc
    exact tables_walk.whenRunning h (.completeSent (hsent rfl))
  · exact exec_tables hc h

/-- Settles O10: the lists and the request list by their walks, the counts and the order of the intake by theirs, where a
record whose COMPLETE is sent holds no job. -/
theorem stepKeepsTables : Obligations.StepKeepsTables := by
  intro s t h
  rcases step_cases h with rfl | ⟨c, rest, hpending, hexec⟩
  · exact ⟨id, id, id, id, fun _ _ => id, fun _ _ hh _ => ⟨hh, fun _ _ => id⟩⟩
  have hrest : Tables s { s with pending := rest } :=
    .of_lists (.of_same rfl rfl rfl rfl rfl rfl (.inl rfl)) (.of_same rfl rfl) rfl rfl
  have hasks := hrest.asks.trans (exec_asks hexec)
  have hbases := exec_bases hexec
  refine ⟨hasks.tags, hbases.buffers, hbases.slots, hbases.units, hasks.requests, fun ht hb hh hsent => ?_⟩
  have htables := hrest.trans <| exec_tables_held hexec fun hc => hsent (by rw [hpending, hc]; rfl)
  exact ⟨htables.held.held ht hb hh, fun hu hr hw => (htables.ordered ht hb hr hh hw.ordered).waitsOk (hbases.units hu)⟩

end Sys2Proof.Machine


/-! PROOF. What the closure of an event leaves as it was (R29, R46, R51, R57, R65, R142, R155): every command ends in it, so the
statements about one command rest on these laws. -/

namespace Sys2Proof.Machine

open Sys2Proof

/-! ## The steps of a closure -/

/-- The relation is met by each step of the closure of an event that comes before the grant of the output, by none at all, and
by one after another. -/
structure Preparing (R : State → State → Prop) : Prop where
  refl : ∀ s, R s s
  trans : ∀ {s t u}, R s t → R t u → R s u
  startJob : ∀ b x s, s.freeBuffer = some b → s.txns.find? s.eligible = some x → R s (startJob b x (x.nextUnit.getD 0) s)
  dataWaits : ∀ s, R s (dataWaits s)
  releaseHold : ∀ s, R s (releaseHold s)
  issue : ∀ d r s, s.freeSlot = some d → s.chosenRequest = some r → R s (issue d r s)
  cipherTake : ∀ s, R s (cipherTake s)

/-- The relation is met by each step of the closure of an event. -/
structure Closing (R : State → State → Prop) : Prop extends Preparing R where
  grant : ∀ s, R s (grant s)
  judge : ∀ s, R s (judge s)

theorem Preparing.allocate {R : State → State → Prop} (w : Preparing R) (n : Nat) (s : State) : R s (allocate n s) := by
  induction n generalizing s with
  | zero => exact w.refl s
  | succ n ih =>
    unfold Machine.allocate
    split
    next b x hb hx => exact w.trans (w.startJob b x s hb hx) (ih _)
    · exact w.refl s

theorem Preparing.issueAll {R : State → State → Prop} (w : Preparing R) (n : Nat) (s : State) : R s (issueAll n s) := by
  induction n generalizing s with
  | zero => exact w.refl s
  | succ n ih =>
    unfold Machine.issueAll
    split
    next d r hd hr => exact w.trans (w.issue d r s hd hr) (ih _)
    · exact w.refl s

/-- The state in which the closure of an event grants the output. -/
def beforeGrant (s : State) : State := cipherTake (issueAll 4 (releaseHold (dataWaits (allocate 8 s))))

theorem settle_eq_grant (s : State) : settle s = judge (grant (beforeGrant s)) := rfl

theorem Preparing.beforeGrant {R : State → State → Prop} (w : Preparing R) (s : State) : R s (beforeGrant s) :=
  w.trans (w.trans (w.trans (w.trans (w.allocate 8 s) (w.dataWaits _)) (w.releaseHold _)) (w.issueAll 4 _)) (w.cipherTake _)

theorem Closing.settle {R : State → State → Prop} (w : Closing R) (s : State) : R s (settle s) :=
  w.trans (w.trans (w.beforeGrant s) (w.grant _)) (w.judge _)

/-! ## The upstream output (R29) -/

@[simp] theorem startRun_uli (o : Output) (s : State) : (startRun o s).uli = s.uli := by simp

/-- From `s` to `t` the ULI may have granted its output, where it was free. -/
structure OutputKept (s t : State) : Prop where
  uli : t.uli = { s.uli with output := t.uli.output }
  held : s.uli.output ≠ .free → t.uli.output = s.uli.output

theorem OutputKept.of_same {s t : State} (h : t.uli = s.uli) : OutputKept s t := ⟨by rw [h], fun _ => by rw [h]⟩

theorem OutputKept.grant (s : State) : OutputKept s (grant s) := by
  unfold Machine.grant
  split
  next h => exact .of_same rfl
  next h => exact ⟨by simp, fun hout => absurd hout h⟩

theorem outputKept_closing : Closing OutputKept where
  refl s := .of_same rfl
  trans h1 h2 := by
    refine ⟨by rw [h2.uli, h1.uli], fun h => ?_⟩
    rw [h2.held (by rwa [h1.held h]), h1.held h]
  startJob b x s _ _ := .of_same (by simp)
  dataWaits s := .of_same (by simp)
  releaseHold s := .of_same (by simp)
  issue d r s _ _ := .of_same (by simp)
  cipherTake s := .of_same (by simp)
  grant s := .grant s
  judge s := .of_same (by simp)

/-- The closure of an event leaves the ULI as it was, but for an output that was free. -/
theorem settle_uli (s : State) : (settle s).uli = { s.uli with output := (settle s).uli.output } :=
  (outputKept_closing.settle s).uli

@[simp] theorem settle_attn (s : State) : (settle s).uli.attn = s.uli.attn := by rw [settle_uli]
@[simp] theorem settle_intakes (s : State) : (settle s).uli.intakes = s.uli.intakes := by rw [settle_uli]
@[simp] theorem settle_refusals (s : State) : (settle s).uli.refusals = s.uli.refusals := by rw [settle_uli]
@[simp] theorem settle_sent (s : State) : (settle s).uli.sent = s.uli.sent := by rw [settle_uli]

@[simp] theorem settle_intake? (s : State) (t : Fin 16) : (settle s).intake? t = s.intake? t := by
  simp [State.intake?]

/-! ## The indicator (R155) -/

/-- From `s` to `t` no brief pattern is requested and none runs out. -/
def BriefKept (s t : State) : Prop :=
  t.ind.slot = s.ind.slot ∧ t.ind.remaining = s.ind.remaining ∧ t.ind.pendingVerdict = s.ind.pendingVerdict ∧
  t.ind.rest = s.ind.rest

theorem BriefKept.of_same {s t : State} (h : t.ind = s.ind) : BriefKept s t := by simp [BriefKept, h]

theorem BriefKept.judge (s : State) : BriefKept s (judge s) := by
  unfold Machine.judge
  dsimp only
  exact ⟨rfl, rfl, rfl, rfl⟩

theorem briefKept_closing : Closing BriefKept where
  refl s := .of_same rfl
  trans h1 h2 := by
    obtain ⟨hslot, hcount, hpending, hrest⟩ := h1
    obtain ⟨hslot', hcount', hpending', hrest'⟩ := h2
    exact ⟨hslot'.trans hslot, hcount'.trans hcount, hpending'.trans hpending, hrest'.trans hrest⟩
  startJob b x s _ _ := .of_same (by simp)
  dataWaits s := .of_same (by simp)
  releaseHold s := .of_same (by simp)
  issue d r s _ _ := .of_same (by simp)
  cipherTake s := .of_same (by simp)
  grant s := .of_same (by simp)
  judge s := .judge s

theorem settle_brief (s : State) : BriefKept s (settle s) := briefKept_closing.settle s

@[simp] theorem settle_slot (s : State) : (settle s).ind.slot = s.ind.slot := (settle_brief s).1
@[simp] theorem settle_remaining (s : State) : (settle s).ind.remaining = s.ind.remaining := (settle_brief s).2.1
@[simp] theorem settle_pendingVerdict (s : State) : (settle s).ind.pendingVerdict = s.ind.pendingVerdict :=
  (settle_brief s).2.2.1
@[simp] theorem settle_rest (s : State) : (settle s).ind.rest = s.ind.rest := (settle_brief s).2.2.2

/-! ## The unit buffers and the records -/

theorem memory_closing : Closing (fun s t => t.ubp.mem = s.ubp.mem) where
  refl _ := rfl
  trans h1 h2 := h2.trans h1
  startJob b x s _ _ := by
    unfold Machine.startJob
    dsimp only
    split <;> simp [requestRead, updJob]
  dataWaits s := rfl
  releaseHold s := by simp
  issue d r s _ _ := by
    obtain ⟨-, -, -, hmem⟩ := issue_dli d r s
    exact hmem
  cipherTake s := by
    unfold Machine.cipherTake
    split
    · rfl
    · split <;> rfl
  grant s := by
    unfold Machine.grant startRun
    dsimp only
    split
    · rfl
    · split
      · split <;> rfl
      · rfl
  judge s := by simp

@[simp] theorem settle_mem (s : State) : (settle s).ubp.mem = s.ubp.mem := memory_closing.settle s

/-- A record found on a tag after the closure is the one that was, but for the two fields that a buffer advances (R47). -/
theorem settle_txn? (s : State) (t : Fin 16) : ((settle s).txn? t).map Txn.fixedPart = (s.txn? t).map Txn.fixedPart := by
  have hfind (l : List Txn) : (l.find? (fun x => x.tag == t)).map Txn.fixedPart =
      (l.map Txn.fixedPart).find? (fun x => x.tag == t) := by
    rw [List.find?_map]
    rfl
  simp only [State.txn?, hfind, settle_fixedPart]

theorem settle_txn?_some {s : State} {t : Fin 16} {x : Txn} (h : s.txn? t = some x) :
    ∃ y, (settle s).txn? t = some y ∧ y.fixedPart = x.fixedPart := by
  have hsame := settle_txn? s t
  rw [h] at hsame
  obtain ⟨y, hy, hyx⟩ := Option.map_eq_some_iff.1 hsame
  exact ⟨y, hy, hyx⟩

/-- The fields that a buffer allocation leaves (R47). -/
theorem Txn.fields_of_fixedPart {x y : Txn} (h : y.fixedPart = x.fixedPart) :
    y.tag = x.tag ∧ y.kind = x.kind ∧ y.volume = x.volume ∧ y.lba = x.lba ∧ y.requested = x.requested ∧
      y.transfer = x.transfer ∧ y.done = x.done ∧ y.failure = x.failure ∧ y.phase = x.phase ∧
      y.flushMark = x.flushMark ∧ y.outcome = x.outcome := by
  simp only [Txn.fixedPart, Txn.mk.injEq] at h
  obtain ⟨htag, hkind, hvolume, hlba, hrequested, htransfer, -, -, hdone, hfailure, hphase, hmark, houtcome⟩ := h
  exact ⟨htag, hkind, hvolume, hlba, hrequested, htransfer, hdone, hfailure, hphase, hmark, houtcome⟩

/-- Each record of a table stands in one of the same fixed parts. -/
theorem mem_of_fixedPart {l m : List Txn} (h : m.map Txn.fixedPart = l.map Txn.fixedPart) {x : Txn} (hx : x ∈ l) :
    ∃ y ∈ m, y.fixedPart = x.fixedPart := by
  have hmem : x.fixedPart ∈ m.map Txn.fixedPart := h ▸ List.mem_map_of_mem hx
  obtain ⟨y, hy, hyx⟩ := List.mem_map.1 hmem
  exact ⟨y, hy, hyx⟩

/-! ## The sweep and the key store (R122, R142, R143) -/

/-- From `s` to `t` the sweep may have been let go on, where it was ISSUING with no request made, and its DISCARD issued. -/
structure SweepKept (s t : State) : Prop where
  still : s.swu.state ≠ .issuing → t.swu = s.swu ∧ t.ks = s.ks
  out : s.swu.discardOut = true ∨ s.swu.writeOut = true →
    (t.swu = s.swu ∨ t.swu = { s.swu with state := .waiting }) ∧ t.ks = s.ks
  same : t.swu.hold = s.swu.hold ∧ t.swu.retry = s.swu.retry ∧ t.swu.dropResult = s.swu.dropResult ∧
    t.swu.lastPercent = s.swu.lastPercent
  store : t.ks.nvm = s.ks.nvm ∧ t.ks.creds = s.ks.creds ∧ t.ks.dev = s.ks.dev
  asks : t.OnlySweepAsks s.ks.queue
  busy : s.swu.state ≠ .idle → t.swu.state ≠ .idle

theorem SweepKept.of_same {s t : State} (hswu : t.swu = s.swu) (hks : t.ks = s.ks) : SweepKept s t :=
  ⟨fun _ => ⟨hswu, hks⟩, fun _ => ⟨.inl hswu, hks⟩, by simp [hswu], by simp [hks], ⟨[], by simp [hks], by simp⟩, by simp [hswu]⟩

theorem SweepKept.trans {s t u : State} (h1 : SweepKept s t) (h2 : SweepKept t u) : SweepKept s u where
  still h := by
    obtain ⟨hswu, hks⟩ := h1.still h
    obtain ⟨hswu', hks'⟩ := h2.still (by rwa [hswu])
    exact ⟨hswu'.trans hswu, hks'.trans hks⟩
  out h := by
    obtain ⟨hswu, hks⟩ := h1.out h
    obtain ⟨hswu', hks'⟩ := h2.out (by rcases hswu with hswu | hswu <;> simpa [hswu] using h)
    refine ⟨?_, hks'.trans hks⟩
    rcases hswu' with hswu' | hswu' <;> rcases hswu with hswu | hswu <;> simp [hswu', hswu]
  same := by
    obtain ⟨hhold, hretry, hdrop, hpercent⟩ := h1.same
    obtain ⟨hhold', hretry', hdrop', hpercent'⟩ := h2.same
    exact ⟨hhold'.trans hhold, hretry'.trans hretry, hdrop'.trans hdrop, hpercent'.trans hpercent⟩
  store := by
    obtain ⟨hnvm, hcreds, hdev⟩ := h1.store
    obtain ⟨hnvm', hcreds', hdev'⟩ := h2.store
    exact ⟨hnvm'.trans hnvm, hcreds'.trans hcreds, hdev'.trans hdev⟩
  asks := by
    obtain ⟨l, hl, hsweep⟩ := h1.asks
    obtain ⟨m, hm, hsweep'⟩ := h2.asks
    refine ⟨l ++ m, by rw [hm, hl, List.append_assoc], fun r hr => ?_⟩
    rcases List.mem_append.1 hr with hr | hr
    · exact hsweep r hr
    · exact hsweep' r hr
  busy := h2.busy ∘ h1.busy

theorem ksRequest_ks (r : KsReq) (s : State) : (ksRequest r s).ks.nvm = s.ks.nvm ∧ (ksRequest r s).ks.creds = s.ks.creds ∧
    (ksRequest r s).ks.dev = s.ks.dev ∧ (ksRequest r s).ks.queue = s.ks.queue ++ [r] := by
  have hbegin (k : Ks) : k.begin.nvm = k.nvm ∧ k.begin.creds = k.creds := by
    unfold Ks.begin
    split <;> exact ⟨rfl, rfl⟩
  simp [ksRequest, hbegin, Ks.begin_dev, Ks.begin_queue]

/-- A window made due while the sweep is not IDLE (R141, R147). -/
theorem makeDue_swu {s : State} (hbusy : s.swu.state ≠ .idle) :
    ((makeDue s).swu.hold = s.swu.hold ∧ (makeDue s).swu.retry = s.swu.retry ∧
      (makeDue s).swu.dropResult = s.swu.dropResult ∧ (makeDue s).swu.lastPercent = s.swu.lastPercent) ∧
    ((makeDue s).ks.nvm = s.ks.nvm ∧ (makeDue s).ks.creds = s.ks.creds ∧ (makeDue s).ks.dev = s.ks.dev) ∧
    (makeDue s).OnlySweepAsks s.ks.queue ∧ (makeDue s).swu.state ≠ .idle := by
  have hnone (u : State) (hu : u.ks = s.ks) : u.OnlySweepAsks s.ks.queue := ⟨[], by simp [hu], by simp⟩
  unfold makeDue
  split
  · exact ⟨⟨rfl, rfl, rfl, rfl⟩, ⟨rfl, rfl, rfl⟩, hnone _ rfl, hbusy⟩
  · split
    · exact ⟨⟨rfl, rfl, rfl, rfl⟩, ⟨rfl, rfl, rfl⟩, hnone _ rfl, by simp⟩
    · split
      · split
        · exact ⟨by simp [requestWindow], by simp [requestWindow], hnone _ (by simp [requestWindow]), by simp [requestWindow]⟩
        · unfold requestCursor
          obtain ⟨hnvm, hcreds, hdev, hqueue⟩ := ksRequest_ks
            { bySweep := true, body := .dev { DevUpdate.none with cursor := some none, degraded := none } }
            ((s.setSwu { s.swu with cursor := some ‹Nat› }).setSwu
              { (s.setSwu { s.swu with cursor := some ‹Nat› }).swu with state := .waiting, since := 0, writeOut := true })
          exact ⟨by simp, ⟨hnvm, hcreds, hdev⟩, ⟨_, hqueue, by simp⟩, by simp⟩
      · exact ⟨⟨rfl, rfl, rfl, rfl⟩, ⟨rfl, rfl, rfl⟩, hnone _ rfl, by simp⟩

theorem SweepKept.releaseHold (s : State) : SweepKept s (releaseHold s) := by
  unfold Machine.releaseHold
  split
  next h =>
    obtain ⟨hissuing, hdiscard, hwrite, -⟩ := h
    obtain ⟨hsame, hstore, hasks, hbusy⟩ := makeDue_swu (s := s) (by simp [hissuing])
    exact ⟨fun hne => absurd hissuing hne, by simp [hdiscard, hwrite], hsame, hstore, hasks, fun _ => hbusy⟩
  next => exact .of_same rfl rfl

theorem SweepKept.issue (d : Fin 4) (r : DReq) (s : State) : SweepKept s (issue d r s) := by
  have hsweep : (Machine.issue d r s).ks = s.ks ∧ ((Machine.issue d r s).swu = s.swu ∨
      s.swu.state = .issuing ∧ (Machine.issue d r s).swu = { s.swu with state := .waiting }) := by
    unfold Machine.issue tellIssued
    split
    · exact ⟨rfl, .inl rfl⟩
    · refine ⟨rfl, ?_⟩
      by_cases hissuing : s.swu.state = .issuing
      · exact .inr ⟨hissuing, by simp [hissuing]⟩
      · exact .inl (by simp [hissuing])
    · exact ⟨rfl, .inl rfl⟩
  obtain ⟨hks, hswu | ⟨hissuing, hswu⟩⟩ := hsweep
  · exact .of_same hswu hks
  · exact ⟨fun hne => absurd hissuing hne, fun _ => ⟨.inr hswu, hks⟩, by simp [hswu], by simp,
      ⟨[], by simp, by simp⟩, by simp [hswu]⟩

theorem sweepKept_closing : Closing SweepKept where
  refl s := .of_same rfl rfl
  trans := .trans
  startJob b x s _ _ := .of_same (by simp) (by simp)
  dataWaits s := .of_same (by simp) (by simp)
  releaseHold := .releaseHold
  issue d r s _ _ := .issue d r s
  cipherTake s := .of_same (by simp) (by simp)
  grant s := .of_same (by simp) (by simp)
  judge s := .of_same (by simp) (by simp)

theorem settle_sweep (s : State) : SweepKept s (settle s) := sweepKept_closing.settle s

@[simp] theorem settle_nvm (s : State) : (settle s).ks.nvm = s.ks.nvm := (settle_sweep s).store.1
@[simp] theorem settle_creds (s : State) : (settle s).ks.creds = s.ks.creds := (settle_sweep s).store.2.1
@[simp] theorem settle_dev (s : State) : (settle s).ks.dev = s.ks.dev := (settle_sweep s).store.2.2
@[simp] theorem settle_hold (s : State) : (settle s).swu.hold = s.swu.hold := (settle_sweep s).same.1
@[simp] theorem settle_retry (s : State) : (settle s).swu.retry = s.swu.retry := (settle_sweep s).same.2.1
@[simp] theorem settle_dropResult (s : State) : (settle s).swu.dropResult = s.swu.dropResult := (settle_sweep s).same.2.2.1
@[simp] theorem settle_lastPercent (s : State) : (settle s).swu.lastPercent = s.swu.lastPercent :=
  (settle_sweep s).same.2.2.2

/-- What is asked of the key store is asked still after the closure. -/
theorem settle_queue {s : State} {r : KsReq} (h : r ∈ s.ks.queue) : r ∈ (settle s).ks.queue := by
  obtain ⟨l, hl, -⟩ := (settle_sweep s).asks
  rw [hl]
  exact List.mem_append_left _ h

/-- Behind the requests of a list only the SWU's have joined, after the closure too. -/
theorem settle_onlySweepAsks {s : State} {l : List KsReq} (h : s.OnlySweepAsks l) : (settle s).OnlySweepAsks l := by
  obtain ⟨m, hm, hsweep⟩ := h
  obtain ⟨n, hn, hsweep'⟩ := (settle_sweep s).asks
  refine ⟨m ++ n, by rw [hn, hm, List.append_assoc], fun r hr => ?_⟩
  rcases List.mem_append.1 hr with hr | hr
  · exact hsweep r hr
  · exact hsweep' r hr

end Sys2Proof.Machine


/-! PROOF. The expiries of the AC's timers (R88, R89, R91), the indicator's own events and its lines (R151, R153, R154), and
the ways a composition is given up (R108, R109). -/

namespace Sys2Proof.Machine

open Sys2Proof

/-! ## Verdicts given (R99, R156) -/

/-- A verdict given in a state that shows what `s` shows is given between `s` and the state after it. -/
theorem gives_showVerdict (v : Verdict) {s u : State} (hind : u.ind = s.ind) (hstandby : u.ac.standby = s.ac.standby)
    (hheld : u.ac.held = s.ac.held) : s.Gives (showVerdict v u) v := by
  obtain ⟨hentered, hbehind, hheld', hrest⟩ := showVerdict_gives v u
  rw [hind, hstandby, hheld] at hentered
  rw [hind, hstandby, hheld] at hbehind
  rw [hind, hstandby] at hheld'
  rw [hind] at hrest
  exact ⟨hentered, hbehind, hheld', hrest⟩

/-- What follows a verdict leaves it given, where it changes neither the slot nor the verdicts kept. -/
theorem State.Gives.then {s t u : State} {v : Verdict} (h : s.Gives t v) (hbrief : BriefKept t u)
    (hheld : u.ac.held = t.ac.held) : s.Gives u v := by
  obtain ⟨hslot, hcount, hpending, hrest⟩ := hbrief
  exact ⟨by rw [hslot, hcount, hpending, hheld]; exact h.entered, by rw [hslot, hcount, hpending, hheld]; exact h.behind,
    by rw [hslot, hcount, hpending, hheld]; exact h.held, hrest.trans h.rest⟩

theorem State.Gives.settle {s t : State} {v : Verdict} (h : s.Gives t v) : s.Gives (Machine.settle t) v :=
  h.then (settle_brief t) (by simp)

/-- What a verdict given does to the AC (R99). -/
@[simp] theorem showVerdict_ac (v : Verdict) (s : State) : (showVerdict v s).ac =
    { s.ac with held := if s.ac.standby then some v else s.ac.held } := by
  unfold showVerdict
  split
  next h => rfl
  next h => simp

/-- The closure of an event gives no verdict. -/
theorem givesNone_settle {s t : State} (hind : t.ind = s.ind) (hheld : t.ac.held = s.ac.held) : s.GivesNone (settle t) := by
  exact ⟨by simp [hind], by simp [hind], by simp [hind], by simp [hheld]⟩

/-! ## The expiries of the AC's timers -/

theorem exec_settleTimerExpiry {s : State} (hrun : s.power = .running) (haccess : s.ac.access = .settling)
    (hdue : s.ac.settle = some 0) : exec .settleTimerExpiry s = .next (settle (enterPresented s)) := by
  simp [exec, execSettleTimerExpiry, State.whenRunning, Timer.due, hrun, haccess, hdue]

theorem exec_lockoutTimerExpiry {s : State} (hrun : s.power = .running) (haccess : s.ac.access = .lockout)
    (hdue : s.ac.lockout = some 0) : exec .lockoutTimerExpiry s = .next (settle (moveTo .lockedIdle s)) := by
  simp [exec, execLockoutTimerExpiry, State.whenRunning, Timer.due, hrun, haccess, hdue]

theorem exec_adminSessionTimerExpiry {s : State} (hrun : s.power = .running) (haccess : s.ac.access = .adminSession)
    (hdue : s.ac.admin = some 0) : exec .adminSessionTimerExpiry s = .next (settle (moveTo .lockedIdle s)) := by
  simp [exec, execAdminSessionTimerExpiry, State.whenRunning, Timer.due, hrun, haccess, hdue]

/-- UNLOCKED.PRESENTED as the settle timer's expiry enters it (R91). -/
theorem enterPresented_spec {s : State} (hpresentation : s.PresentationOk) (haccess : s.ac.access = .settling) :
    (enterPresented s).ac = { s.ac with
      access := .presented, presentation := .user, settle := none, lockout := none, admin := none,
      changed := s.ac.changed || s.ac.standby,
      idle := if s.ks.dev.fields.autoLock = 0 then none else some (s.ks.dev.fields.autoLock * 600) } ∧
    (enterPresented s).ce.key = s.ce.key ∧ (enterPresented s).atr = presentedAtr .user s.dli.usable ∧
    (enterPresented s).uli.attn = { s.uli.attn with presentation := true } := by
  have hpresented : s.ac.presentation = .nothing := by rw [hpresentation.1, haccess]; rfl
  simp [enterPresented, loadIdle, State.idleTicks, enter_atr, enter_uli, hpresented, Access.unlocked, Access.presentation]

/-- Settles O58, from what each sub-state entered holds. -/
theorem timerExpiries : Obligations.TimerExpiries := by
  unfold Obligations.TimerExpiries
  intro s hrun hpresentation
  refine ⟨fun haccess hdue => ?_, fun haccess hdue => ?_, fun haccess hdue => ?_⟩
  · obtain ⟨hac, hkey, hatr, hattn⟩ := enterPresented_spec hpresentation haccess
    refine ⟨_, exec_settleTimerExpiry hrun haccess hdue, ?_⟩
    simp [hac, hkey, hatr, hattn, presentedAtr]
  · refine ⟨_, exec_lockoutTimerExpiry hrun haccess hdue, by simp, by simp, by simp [Access.presentation], ?_⟩
    exact givesNone_settle (by simp) (by simp)
  · refine ⟨_, exec_adminSessionTimerExpiry hrun haccess hdue, ?_⟩
    simp

/-! ## The lines each pattern lights (R151, R153, R154) -/

/-- With power the lines are those of the shown source's pattern (R151). -/
theorem State.leds_of_continuous {s : State} (hon : s.power ≠ .off) (hpattern : s.ind.pattern ≠ .brief) :
    s.leds = s.ind.pattern.leds s.ind.elapsed := by
  unfold State.leds
  rw [if_neg hon]
  split
  next h _ => exact absurd h hpattern
  next => rfl

theorem State.leds_of_brief {s : State} (hon : s.power ≠ .off) (hpattern : s.ind.pattern = .brief) {b : Brief}
    (hslot : s.ind.slot = some b) : s.leds = b.leds s.ind.remaining := by
  simp [State.leds, hon, hpattern, hslot]

/-- BASE's pattern lights what its table gives for the access state (R153). -/
theorem State.patternOf_base_leds (s : State) (ms : Nat) : (s.patternOf .base).leds ms =
    if s.ac.standby = true ∨ s.ac.access = .starting then Leds.dark
    else if s.ac.access.unlocked = true then { red := false, green := true, blue := false }
    else if s.ac.access = .blankFirst ∨ s.ac.access = .blankRepeat then { red := false, green := false, blue := true }
    else { red := true, green := false, blue := false } := by
  unfold State.patternOf
  dsimp only
  split
  next => rfl
  next =>
    cases haccess : s.ac.access <;> simp [Access.reported, Access.unlocked, Pattern.leds, Leds.dark]

/-- The lines of a verdict's pattern by its remaining count (R154). -/
theorem Brief.leds_verdict (v : Verdict) (n : Nat) :
    ((Brief.leds (.verdict v) n).green = true ↔ v = .accept ∧ (n = 15 ∨ n = 14 ∨ n = 11 ∨ n = 10)) ∧
    ((Brief.leds (.verdict v) n).red = true ↔ v = .reject ∧ (n = 15 ∨ n = 14 ∨ n = 11 ∨ n = 10 ∨ n = 7 ∨ n = 6) ∨
      v = .format ∧ 12 ≤ n ∧ n ≤ 15) ∧
    ((Brief.leds (.verdict v) n).blue = true ↔
      v = .refused ∧ (n = 15 ∨ n = 14 ∨ n = 11 ∨ n = 10 ∨ n = 7 ∨ n = 6)) := by
  cases v <;> simp [Brief.leds, Leds.dark, or_assoc]

/-! ## The indicator's own events -/

theorem exec_briefPatternRunout {s : State} (hon : s.power ≠ .off) :
    exec .briefPatternRunout s = .next (settle (briefRunout s)) :=
  State.whenPowered_of_ne_off hon (fun s => settle (briefRunout s))

theorem exec_activityRestEnd {s : State} (hon : s.power ≠ .off) : exec .activityRestEnd s = .next (restEnd s) :=
  State.whenPowered_of_ne_off hon restEnd

theorem exec_patternClock {s : State} (hon : s.power ≠ .off) :
    exec .patternClock s = .next (s.setInd (patternTick s.ind)) :=
  State.whenPowered_of_ne_off hon (fun s => s.setInd (patternTick s.ind))

theorem patternTick_of_period {i : Ind} (h : i.pattern.period ≠ 0) :
    patternTick i = { i with elapsed := (i.elapsed + 1) % i.pattern.period } := if_neg h

theorem patternTick_of_none {i : Ind} (h : i.pattern.period = 0) : patternTick i = i := if_pos h

/-! ## Entries taken (R106) -/

/-- An entry that `f` answers has its effect, and the timers it reloads follow. -/
theorem takeEntry_of_takes {s : State} {e : KeyEntry} {rest : List KeyEntry} (h : s.TakesEntry e rest)
    {f : KeyEntry → Option (State → State)} {act : State → State} (hf : f e = some act) :
    takeEntry f s = settle (afterTake (act (s.setKps { s.kps with fifo := rest }))) := by
  obtain ⟨-, hready, hawake, hfifo⟩ := h
  unfold takeEntry
  rw [hfifo]
  simp [hready, hawake, hf]

@[simp] theorem afterTake_ac (s : State) : (afterTake s).ac =
    { s.ac with admin := if s.ac.access = .adminSession then some 300 else s.ac.admin } := rfl

@[simp] theorem afterTake_ecp (s : State) : (afterTake s).ecp =
    { s.ecp with timer := if s.composing && s.ecp.ready then some 100 else none } := rfl

theorem State.Gives.afterTake {s t : State} {v : Verdict} (h : s.Gives t v) : s.Gives (Machine.settle (Machine.afterTake t)) v :=
  (h.then (u := Machine.afterTake t) (.of_same (by simp)) (by simp)).settle

theorem exec_flaggedEntryTaken {s : State} {e : KeyEntry} {rest : List KeyEntry} (h : s.TakesEntry e rest)
    (hflagged : e.flagged = true) :
    exec .flaggedEntryTaken s = .next (settle (afterTake (flaggedEntry (s.setKps { s.kps with fifo := rest })))) := by
  have htake := takeEntry_of_takes (f := fun e => if e.flagged then some flaggedEntry else none) h (if_pos hflagged)
  exact (State.whenRunning_of_running h.1 _).trans (congrArg _ htake)

/-- Where a composition may stand a flagged entry gives it up (R109). -/
theorem flaggedEntry_of_composer {s : State} (h : s.ac.access.pushes = true ∨ s.ac.access = .adminSession) :
    flaggedEntry s = cancelWith .format s := by
  unfold flaggedEntry
  cases haccess : s.ac.access <;> simp [haccess, Access.pushes] at h ⊢

/-- Where none may stand it is discarded. -/
theorem flaggedEntry_of_none {s : State} (h : s.ac.access = .lockedIdle ∨ s.ac.access = .settling ∨
    s.ac.access = .lockout ∨ s.ac.access = .erasing) : flaggedEntry s = s := by
  unfold flaggedEntry
  rcases h with h | h | h | h <;> simp [h]

/-! ## The end of a key-store write (R122) -/

theorem exec_ksWriteComplete {s : State} (hrun : s.power = .running) :
    exec .ksWriteComplete s = .next (settle (ksWritten s)) :=
  State.whenRunning_of_running hrun (fun s => settle (ksWritten s))

/-- The CU is told of the completion of its own write. -/
theorem ksWritten_of_cu {s : State} {r : KsReq} {rest : List KsReq} {w : KsContent} (hqueue : s.ks.queue = r :: rest)
    (hwriting : s.ks.writing = some w) (hcu : r.bySweep = false) :
    ksWritten s = cuWritten (s.setKs (s.ks.endWrite w)) := by
  simp [ksWritten, hqueue, hwriting, hcu]

/-- The SWU is told of the completion of its own write. -/
theorem ksWritten_of_sweep {s : State} {r : KsReq} {rest : List KsReq} {w : KsContent} (hqueue : s.ks.queue = r :: rest)
    (hwriting : s.ks.writing = some w) (hsweep : r.bySweep = true) :
    ksWritten s = cursorWritten r.body.isNone (s.setKs (s.ks.endWrite w)) := by
  simp [ksWritten, hqueue, hwriting, hsweep]

/-- The refusal of a matched unlock: REFUSED is given, and LOCKED.IDLE entered (R85). -/
theorem reportRefused_gives {s u : State} (hind : u.ind = s.ind) (hac : u.ac = s.ac) : s.Gives (reportRefused u) .refused :=
  gives_showVerdict _ (by simp [clearScope, hind]) (by simp [clearScope, hac]) (by simp [clearScope, hac])

/-- Settles O59, a conjunct for each thing the IND does. -/
theorem briefPatterns : Obligations.BriefPatterns := by
  unfold Obligations.BriefPatterns
  refine ⟨fun s hoff => if_pos hoff, fun s hon hok => ?lines, fun s hon => ?own, fun s e rest htakes hflagged hcomposer => ?given,
    fun s r rest w hrun hqueue hwriting hcu htask => ?refused⟩
  case lines =>
    have hcontinuous {x : Source} (hshown : s.ind.shown = x) (hx : s.patternOf x ≠ .brief) :
        s.leds = (s.patternOf x).leds s.ind.elapsed := by
      have hpattern : s.ind.pattern = s.patternOf x := by rw [hok.pattern, hshown]
      rw [State.leds_of_continuous hon (by rwa [hpattern]), hpattern]
    have hbrief {x : Source} (hshown : s.ind.shown = x) (hx : s.patternOf x = .brief) {b : Brief}
        (hslot : s.ind.slot = some b) : s.leds = b.leds s.ind.remaining :=
      State.leds_of_brief hon (by rw [hok.pattern, hshown, hx]) hslot
    refine ⟨fun h => hcontinuous h (by simp [State.patternOf]),
      fun h => hcontinuous h (by simp [State.patternOf]), fun h => hcontinuous h (by simp [State.patternOf]),
      fun h => ?_, fun h => ?_, fun h hslot => hbrief h rfl hslot, fun v n h hslot hn => ?_⟩
    · by_cases hsession : s.ac.access = .adminSession
      · have hpattern : s.patternOf .entry = .entryAdmin := if_pos hsession
        rw [if_pos hsession, hcontinuous h (by simp [hpattern]), hpattern]
        rfl
      · have hpattern : s.patternOf .entry = .entryUnlock := if_neg hsession
        rw [if_neg hsession, hcontinuous h (by simp [hpattern]), hpattern]
        rfl
    · rw [hcontinuous h, State.patternOf_base_leds]
      unfold State.patternOf
      dsimp only
      split
      · simp
      · split <;> simp
    · rw [hbrief h rfl hslot, hn]
      exact Brief.leds_verdict v n
  case own =>
    refine ⟨fun hrunout => ⟨_, exec_briefPatternRunout hon, fun v w hslot hpending => ?_, fun v hslot hpending => ?_, fun hslot => ?_⟩,
      fun hrest => ?_, fun n hrest => ?_, _, exec_patternClock hon, ?_, fun hperiod => ?_, fun hperiod => ?_⟩
    · simp [briefRunout, hrunout, hslot, hpending]
    · simp [briefRunout, hrunout, hslot, hpending]
    · simp [briefRunout, hrunout, hslot]
    · rw [exec_activityRestEnd hon, restEnd, if_pos hrest]
    · rw [exec_activityRestEnd hon, restEnd, if_neg (by simp [hrest])]
    · unfold patternTick
      split <;> rfl
    · rw [patternTick_of_period (Nat.pos_iff_ne_zero.1 hperiod)]
      rfl
    · rw [patternTick_of_none hperiod]
      rfl
  case given =>
    refine ⟨_, exec_flaggedEntryTaken htakes hflagged, State.Gives.afterTake ?_⟩
    rw [flaggedEntry_of_composer (by exact hcomposer)]
    exact gives_showVerdict _ (by simp) (by simp [cancel]) (by simp [cancel])
  case refused =>
    refine ⟨_, exec_ksWriteComplete hrun, State.Gives.settle ?_⟩
    have hreported : ksWritten s = reportRefused (s.setKs (s.ks.endWrite w)) := by
      rw [ksWritten_of_cu hqueue hwriting hcu, cuWritten]
      simp [htask]
    rw [hreported]
    exact reportRefused_gives rfl rfl

/-! ## Compositions given up (R108, R109) -/

theorem Access.restingPlace_adminSession (a : Access) : a.restingPlace = .adminSession ↔ a = .adminSession := by
  cases a <;> decide

theorem Access.restingPlace_unlocked (a : Access) : a.restingPlace.unlocked = a.unlocked := by cases a <;> rfl

/-- At a resting place with nothing keyed the ECP is not composing (R108). -/
theorem State.composing_of_resting {s : State} {a : Access} (h : s.ac.access = a.restingPlace)
    (hstack : s.ecp.stack = []) (hcommand : s.ecp.command = none) : s.composing = false := by
  unfold State.composing
  rw [h]
  cases a <;> simp [Access.restingPlace, hstack, hcommand]

theorem exec_entryTimeout {s : State} (hrun : s.power = .running) (hdue : s.ecp.timer = some 0) (hready : s.ecp.ready = true) :
    exec .entryTimeout s = .next (settle (cancel s)) := by
  simp [exec, execEntryTimeout, State.whenRunning, Timer.due, hrun, hdue, hready]

/-- What giving a composition up does (R108). -/
theorem cancel_spec (s : State) :
    (cancel s).ac.access = s.ac.access.restingPlace ∧
    (cancel s).ecp = { s.ecp with
      adminTable := s.ac.access == .adminSession, stack := [], overlong := false, copy := none, command := none,
      timer := none } ∧
    (cancel s).cu = { s.cu with sessionKey := if s.ac.access = .adminSession then s.cu.sessionKey else none } ∧
    (s.ac.access.unlocked = true →
      (cancel s).ce = s.ce ∧ (cancel s).ac.sessionSlot = s.ac.sessionSlot ∧ (cancel s).ac.idle = s.ac.idle) ∧
    (cancel s).ac.standby = s.ac.standby ∧ (cancel s).ac.held = s.ac.held ∧
    (s.ac.access = .adminSession → (cancel s).ac.admin = s.ac.admin) := by
  have hsession : (s.ac.access.restingPlace == .adminSession) = (s.ac.access == .adminSession) := by
    rw [Bool.eq_iff_iff]
    simp [Access.restingPlace_adminSession]
  refine ⟨by simp [cancel], by simp [cancel, hsession], by simp [cancel, Access.restingPlace_adminSession], fun h => ?_,
    by simp [cancel], by simp [cancel], fun h => by simp [cancel, h, Access.restingPlace]⟩
  simp [cancel, Access.restingPlace_unlocked, h]

/-- Settles O53: a flagged entry and the entry timer give up a composition alike, but for the verdict. -/
theorem compositionGivenUp : Obligations.CompositionGivenUp := by
  unfold Obligations.CompositionGivenUp
  intro s hrun
  refine ⟨fun e rest htakes hflagged => ?flagged, fun hdue hready => ?timeout⟩
  case flagged =>
    have hready : s.ecp.ready = true := htakes.2.1
    refine ⟨_, exec_flaggedEntryTaken htakes hflagged, by simp, by simp, by simp,
      settle_onlySweepAsks ⟨[], by simp, by simp⟩, fun hcomposer => ?_, fun hsession => ?_, fun hnone => ?_⟩
    · rw [flaggedEntry_of_composer (by exact hcomposer)]
      obtain ⟨haccess, hecp, hcu, hunlocked, -, -, -⟩ := cancel_spec (s.setKps { s.kps with fifo := rest })
      have hcomposing : (cancelWith .format (s.setKps { s.kps with fifo := rest })).composing = false :=
        State.composing_of_resting (a := s.ac.access) (by simpa [cancelWith] using haccess)
          (by simp [cancelWith, hecp]) (by simp [cancelWith, hecp])
      refine ⟨by simpa [cancelWith] using haccess,
        .afterTake (gives_showVerdict _ (by simp) (by simp [cancel]) (by simp [cancel])), ?_⟩
      simp only [settle_frame, afterTake_frame, afterTake_ecp, afterTake_ac, hcomposing]
      simpa [cancelWith, hecp, hcu, hready] using hunlocked
    · rw [flaggedEntry_of_composer (.inr (by exact hsession))]
      obtain ⟨haccess, -⟩ := cancel_spec (s.setKps { s.kps with fifo := rest })
      simp [cancelWith, haccess, hsession, Access.restingPlace]
    · rw [flaggedEntry_of_none (by exact hnone)]
      have hcomposing : (s.setKps { s.kps with fifo := rest }).composing = false := by
        unfold State.composing
        rcases hnone with h | h | h | h <;> simp [h]
      have hsession : s.ac.access ≠ .adminSession := by rcases hnone with h | h | h | h <;> simp [h]
      refine ⟨⟨?_, givesNone_settle rfl rfl⟩, ?_⟩ <;> simp [hcomposing, hsession]
  case timeout =>
    obtain ⟨haccess, hecp, hcu, hunlocked, -, hheld, hadmin⟩ := cancel_spec s
    refine ⟨_, exec_entryTimeout hrun hdue hready, by simp [haccess], by simp [hecp], by simp [hecp], by simp [hecp],
      by simp [hecp], by simp [hecp], by simp [hecp, hready], givesNone_settle (by simp) hheld, by simp, by simp, by simp,
      settle_onlySweepAsks ⟨[], by simp, by simp⟩, by simp [hcu], fun h => by simpa using hunlocked h,
      fun h => by simpa using hadmin h⟩

end Sys2Proof.Machine


/-! PROOF. What the closure of an event does to the unit jobs and to the downstream link (R46, R51, R52, R57, R65, R67): the
jobs that stand go on, and others join them in free buffers; what is asked for stays asked for. -/

namespace Sys2Proof.Machine

open Sys2Proof

/-! ## Jobs that go on -/

/-- The states that the closure of an event can take a job to (R48, R51, R58). -/
def JobState.Leads (a b : JobState) : Prop :=
  b = a ∨ (a = .dataQueue ∧ b = .dataWait) ∨ (a = .decryptWait ∧ b = .decrypting) ∨
    (a = .encryptWait ∧ b = .encrypting) ∨ (a = .deliverWait ∧ b = .delivering)

theorem JobState.Leads.refl (a : JobState) : a.Leads a := .inl rfl

theorem JobState.Leads.trans {a b c : JobState} (h1 : a.Leads b) (h2 : b.Leads c) : a.Leads c := by
  unfold JobState.Leads at *
  rcases h1 with rfl | ⟨rfl, rfl⟩ | ⟨rfl, rfl⟩ | ⟨rfl, rfl⟩ | ⟨rfl, rfl⟩ <;> simp_all

/-- The job `k` is `j` gone on: its state as the closure of an event takes it, its page operation issued where it was asked
for. -/
structure State.GoesOn (s : State) (j k : Job) : Prop where
  same : k = { j with state := k.state, pageOp := k.pageOp }
  state : s.BuffersOk → j.state.Leads k.state
  pageOp : k.pageOp = j.pageOp ∨ ((∃ r ∈ s.dli.requests, r.owner = .job j.buf) ∧ ∃ d, k.pageOp = .issued d)

theorem State.GoesOn.refl (s : State) (j : Job) : s.GoesOn j j := ⟨rfl, fun _ => .refl _, .inl rfl⟩

theorem State.GoesOn.of_state {s : State} {j : Job} {x : JobState} (h : s.BuffersOk → j.state.Leads x) :
    s.GoesOn j { j with state := x } := ⟨rfl, h, .inl rfl⟩

/-- What a job that goes on keeps. -/
theorem State.GoesOn.fields {s : State} {j k : Job} (h : s.GoesOn j k) :
    k.buf = j.buf ∧ k.owner = j.owner ∧ k.unit = j.unit ∧ k.first = j.first ∧ k.count = j.count ∧ k.kind = j.kind ∧
      k.sent = j.sent ∧ k.abandoned = j.abandoned := by
  rw [h.same]
  exact ⟨rfl, rfl, rfl, rfl, rfl, rfl, rfl, rfl⟩

theorem State.GoesOn.isOf {s : State} {j k : Job} (h : s.GoesOn j k) (t : Fin 16) : k.isOf t = j.isOf t := by
  obtain ⟨-, howner, -, -, -, -, -, habandoned⟩ := h.fields
  rw [Job.isOf, Job.isOf, howner, habandoned]

/-! ## What joins -/

/-- An ACTIVE READ or WRITE on USER stands in the table: a job can start. -/
def State.Works (s : State) : Prop := ∃ x ∈ s.txns, x.isUserTransfer = true ∧ x.phase = .active

/-- The owner can ask for an operation in the closure of an event: a job that starts in a free buffer, or the sweep (R52,
R142). -/
def State.Joins (s : State) (o : Owner) : Prop :=
  (o = .sweep ∧ s.swu.discardOut = false ∧ s.swu.state = .issuing) ∨
    ∃ b, o = .job b ∧ (∀ j ∈ s.ubp.jobs, j.buf ≠ b) ∧ s.Works

/-- The job has started since, in a buffer then free. -/
structure State.Started (s : State) (k : Job) : Prop where
  free : ∀ j ∈ s.ubp.jobs, j.buf ≠ k.buf
  owner : ∃ x ∈ s.txns, x.tag = k.owner ∧ x.isUserTransfer = true ∧ x.phase = .active
  fresh : k.abandoned = false ∧ k.sent = 0
  state : s.BuffersOk → k.state = .dataQueue ∨ k.state = .dataWait ∨ k.state = .mediaRead

/-- From `s` to `t` jobs go on and start, and operations are asked for and issued, as in the closure of an event. -/
structure Follows (s t : State) : Prop where
  jobs : ∃ l m, t.ubp.jobs = l ++ m ∧ List.Forall₂ s.GoesOn s.ubp.jobs l ∧ ∀ k ∈ m, s.Started k
  buffers : s.BuffersOk → t.BuffersOk
  slots : ∃ l, t.dli.slots = s.dli.slots ++ l ∧
    ∀ z ∈ l, (∃ r ∈ s.dli.requests, r.op = z.op ∧ r.owner = z.owner) ∨ s.Joins z.owner
  requests : ∀ q ∈ t.dli.requests, q ∈ s.dli.requests ∨ s.Joins q.owner
  asked : ∀ op o, s.Asked op o → t.Asked op o
  errors : ∃ l, t.dli.errors = s.dli.errors ++ l ∧ ∀ e ∈ l, s.Joins e.owner ∧ e.issued = false
  out : (s.swu.discardOut = true → t.swu.discardOut = true) ∧ (t.swu.state = .issuing → s.swu.state = .issuing)
  records : t.txns.map Txn.fixedPart = s.txns.map Txn.fixedPart

theorem forall₂_goesOn_refl (s : State) (l : List Job) : List.Forall₂ s.GoesOn l l :=
  List.forall₂_same.2 fun j _ => .refl s j

/-- A change of the jobs one by one. -/
theorem forall₂_goesOn_map {s : State} {f : Job → Job} (hf : ∀ j ∈ s.ubp.jobs, s.GoesOn j (f j)) :
    List.Forall₂ s.GoesOn s.ubp.jobs (s.ubp.jobs.map f) := by
  rw [List.forall₂_map_right_iff]
  exact List.forall₂_same.2 hf

/-- From `s` to `t` jobs have changed one by one, and nothing is asked of the link. -/
theorem Follows.of_map {s t : State} {f : Job → Job} (hjobs : t.ubp.jobs = s.ubp.jobs.map f)
    (hf : ∀ j ∈ s.ubp.jobs, s.GoesOn j (f j)) (hdli : t.dli = s.dli) (hswu : t.swu = s.swu) (htxns : t.txns = s.txns) :
    Follows s t where
  jobs := ⟨_, [], by rw [hjobs, List.append_nil], forall₂_goesOn_map hf, by simp⟩
  buffers h := by
    have hbufs : (s.ubp.jobs.map f).map Job.buf = s.ubp.jobs.map Job.buf := by
      rw [List.map_map]
      exact List.map_congr_left fun j hj => (hf j hj).fields.1
    rwa [State.BuffersOk, hjobs, hbufs]
  slots := ⟨[], by simp [hdli], by simp⟩
  requests q hq := .inl (hdli ▸ hq)
  asked op o h := by rwa [State.Asked, hdli]
  errors := ⟨[], by simp [hdli], by simp⟩
  out := by simp [hswu]
  records := by rw [htxns]

theorem Follows.of_same {s t : State} (hjobs : t.ubp.jobs = s.ubp.jobs) (hdli : t.dli = s.dli) (hswu : t.swu = s.swu)
    (htxns : t.txns = s.txns) : Follows s t :=
  .of_map (f := id) (by simpa using hjobs) (fun j _ => .refl s j) hdli hswu htxns

/-- From `s` to `t` only the sweep has moved. -/
theorem Follows.of_swu {s t : State} (hjobs : t.ubp.jobs = s.ubp.jobs) (hdli : t.dli = s.dli) (htxns : t.txns = s.txns)
    (hout : (s.swu.discardOut = true → t.swu.discardOut = true) ∧ (t.swu.state = .issuing → s.swu.state = .issuing)) :
    Follows s t :=
  { Follows.of_same (t := { t with swu := s.swu }) hjobs hdli rfl htxns with out := hout }

theorem State.Works.of_records {s t : State} (h : t.Works) (hrecords : t.txns.map Txn.fixedPart = s.txns.map Txn.fixedPart) :
    s.Works := by
  obtain ⟨y, hy, huser, hactive⟩ := h
  obtain ⟨x, hx, hxy⟩ := mem_of_fixedPart hrecords.symm hy
  obtain ⟨-, hkind, hvolume, -, -, -, -, -, hphase, -, -⟩ := Txn.fields_of_fixedPart hxy
  exact ⟨x, hx, by simpa [Txn.isUserTransfer, hkind, hvolume] using huser, hphase.trans hactive⟩

theorem exists_of_forall₂ {α β : Type} {R : α → β → Prop} {l : List α} {m : List β} (h : List.Forall₂ R l m) {a : α}
    (ha : a ∈ l) : ∃ b ∈ m, R a b := by
  induction h with
  | nil => simp at ha
  | @cons x y l m hxy _ ih =>
    rcases List.mem_cons.1 ha with rfl | ha
    · exact ⟨y, List.mem_cons_self, hxy⟩
    · obtain ⟨b, hb, hab⟩ := ih ha
      exact ⟨b, List.mem_cons_of_mem _ hb, hab⟩

theorem forall₂_append_left {α β : Type} {R : α → β → Prop} {l m : List α} {n : List β} (h : List.Forall₂ R (l ++ m) n) :
    ∃ n1 n2, n = n1 ++ n2 ∧ List.Forall₂ R l n1 ∧ List.Forall₂ R m n2 := by
  induction l generalizing n with
  | nil => exact ⟨[], n, rfl, .nil, h⟩
  | cons a l ih =>
    obtain ⟨b, n', hab, hrest, rfl⟩ := List.forall₂_cons_left_iff.1 h
    obtain ⟨n1, n2, rfl, h1, h2⟩ := ih hrest
    exact ⟨b :: n1, n2, rfl, .cons hab h1, h2⟩

theorem forall₂_comp {α β γ : Type} {R : α → β → Prop} {S : β → γ → Prop} {T : α → γ → Prop} {l : List α} {m : List β}
    {n : List γ} (h1 : List.Forall₂ R l m) (h2 : List.Forall₂ S m n) (h : ∀ a ∈ l, ∀ b c, R a b → S b c → T a c) :
    List.Forall₂ T l n := by
  induction h1 generalizing n with
  | nil => cases h2; exact .nil
  | @cons a b l m hab _ ih =>
    obtain ⟨c, n', hbc, hrest, rfl⟩ := List.forall₂_cons_left_iff.1 h2
    exact .cons (h a List.mem_cons_self b c hab hbc) (ih hrest fun a ha => h a (List.mem_cons_of_mem _ ha))

/-- Each job of `s` stands in `t`, gone on. -/
theorem Follows.job {s t : State} (h : Follows s t) {j : Job} (hj : j ∈ s.ubp.jobs) : ∃ k ∈ t.ubp.jobs, s.GoesOn j k := by
  obtain ⟨l, m, hl, hgoes, -⟩ := h.jobs
  obtain ⟨k, hk, hjk⟩ := exists_of_forall₂ hgoes hj
  exact ⟨k, by rw [hl]; exact List.mem_append_left _ hk, hjk⟩

/-- Each job of `t` is one of `s` gone on, or has started since. -/
theorem Follows.of_job {s t : State} (h : Follows s t) {k : Job} (hk : k ∈ t.ubp.jobs) :
    (∃ j ∈ s.ubp.jobs, s.GoesOn j k) ∨ s.Started k := by
  obtain ⟨l, m, hl, hgoes, hstarted⟩ := h.jobs
  rw [hl, List.mem_append] at hk
  rcases hk with hk | hk
  · obtain ⟨j, hj, hjk⟩ := exists_of_forall₂ (R := fun k j => s.GoesOn j k) hgoes.flip hk
    exact .inl ⟨j, hj, hjk⟩
  · exact .inr (hstarted k hk)

/-- A buffer that no job of `t` is bound to is free in `s`. -/
theorem Follows.free {s t : State} (h : Follows s t) {b : Fin 8} (hb : ∀ k ∈ t.ubp.jobs, k.buf ≠ b) :
    ∀ j ∈ s.ubp.jobs, j.buf ≠ b := by
  intro j hj
  obtain ⟨k, hk, hjk⟩ := h.job hj
  rw [← hjk.fields.1]
  exact hb k hk

theorem Follows.joins {s t : State} (h : Follows s t) {o : Owner} (ho : t.Joins o) : s.Joins o := by
  rcases ho with ⟨rfl, hout, hissuing⟩ | ⟨b, rfl, hb, hworks⟩
  · refine .inl ⟨rfl, ?_, h.out.2 hissuing⟩
    by_contra hne
    simp [h.out.1 (by simpa using hne)] at hout
  · exact .inr ⟨b, rfl, h.free hb, hworks.of_records h.records⟩

/-- A job asks for nothing that it has not asked for in `s`, while its buffer is bound. -/
theorem Follows.owner_request {s t : State} (h : Follows s t) {j : Job} (hj : j ∈ s.ubp.jobs) {q : DReq}
    (hq : q ∈ t.dli.requests) (howner : q.owner = .job j.buf) : ∃ r ∈ s.dli.requests, r.owner = .job j.buf := by
  rcases h.requests q hq with hq | ⟨hsweep, -⟩ | ⟨b, hb, hfree, -⟩
  · exact ⟨q, hq, howner⟩
  · simp [howner] at hsweep
  · rw [howner, Owner.job.injEq] at hb
    exact absurd hb (hfree j hj)

theorem Follows.goesOn_trans {s t : State} (h : Follows s t) {j k i : Job} (hj : j ∈ s.ubp.jobs) (h1 : s.GoesOn j k)
    (h2 : t.GoesOn k i) : s.GoesOn j i where
  same := by rw [h2.same, h1.same]
  state hb := (h1.state hb).trans (h2.state (h.buffers hb))
  pageOp := by
    rcases h2.pageOp with hsame | ⟨⟨q, hq, howner⟩, hissued⟩
    · rw [hsame]
      exact h1.pageOp
    · rw [h1.fields.1] at howner
      exact .inr ⟨h.owner_request hj hq howner, hissued⟩

theorem Follows.started_goesOn {s t : State} (h : Follows s t) {k i : Job} (h1 : s.Started k) (h2 : t.GoesOn k i) :
    s.Started i := by
  obtain ⟨hbuf, howner, -, -, -, -, hsent, habandoned⟩ := h2.fields
  refine ⟨by rw [hbuf]; exact h1.free, by rw [howner]; exact h1.owner, by rw [hsent, habandoned]; exact h1.fresh, fun hb => ?_⟩
  have hlead := h2.state (h.buffers hb)
  unfold JobState.Leads at hlead
  rcases h1.state hb with hk | hk | hk <;> simp [hk] at hlead <;> simp [hlead, or_assoc.symm]

theorem Follows.started {s t : State} (h : Follows s t) {k : Job} (hk : t.Started k) : s.Started k := by
  obtain ⟨y, hy, htag, huser, hactive⟩ := hk.owner
  obtain ⟨x, hx, hxy⟩ := mem_of_fixedPart h.records.symm hy
  obtain ⟨htag', hkind, hvolume, -, -, -, -, -, hphase, -, -⟩ := Txn.fields_of_fixedPart hxy
  exact ⟨h.free hk.free, ⟨x, hx, htag'.trans htag, by simpa [Txn.isUserTransfer, hkind, hvolume] using huser,
    hphase.trans hactive⟩, hk.fresh, fun hb => hk.state (h.buffers hb)⟩

theorem Follows.refl (s : State) : Follows s s := .of_same rfl rfl rfl rfl

theorem Follows.jobs_trans {s t u : State} (h1 : Follows s t) (h2 : Follows t u) :
    ∃ l m, u.ubp.jobs = l ++ m ∧ List.Forall₂ s.GoesOn s.ubp.jobs l ∧ ∀ k ∈ m, s.Started k := by
  obtain ⟨l, m, hl, hgoes, hstarted⟩ := h1.jobs
  obtain ⟨n, m', hn, hgoes', hstarted'⟩ := h2.jobs
  rw [hl] at hgoes'
  obtain ⟨n1, n2, rfl, hgoes1, hgoes2⟩ := forall₂_append_left hgoes'
  refine ⟨n1, n2 ++ m', by rw [hn, List.append_assoc], ?_, fun k hk => ?_⟩
  · exact forall₂_comp hgoes hgoes1 fun j hj k i hjk hki => h1.goesOn_trans hj hjk hki
  · rcases List.mem_append.1 hk with hk | hk
    · obtain ⟨j, hj, hjk⟩ := exists_of_forall₂ (R := fun k j => t.GoesOn j k) hgoes2.flip hk
      exact h1.started_goesOn (hstarted j hj) hjk
    · exact h1.started (hstarted' k hk)

theorem Follows.trans {s t u : State} (h1 : Follows s t) (h2 : Follows t u) : Follows s u where
  jobs := h1.jobs_trans h2
  buffers := h2.buffers ∘ h1.buffers
  slots := by
    obtain ⟨l, hl, hissued⟩ := h1.slots
    obtain ⟨m, hm, hissued'⟩ := h2.slots
    refine ⟨l ++ m, by rw [hm, hl, List.append_assoc], fun z hz => ?_⟩
    rcases List.mem_append.1 hz with hz | hz
    · exact hissued z hz
    · rcases hissued' z hz with ⟨q, hq, hop, howner⟩ | hjoins
      · rcases h1.requests q hq with hq | hjoins
        · exact .inl ⟨q, hq, hop, howner⟩
        · exact .inr (howner ▸ hjoins)
      · exact .inr (h1.joins hjoins)
  requests q hq := by
    rcases h2.requests q hq with hq | hjoins
    · exact h1.requests q hq
    · exact .inr (h1.joins hjoins)
  asked op o h := h2.asked op o (h1.asked op o h)
  errors := by
    obtain ⟨l, hl, hjoins⟩ := h1.errors
    obtain ⟨m, hm, hjoins'⟩ := h2.errors
    refine ⟨l ++ m, by rw [hm, hl, List.append_assoc], fun e he => ?_⟩
    rcases List.mem_append.1 he with he | he
    · exact hjoins e he
    · exact ⟨h1.joins (hjoins' e he).1, (hjoins' e he).2⟩
  out := ⟨h2.out.1 ∘ h1.out.1, h1.out.2 ∘ h2.out.2⟩
  records := h2.records.trans h1.records

/-! ## The steps of the closure -/

theorem Follows.judge (s : State) : Follows s (judge s) := .of_same (by simp) (by simp) (by simp) (by simp)

theorem Follows.dataWaits (s : State) : Follows s (dataWaits s) := by
  refine .of_map (dataWaits_jobs s) (fun j _ => ?_) rfl rfl rfl
  split
  next h => exact .of_state fun _ => .inr (.inl ⟨((mayWait_iff _ _).1 h).1, rfl⟩)
  next => exact .refl s j

theorem Follows.updJob {s t : State} {b : Fin 8} {f : Job → Job} (hjobs : t.ubp.jobs = (updJob b f s).ubp.jobs)
    (hf : ∀ j ∈ s.ubp.jobs, j.buf = b → s.GoesOn j (f j)) (hdli : t.dli = s.dli) (hswu : t.swu = s.swu)
    (htxns : t.txns = s.txns) : Follows s t := by
  refine .of_map (f := fun j => if j.buf = b then f j else j) hjobs (fun j hj => ?_) hdli hswu htxns
  split
  next h => exact hf j hj h
  next => exact .refl s j

theorem JobState.Leads.taken (a : JobState) : a.Leads a.taken := by cases a <;> simp [JobState.Leads, JobState.taken]

theorem Follows.cipherTake (s : State) : Follows s (cipherTake s) := by
  unfold Machine.cipherTake
  split
  · exact .refl s
  · split
    · exact .refl s
    next j hj =>
      exact .updJob (f := fun y => { y with state := y.state.taken }) rfl (fun k _ _ => .of_state fun _ => .taken _)
        rfl rfl rfl

theorem Follows.grant (s : State) : Follows s (grant s) := by
  unfold Machine.grant startRun
  dsimp only
  split
  · exact .refl s
  · split
    · split
      next j hj =>
        obtain ⟨hmem, -, hstate, -⟩ := State.deliverable_spec hj
        refine .updJob (b := j.buf) (f := fun y => { y with state := .delivering }) rfl (fun k hk hbuf => .of_state fun hb => ?_) rfl rfl rfl
        obtain rfl := hb.eq_of_buf hk hmem hbuf
        exact .inr (.inr (.inr (.inr ⟨hstate, rfl⟩)))
      next => exact .of_same rfl rfl rfl rfl
    · exact .of_same rfl rfl rfl rfl

/-- What is asked for stays so when its request is issued. -/
theorem asked_issue {s : State} (d : Fin 4) (r : DReq) {op : DOp} {o : Owner} (h : s.Asked op o) : (issue d r s).Asked op o := by
  obtain ⟨hrequests, hslots, -, -⟩ := issue_dli d r s
  unfold State.Asked
  rw [hrequests, hslots]
  rcases h with ⟨q, hq, rfl, rfl⟩ | ⟨z, hz, rfl, rfl⟩
  · by_cases hqr : q = r
    · exact .inr ⟨_, List.mem_append_right _ List.mem_cons_self, by rw [hqr], by rw [hqr]⟩
    · exact .inl ⟨q, (List.mem_erase_of_ne hqr).2 hq, rfl, rfl⟩
  · exact .inr ⟨z, List.mem_append_left _ hz, rfl, rfl⟩

theorem Follows.issue (d : Fin 4) {r : DReq} {s : State} (hr : r ∈ s.dli.requests) : Follows s (Machine.issue d r s) := by
  obtain ⟨hrequests, hslots, -, -⟩ := issue_dli d r s
  have hjobs : ∃ f : Job → Job, (Machine.issue d r s).ubp.jobs = s.ubp.jobs.map f ∧ ∀ j ∈ s.ubp.jobs, s.GoesOn j (f j) := by
    unfold Machine.issue tellIssued
    split
    next b hb =>
      refine ⟨fun j => if j.buf = b then { j with pageOp := .issued d } else j, rfl, fun j _ => ?_⟩
      dsimp only
      split
      next hbuf => exact ⟨rfl, fun _ => .refl _, .inr ⟨⟨r, hr, by rw [hb, hbuf]⟩, d, rfl⟩⟩
      next => exact .refl s j
    · exact ⟨id, by simp [sendDown], fun j _ => .refl s j⟩
    · exact ⟨id, by simp [sendDown], fun j _ => .refl s j⟩
  obtain ⟨f, hmap, hf⟩ := hjobs
  have hbase := Follows.of_map (t := { s with ubp := (Machine.issue d r s).ubp }) hmap hf rfl rfl rfl
  exact {
    jobs := hbase.jobs
    buffers := hbase.buffers
    slots := ⟨_, hslots, fun z hz => .inl ⟨r, hr, by simp [List.mem_singleton.1 hz], by simp [List.mem_singleton.1 hz]⟩⟩
    requests := fun q hq => .inl (List.mem_of_mem_erase (hrequests ▸ hq))
    asked := fun op o h => asked_issue d r h
    errors := ⟨[], by simp, by simp⟩
    out := ⟨by simp, fun h => by
      unfold Machine.issue tellIssued at h
      revert h
      split
      · exact id
      · intro h
        by_contra hne
        simp [sendDown, hne] at h
      · exact id⟩
    records := by simp }

/-- A request made leaves what was asked for, and adds to the requests or to the ERROR completions (R66). -/
theorem Follows.ask {s t : State} {op : DOp} {o : Owner} (hjoins : s.Joins o)
    (hjobs : ∃ m, t.ubp.jobs = s.ubp.jobs ++ m ∧ ∀ k ∈ m, s.Started k) (hbuffers : s.BuffersOk → t.BuffersOk)
    (hdli : t.dli = (makeRequest op o s).dli)
    (hout : (s.swu.discardOut = true → t.swu.discardOut = true) ∧ (t.swu.state = .issuing → s.swu.state = .issuing))
    (hrecords : t.txns.map Txn.fixedPart = s.txns.map Txn.fixedPart) : Follows s t := by
  obtain ⟨m, hm, hstarted⟩ := hjobs
  have hasks : t.dli.slots = s.dli.slots ∧
      ((t.dli.requests = s.dli.requests ++ [{ op := op, owner := o }] ∧ t.dli.errors = s.dli.errors) ∨
        (t.dli.requests = s.dli.requests ∧ t.dli.errors = s.dli.errors ++ [{ op := op, owner := o, issued := false }])) := by
    rw [hdli, makeRequest_dli]
    split
    · exact ⟨rfl, .inl ⟨rfl, rfl⟩⟩
    · exact ⟨rfl, .inr ⟨rfl, rfl⟩⟩
  obtain ⟨hslots, hasked⟩ := hasks
  refine ⟨⟨_, m, hm, forall₂_goesOn_refl s _, hstarted⟩, hbuffers, ⟨[], by simp [hslots], by simp⟩, fun q hq => ?_,
    fun op' o' h => ?_, ?_, hout, hrecords⟩
  · rcases hasked with ⟨hrequests, -⟩ | ⟨hrequests, -⟩
    · rw [hrequests, List.mem_append, List.mem_singleton] at hq
      rcases hq with hq | rfl
      · exact .inl hq
      · exact .inr hjoins
    · exact .inl (hrequests ▸ hq)
  · unfold State.Asked at h ⊢
    rw [hslots]
    refine h.imp (fun ⟨q, hq, h⟩ => ⟨q, ?_, h⟩) id
    rcases hasked with ⟨hrequests, -⟩ | ⟨hrequests, -⟩ <;> simp [hrequests, hq]
  · rcases hasked with ⟨-, herrors⟩ | ⟨-, herrors⟩
    · exact ⟨[], by simp [herrors], by simp⟩
    · exact ⟨_, herrors, fun e he => by simp [List.mem_singleton.1 he, hjoins]⟩

theorem Follows.startJob {b : Fin 8} {x : Txn} {s : State} (hb : s.freeBuffer = some b) (hx : s.txns.find? s.eligible = some x) :
    Follows s (startJob b x (x.nextUnit.getD 0) s) := by
  have hfree := State.freeBuffer_spec hb
  have hmem := List.mem_of_find?_eq_some hx
  obtain ⟨hkind, hvolume, hactive, -⟩ := (s.eligible_iff x).1 (List.find?_some hx)
  have huser : x.isUserTransfer = true := by rcases hkind with h | h <;> simp [Txn.isUserTransfer, h, hvolume]
  have hjobs : ∃ m, (Machine.startJob b x (x.nextUnit.getD 0) s).ubp.jobs = s.ubp.jobs ++ m ∧ ∀ k ∈ m, s.Started k := by
    refine ⟨_, startJob_jobs hfree x _, fun k hk => ?_⟩
    rw [List.mem_singleton.1 hk]
    refine ⟨hfree, ⟨x, hmem, rfl, huser, hactive⟩, ⟨rfl, rfl⟩, fun _ => ?_⟩
    unfold Job.started
    dsimp only
    split <;> simp
  have hbuffers := (Bases.startJob hb hx).buffers
  by_cases hfull : splitKind x.kind x.first x.m (x.nextUnit.getD 0) = .writeFull
  · have hdli : (Machine.startJob b x (x.nextUnit.getD 0) s).dli = s.dli := by rw [startJob_dli, if_pos hfull]
    obtain ⟨m, hm, hstarted⟩ := hjobs
    exact ⟨⟨_, m, hm, forall₂_goesOn_refl s _, hstarted⟩, hbuffers, ⟨[], by simp [hdli], by simp⟩, fun q hq => .inl (hdli ▸ hq),
      fun op o h => by rwa [State.Asked, hdli], ⟨[], by simp [hdli], by simp⟩, by simp, startJob_fixedPart b x _ s⟩
  · exact .ask (op := .pageRead (x.nextUnit.getD 0)) (o := .job b) (.inr ⟨b, rfl, hfree, x, hmem, huser, hactive⟩) hjobs hbuffers
      (by rw [startJob_dli, if_neg hfull]) (by simp) (startJob_fixedPart b x _ s)

theorem Follows.releaseHold (s : State) : Follows s (releaseHold s) := by
  unfold Machine.releaseHold
  split
  next h =>
    obtain ⟨hissuing, hout, hwrite, -⟩ := h
    unfold makeDue
    split
    · exact .refl s
    · split
      · exact .of_swu rfl rfl rfl (by simp)
      · split
        next u c _ _ =>
          split
          · exact .ask (op := .discard c (windowCount c u)) (o := .sweep) (.inl ⟨rfl, hout, hissuing⟩)
              ⟨[], by simp [requestWindow], by simp⟩ (by rw [State.BuffersOk, State.BuffersOk]; simp [requestWindow])
              (makeRequest_dli_congr rfl) (by simp [requestWindow, hissuing]) (by simp [requestWindow])
          · exact .of_swu (by simp [requestCursor]) (by simp [requestCursor]) (by simp [requestCursor]) (by simp [requestCursor])
        · exact .of_swu rfl rfl rfl (by simp)
  next => exact .refl s

theorem follows_closing : Closing Follows where
  refl := .refl
  trans := .trans
  startJob _ _ _ hb hx := .startJob hb hx
  dataWaits := .dataWaits
  releaseHold := .releaseHold
  issue d _ _ _ hr := .issue d (State.chosenRequest_mem hr)
  cipherTake := .cipherTake
  grant := .grant
  judge := .judge

theorem settle_follows (s : State) : Follows s (settle s) := follows_closing.settle s

theorem settle_asked {s : State} {op : DOp} {o : Owner} (h : s.Asked op o) : (settle s).Asked op o :=
  (settle_follows s).asked op o h

/-- Each job goes on in its buffer, on its unit and for its transaction. -/
theorem settle_jobs_kept {s : State} {j : Job} (hj : j ∈ s.ubp.jobs) : ∃ k ∈ (settle s).ubp.jobs, k.buf = j.buf ∧
    k.owner = j.owner ∧ k.unit = j.unit ∧ k.sent = j.sent ∧ k.abandoned = j.abandoned := by
  obtain ⟨k, hk, hjk⟩ := (settle_follows s).job hj
  obtain ⟨hbuf, howner, hunit, -, -, -, hsent, habandoned⟩ := hjk.fields
  exact ⟨k, hk, hbuf, howner, hunit, hsent, habandoned⟩

/-- The job of a buffer goes on in it. -/
theorem Follows.job? {s t : State} (h : Follows s t) {b : Fin 8} {j : Job} (hj : s.job? b = some j) :
    ∃ k, t.job? b = some k ∧ s.GoesOn j k := by
  obtain ⟨l, m, hl, hgoes, -⟩ := h.jobs
  have hfind : ∀ (l₁ l₂ : List Job), List.Forall₂ s.GoesOn l₁ l₂ → l₁.find? (fun j => j.buf == b) = some j →
      ∃ k, l₂.find? (fun j => j.buf == b) = some k ∧ s.GoesOn j k := by
    intro l₁ l₂ hall
    induction hall with
    | nil => intro h; cases h
    | @cons i k l₁ l₂ hik _ ih =>
      intro h
      rw [List.find?_cons] at h ⊢
      rw [hik.fields.1]
      split at h
      next => cases h; exact ⟨k, by simp, hik⟩
      next => simpa using ih h
  obtain ⟨k, hk, hjk⟩ := hfind _ _ hgoes hj
  exact ⟨k, by rw [State.job?, hl, List.find?_append, hk]; rfl, hjk⟩

end Sys2Proof.Machine


/-! PROOF. The grant of the upstream output in its order (R29). -/

namespace Sys2Proof.Machine

open Sys2Proof

/-- An item ready is its transaction's. -/
theorem State.readyItem_holder {s : State} {x : Txn} {o : Output} (h : s.readyItem x = some o) : o.holder = some x.tag := by
  unfold State.readyItem at h
  repeat' split at h
  all_goals cases h
  all_goals rfl

/-- Where no record of an initial part of the table has an item ready to grant, none has an item (R14, R29). -/
theorem State.not_hasItem_of_readyItem {s : State} {l r : List Txn} (htable : s.txns = l ++ r)
    (hnone : ∀ y ∈ l, s.readyItem y = none) {y : Txn} (hy : y ∈ l) : ¬ s.HasItem y := by
  have hready := hnone y hy
  rintro (hdone | ⟨hactive, ⟨hwrite, hwaits, hintake⟩ | ⟨hread, huser, hdeliver⟩ | ⟨hread, hoverlay, -⟩⟩)
  · simp [State.readyItem, hdone] at hready
  · simp [State.readyItem, hactive, hwrite, hwaits, hintake] at hready
  · simp [State.readyItem, hactive, hread, huser, hdeliver] at hready
  · obtain ⟨x, hx⟩ : ∃ x, l.find? (fun x => x.kind == .read && x.volume == .overlay && x.phase == .active) = some x := by
      rw [← Option.isSome_iff_exists, List.find?_isSome]
      exact ⟨y, hy, by simp [hread, hoverlay, hactive]⟩
    have hchoice : s.overlayChoice = some x := by rw [State.overlayChoice, htable, List.find?_append, hx]; rfl
    have hkind := List.find?_some hx
    simp only [Bool.and_eq_true, beq_iff_eq] at hkind
    have hnone := hnone x (List.mem_of_find?_eq_some hx)
    simp [State.readyItem, hkind, hchoice] at hnone

/-- The output granted is the item of the oldest transaction that has one ready. -/
theorem State.nextOutput_spec {s : State} (hrefusals : s.uli.refusals = []) {f : Fin 16} (h : s.nextOutput.holder = some f)
    {y : Txn} (hy : y ∈ s.older f) : ¬ s.HasItem y := by
  unfold State.nextOutput at h
  rw [if_neg (by simp [hrefusals])] at h
  cases hfound : s.txns.findSome? s.readyItem with
  | none => simp [hfound, Output.holder] at h
  | some o =>
    obtain ⟨l, x, r, htable, hready, hnone⟩ := List.findSome?_eq_some_iff.1 hfound
    rw [hfound, Option.getD_some, State.readyItem_holder hready, Option.some_inj] at h
    refine State.not_hasItem_of_readyItem htable hnone ?_
    rw [State.older, htable, List.takeWhile_append] at hy
    split at hy
    next hall =>
      rw [List.takeWhile_cons_of_neg (by simp [h]), List.append_nil] at hy
      exact hy
    next => exact (List.takeWhile_sublist _).mem hy

theorem State.nextOutput_free {s : State} (h : s.nextOutput = .free) {y : Txn} (hy : y ∈ s.txns) : ¬ s.HasItem y := by
  unfold State.nextOutput at h
  split at h
  · cases h
  · cases hfound : s.txns.findSome? s.readyItem with
    | none => exact State.not_hasItem_of_readyItem (r := []) (by simp) (by simpa using List.findSome?_eq_none_iff.1 hfound) hy
    | some o =>
      obtain ⟨l, x, r, -, hready, -⟩ := List.findSome?_eq_some_iff.1 hfound
      rw [hfound, Option.getD_some] at h
      have hholder := State.readyItem_holder hready
      simp [h, Output.holder] at hholder

theorem State.nextOutput_refusal (s : State) : s.nextOutput = .refusal ↔ s.uli.refusals ≠ [] := by
  unfold State.nextOutput
  split
  next h => simp [h]
  next h =>
    refine iff_of_false (fun hrefusal => ?_) h
    cases hfound : s.txns.findSome? s.readyItem with
    | none => simp [hfound] at hrefusal
    | some o =>
      obtain ⟨l, x, r, -, hready, -⟩ := List.findSome?_eq_some_iff.1 hfound
      rw [hfound, Option.getD_some] at hrefusal
      have hholder := State.readyItem_holder hready
      simp [hrefusal, Output.holder] at hholder

theorem lowestJob_map {g : Job → Job} (hg : ∀ j, (g j).unit = j.unit) (l : List Job) :
    lowestJob (l.map g) = (lowestJob l).map g := by
  induction l with
  | nil => rfl
  | cons j l ih =>
    rw [List.map_cons, lowestJob, lowestJob, ih]
    cases lowestJob l with
    | none => rfl
    | some k =>
      simp only [Option.map_some, hg]
      split <;> rfl

/-- A run started gives no transaction an item (R54, R55). -/
theorem State.HasItem.of_run {s t : State} {g : Job → Job} (hjobs : t.ubp.jobs = s.ubp.jobs.map g)
    (hg : ∀ j, g j = j ∨ g j = { j with state := .delivering }) (htxns : t.txns = s.txns)
    (hintakes : t.uli.intakes = s.uli.intakes) {y : Txn} (h : t.HasItem y) : s.HasItem y := by
  have hof (tag : Fin 16) (j : Job) : (g j).isOf tag = j.isOf tag := by
    rcases hg j with h | h
    · rw [h]
    · rw [h]; rfl
  have hunit (j : Job) : (g j).unit = j.unit := by rcases hg j with h | h <;> rw [h]
  have hstate {j : Job} (hne : (g j).state ≠ .delivering) : g j = j := (hg j).resolve_right fun h => hne (by rw [h])
  have hwaits : (t.waitingJob y.tag).isSome = true → (s.waitingJob y.tag).isSome = true := by
    simp only [State.waitingJob, List.find?_isSome, hjobs, List.mem_map]
    rintro ⟨-, ⟨j, hj, rfl⟩, hk⟩
    simp only [Bool.and_eq_true, beq_iff_eq] at hk
    rw [hstate (by simp [hk.2])] at hk
    exact ⟨j, hj, by simpa using hk⟩
  have hdeliver : (t.deliverable y.tag).isSome = true → (s.deliverable y.tag).isSome = true := by
    unfold State.deliverable
    rw [hjobs, List.filter_map, show (fun j => j.isOf y.tag) ∘ g = fun j => j.isOf y.tag from funext (hof y.tag),
      lowestJob_map hunit]
    cases lowestJob (s.ubp.jobs.filter (fun j => j.isOf y.tag)) with
    | none => exact id
    | some j =>
      intro h
      dsimp only [Option.map_some] at h ⊢
      by_cases hwait : (g j).state = .deliverWait
      · rw [hstate (by simp [hwait])] at hwait
        simp [hwait]
      · simp [hwait] at h
  unfold State.HasItem at h ⊢
  simp only [State.intake?, State.older, hintakes, htxns] at h ⊢
  refine h.imp id fun ⟨hactive, hitem⟩ => ⟨hactive, hitem.imp (fun ⟨hwrite, hw, hi⟩ => ⟨hwrite, hwaits hw, hi⟩)
    (Or.imp (fun ⟨hread, huser, hd⟩ => ⟨hread, huser, hdeliver hd⟩) id)⟩

/-- What a run started does to the jobs. -/
theorem startRun_jobs (o : Output) (s : State) : ∃ g : Job → Job, (startRun o s).ubp.jobs = s.ubp.jobs.map g ∧
    ∀ j, g j = j ∨ g j = { j with state := .delivering } := by
  unfold startRun
  split
  · split
    next j hj =>
      refine ⟨_, updJob_jobs _ _ _, fun k => ?_⟩
      split
      · exact .inr rfl
      · exact .inl rfl
    next => exact ⟨id, by simp, fun j => .inl rfl⟩
  · exact ⟨id, by simp, fun j => .inl rfl⟩

theorem State.GrantedInOrder.judge {s : State} (h : s.GrantedInOrder) : (Machine.judge s).GrantedInOrder := by
  have hitem {y : Txn} (hy : (Machine.judge s).HasItem y) : s.HasItem y :=
    hy.of_run (g := id) (by simp) (fun j => .inl rfl) (by simp) (by simp)
  obtain ⟨hrefusal, holder, hfree⟩ := h
  simp only [State.GrantedInOrder, State.older, judge_frame] at holder ⊢
  exact ⟨hrefusal, fun f hf y hy hy' => holder f hf y hy (hitem hy'), fun hf y hy hy' => hfree hf y hy (hitem hy')⟩

/-- A free output is granted to the oldest item (R29). -/
theorem grant_inOrder {s : State} (h : s.uli.output = .free) : (grant s).GrantedInOrder := by
  obtain ⟨g, hg, hrun⟩ := startRun_jobs s.nextOutput (s.setUli { s.uli with output := s.nextOutput })
  have hgrant : grant s = startRun s.nextOutput (s.setUli { s.uli with output := s.nextOutput }) := by
    rw [grant, if_neg (by simp [h])]
  rw [← hgrant] at hg
  have huli : (grant s).uli = { s.uli with output := s.nextOutput } := by rw [hgrant]; simp
  have htxns : (grant s).txns = s.txns := by simp
  have hitem {y : Txn} (hy : (grant s).HasItem y) : s.HasItem y := hy.of_run (s := s) hg hrun htxns (by rw [huli])
  refine ⟨by rw [huli]; exact s.nextOutput_refusal, fun f hf y hy hy' => ?_, fun hf y hy hy' => ?_⟩
  · rw [huli] at hf
    rw [State.older, htxns] at hy
    refine State.nextOutput_spec ?_ hf hy (hitem hy')
    by_contra hne
    rw [s.nextOutput_refusal.2 hne] at hf
    cases hf
  · rw [huli] at hf
    rw [htxns] at hy
    exact State.nextOutput_free hf hy (hitem hy')

@[simp] theorem beforeGrant_uli (s : State) : (beforeGrant s).uli = s.uli := by simp [beforeGrant]

/-- The output that an event leaves free is granted in order (R29). -/
theorem settle_inOrder {s : State} (h : s.uli.output = .free) : (settle s).GrantedInOrder := by
  rw [settle_eq_grant]
  exact (grant_inOrder (by simp [h])).judge

end Sys2Proof.Machine


/-! PROOF. Request records taken, admitted, refused and held back (R17, R18, R19, R20, R75). -/

namespace Sys2Proof.Machine

open Sys2Proof

/-! ## Arrival -/

/-- The state once the arrival of a READ or WRITE has been reported to the AC (R95). -/
def State.reported (s : State) (r : Request) : State := if r.isTransfer then reloadIdle s else s

/-- The arrival of a READ or WRITE reloads the idle counter that is not off (R95). -/
@[simp] theorem reloadIdle_ac (s : State) : (reloadIdle s).ac =
    { s.ac with
      idle := if s.ac.access.unlocked ∧ s.ac.idle.isSome then some (s.ks.dev.fields.autoLock * 600) else s.ac.idle } := by
  unfold reloadIdle
  split
  next => simp [State.idleTicks]
  next h => rfl

@[simp] theorem State.reported_frame (s : State) (r : Request) : (s.reported r).power = s.power ∧
    (s.reported r).uli = s.uli ∧ (s.reported r).txns = s.txns ∧ (s.reported r).atr = s.atr ∧
    (s.reported r).ubp = s.ubp ∧ (s.reported r).dli = s.dli ∧ (s.reported r).ks = s.ks ∧ (s.reported r).swu = s.swu ∧
    (s.reported r).ind = s.ind := by
  unfold State.reported
  split <;> simp

theorem State.reported_ac (s : State) (r : Request) : (s.reported r).ac = { s.ac with
    idle := if r.isTransfer ∧ s.ac.access.unlocked ∧ s.ac.idle.isSome then some (s.ks.dev.fields.autoLock * 600)
      else s.ac.idle } := by
  unfold State.reported
  split
  next h => simp [h]
  next h => simp [h]

/-! ## Admission (R20, R22) -/

/-- A request that passes the checks of R18 is admitted. -/
theorem takeRequest_of_valid {r : Request} {k : TxKind} {s : State} (hvalid : r.valid = true) (hkind : kindOf r.kind = some k)
    (hfree : s.txn? (tagOf r.tag) = none) : takeRequest r s = admitRequest k (tagOf r.tag) r (s.reported r) := by
  have hfree' : ((s.reported r).txn? (tagOf r.tag)).isSome = false := by
    rw [State.txn?_congr (s.reported_frame r).2.2.1, hfree]
    rfl
  unfold takeRequest
  dsimp only
  rw [if_neg (by simp [hvalid]), hkind]
  exact if_neg (by simp only [State.reported] at hfree'; simp [hfree'])

/-- The record an admitted request is given stands on its tag. -/
theorem admitRequest_txn? (k : TxKind) {t : Fin 16} (r : Request) {s : State} (hfree : s.txn? t = none) :
    (admitRequest k t r s).txn? t = some (s.admitted k t r) := by
  unfold State.txn? at hfree ⊢
  rw [admitRequest_txns, List.find?_append, hfree]
  simp [(s.admitted_fields k t r).1]

/-- What a request taken in is admitted with, once its event has closed. -/
theorem admitted_record {s : State} {r : Request} {k : TxKind} (hvalid : r.valid = true) (hkind : kindOf r.kind = some k)
    (hfree : s.txn? (tagOf r.tag) = none) : ∃ y, (settle (takeRequest r s)).txn? (tagOf r.tag) = some y ∧
      y.fixedPart = ((s.reported r).admitted k (tagOf r.tag) r).fixedPart := by
  rw [takeRequest_of_valid hvalid hkind hfree]
  refine settle_txn?_some (admitRequest_txn? k r ?_)
  rwa [State.txn?_congr (s.reported_frame r).2.2.1]

theorem takeRequest_ac_of_admitted {s : State} {r : Request} {k : TxKind} (hvalid : r.valid = true)
    (hkind : kindOf r.kind = some k) (hfree : s.txn? (tagOf r.tag) = none) :
    (settle (takeRequest r s)).ac = (s.reported r).ac := by
  rw [takeRequest_of_valid hvalid hkind hfree]
  simp

/-- A request of kind FLUSH, SIZE or STATE passes check 1 of R18 with a tag of 0 to 15. -/
theorem Request.valid_of_other {kind tag : Byte} (hkind : kind = 3 ∨ kind = 4 ∨ kind = 5) (htag : tag.toNat ≤ 15)
    (lba : BitVec 32) (count : BitVec 16) : Request.valid { kind := kind, tag := tag, lba := lba, count := count } = true := by
  rcases hkind with rfl | rfl | rfl <;> simp [Request.valid, Request.isTransfer, htag]

/-- Settles O24: the records of SIZE and STATE are DONE as they are created. -/
theorem sizeAndStateAdmission : Obligations.SizeAndStateAdmission := by
  unfold Obligations.SizeAndStateAdmission
  intro s tag lba count htakes htag hfree
  refine ⟨?size, ?state⟩
  case size =>
    have hvalid := Request.valid_of_other (kind := 4) (by simp) htag lba count
    obtain ⟨y, hy, hfixed⟩ := admitted_record hvalid rfl hfree
    obtain ⟨-, hkind, -, -, hrequested, -, hdone, -, hphase, -, houtcome⟩ := Txn.fields_of_fixedPart hfixed
    have hac := takeRequest_ac_of_admitted hvalid rfl hfree
    rw [← requestArrives_of_takesRequests htakes] at hy hac
    refine ⟨_, y, rfl, hy, hkind, hphase, houtcome, ?_, hac, by simp⟩
    rw [Txn.residue, hrequested, hdone]
    rfl
  case state =>
    have hvalid := Request.valid_of_other (kind := 5) (by simp) htag lba count
    obtain ⟨y, hy, hfixed⟩ := admitted_record hvalid rfl hfree
    obtain ⟨-, hkind, -, -, hrequested, -, hdone, -, hphase, -, houtcome⟩ := Txn.fields_of_fixedPart hfixed
    have hac := takeRequest_ac_of_admitted hvalid rfl hfree
    rw [← requestArrives_of_takesRequests htakes] at hy hac
    refine ⟨_, y, rfl, hy, hkind, hphase, houtcome, ?_, hac, by simp, ?_⟩
    · rw [Txn.residue, hrequested, hdone]
      rfl
    · rw [requestArrives_of_takesRequests htakes, takeRequest_of_valid hvalid rfl hfree]
      simp

/-- A FLUSH with an empty mark asks for its SYNC where the media is OK (R66, R76). -/
theorem syncIfUnmarked_asked {s : State} {t : Fin 16} {x : Txn} (hx : s.txn? t = some x) (hkind : x.kind = .flush)
    (hactive : x.phase = .active) (hmark : x.flushMark = some []) (hmedia : s.dli.media = .ok) :
    (syncIfUnmarked t s).Asked .sync (.flush t) := by
  unfold syncIfUnmarked
  rw [hx]
  dsimp only
  rw [if_pos ⟨hkind, hactive, hmark⟩]
  refine .inl ⟨{ op := .sync, owner := .flush t }, ?_, rfl, rfl⟩
  rw [requestSync, makeRequest_dli, if_pos (by simp [State.admissible, hmedia])]
  simp

/-- Settles O23, by the presented volume. -/
theorem flushAdmission : Obligations.FlushAdmission := by
  unfold Obligations.FlushAdmission
  intro s tag lba count htakes htag hfree
  obtain ⟨r, hr⟩ : ∃ r : Request, r = { kind := 3, tag := tag, lba := lba, count := count } := ⟨_, rfl⟩
  have hvalid : r.valid = true := hr ▸ Request.valid_of_other (by simp) htag lba count
  have hreported : s.reported r = s := by rw [hr]; rfl
  have hexec : exec (.flushRequest tag lba count) s = .next (settle (takeRequest r s)) := by
    rw [hr, ← requestArrives_of_takesRequests htakes]
    rfl
  have hkindOf : kindOf r.kind = some .flush := by rw [hr]; rfl
  obtain rfl : tag = r.tag := by rw [hr]
  obtain ⟨y, hy, hfixed⟩ := admitted_record hvalid hkindOf hfree
  have hac := takeRequest_ac_of_admitted hvalid hkindOf hfree
  rw [hreported] at hfixed hac
  have hrecord : (s.admitted .flush (tagOf r.tag) r).kind = .flush ∧ (s.admitted .flush (tagOf r.tag) r).requested = none ∧
      (s.atr.volume = .nothing → (s.admitted .flush (tagOf r.tag) r).phase = .done ∧
        (s.admitted .flush (tagOf r.tag) r).outcome = some .becomingReady) ∧
      (s.atr.volume = .overlay → (s.admitted .flush (tagOf r.tag) r).phase = .done ∧
        (s.admitted .flush (tagOf r.tag) r).outcome = some .good) ∧
      (s.atr.volume = .user → (s.admitted .flush (tagOf r.tag) r).phase = .active ∧
        (s.admitted .flush (tagOf r.tag) r).flushMark = some s.outstandingWrites) := by
    unfold State.admitted
    dsimp only
    cases s.atr.volume <;> simp [Txn.atAdmission]
  obtain ⟨hkind', hrequested', hnothing, hoverlay, huser⟩ := hrecord
  obtain ⟨-, hkind, -, -, hrequested, -, -, -, hphase, hmark, houtcome⟩ := Txn.fields_of_fixedPart hfixed
  refine ⟨_, y, hexec, hy, hkind.trans hkind', ?_, hac,
    by rwa [hphase, houtcome], by rwa [hphase, houtcome], fun hvolume => ?_⟩
  · rw [Txn.residue, hrequested, hrequested']
    simp
  · obtain ⟨hactive, hwrites⟩ := huser hvolume
    refine ⟨hphase.trans hactive, hmark.trans hwrites, fun hnone hmedia => settle_asked ?_⟩
    rw [takeRequest_of_valid hvalid hkindOf hfree, hreported]
    refine syncIfUnmarked_asked (x := s.admitted .flush (tagOf r.tag) r) ?_ hkind' hactive ?_ hmedia
    · exact (State.txn?_congr (admitRequest_txns _ _ _ _).symm _).trans (admitRequest_txn? .flush r hfree)
    · rw [hwrites, State.outstandingWrites, List.filter_eq_nil_iff.2 (by simpa using hnone)]
      rfl

/-! ## Refusals (R18, R19) -/

theorem takeRequest_of_notValid {r : Request} (hvalid : r.valid = false) (s : State) :
    takeRequest r s = refuse r .requestFault (s.reported r) := by
  unfold takeRequest
  exact if_pos hvalid

theorem takeRequest_of_busy {r : Request} {k : TxKind} {s : State} (hvalid : r.valid = true) (hkind : kindOf r.kind = some k)
    (hbusy : (s.txn? (tagOf r.tag)).isSome = true) : takeRequest r s = refuse r .tagBusy (s.reported r) := by
  have hbusy' : ((s.reported r).txn? (tagOf r.tag)).isSome = true := by
    rwa [State.txn?_congr (s.reported_frame r).2.2.1]
  unfold takeRequest
  dsimp only
  rw [if_neg (by simp [hvalid]), hkind]
  exact if_pos hbusy'

/-- What a refusal leaves, once its event has closed. -/
theorem settle_refuse (r : Request) (o : Result) (s : State) :
    (settle (refuse r o (s.reported r))).uli.refusals = s.uli.refusals ++ [r.refusal o] ∧
    (settle (refuse r o (s.reported r))).txns.map Txn.fixedPart = s.txns.map Txn.fixedPart ∧
    (settle (refuse r o (s.reported r))).ac = (s.reported r).ac := by
  refine ⟨by simp [refuse], by rw [settle_fixedPart]; simp, by simp⟩

theorem Request.isTransfer_iff (r : Request) : r.isTransfer = true ↔ r.kind = 1 ∨ r.kind = 2 := by
  simp [Request.isTransfer]

theorem Request.countOk_iff (r : Request) : r.countOk = true ↔ 1 ≤ r.count.toNat ∧ r.count.toNat ≤ 256 := by
  simp [Request.countOk]

theorem Request.valid_iff (r : Request) : r.valid = true ↔ unknownKind r.kind = false ∧ r.tag.toNat ≤ 15 ∧
    ((r.kind = 1 ∨ r.kind = 2) → 1 ≤ r.count.toNat ∧ r.count.toNat ≤ 256) := by
  have hkind : unknownKind r.kind = false ↔ 1 ≤ r.kind.toNat ∧ r.kind.toNat ≤ 6 := by
    simp only [unknownKind, Bool.or_eq_false_iff, beq_eq_false_iff_ne, decide_eq_false_iff_not, Nat.not_lt]
    refine and_congr ⟨fun h => ?_, fun h hzero => by simp [hzero] at h⟩ Iff.rfl
    exact Nat.one_le_iff_ne_zero.2 fun hzero => h (BitVec.eq_of_toNat_eq hzero)
  rw [hkind, ← r.isTransfer_iff, ← r.countOk_iff]
  simp [Request.valid, and_assoc, ← Bool.not_eq_true, ← imp_iff_not_or]

theorem kindOf_isSome {k : Byte} (hknown : unknownKind k = false) (habort : k ≠ 6) : ∃ x, kindOf k = some x := by
  have hcases : k = 1 ∨ k = 2 ∨ k = 3 ∨ k = 4 ∨ k = 5 := by
    revert k
    decide
  rcases hcases with rfl | rfl | rfl | rfl | rfl <;> exact ⟨_, rfl⟩

/-- Settles O27: a request that fails a check of R18 is refused, and changes nothing else but the idle counter. -/
theorem refusedRequests : Obligations.RefusedRequests := by
  unfold Obligations.RefusedRequests
  intro s r htakes
  have hac : (s.reported r).ac = { s.ac with
      idle := if (r.kind = 1 ∨ r.kind = 2) ∧ s.ac.access.unlocked ∧ s.ac.idle.isSome
        then some (s.ks.dev.fields.autoLock * 600) else s.ac.idle } := by
    rw [State.reported_ac]
    simp only [r.isTransfer_iff]
  have hexec : exec (requestOf r.kind r.tag r.lba r.count) s = .next (settle (takeRequest r s)) := by
    rw [exec_requestOf, requestArrives_of_takesRequests htakes]
  refine ⟨fun hfault => ⟨_, hexec, ?_⟩, fun hknown habort htag hcount hbusy => ⟨_, hexec, ?_⟩⟩
  · have hvalid : r.valid = false := by
      rw [← Bool.not_eq_true, r.valid_iff]
      rintro ⟨hknown, htag, hcount⟩
      rcases hfault with h | h | ⟨hkind, h⟩
      · simp [hknown] at h
      · omega
      · have := hcount hkind
        omega
    rw [takeRequest_of_notValid hvalid]
    obtain ⟨hrefusals, htable, hac'⟩ := settle_refuse r .requestFault s
    refine ⟨hrefusals.trans ?_, htable, hac'.trans hac⟩
    simp only [Request.refusal, Bool.and_eq_true, r.isTransfer_iff, r.countOk_iff]
  · have hvalid : r.valid = true := r.valid_iff.2 ⟨hknown, htag, hcount⟩
    obtain ⟨k, hk⟩ := kindOf_isSome hknown habort
    rw [takeRequest_of_busy hvalid hk hbusy]
    obtain ⟨hrefusals, htable, hac'⟩ := settle_refuse r .tagBusy s
    refine ⟨hrefusals.trans ?_, htable, hac'.trans hac⟩
    by_cases hkind : r.kind = 1 ∨ r.kind = 2
    · simp only [Request.refusal, Bool.and_eq_true, r.isTransfer_iff, r.countOk_iff, hkind, hcount hkind, and_self]
    · simp only [Request.refusal, Bool.and_eq_true, r.isTransfer_iff, hkind, false_and]

/-! ## The refusal queue (R19, R29) -/

theorem exec_refusalSent {s : State} {c : Complete} {rest : List Complete} (hrun : s.power = .running)
    (houtput : s.uli.output = .refusal) (hrefusals : s.uli.refusals = c :: rest) :
    exec .refusalSent s =
      .next (settleLink (freeOutput (sendUp (.complete c) (s.setUli { s.uli with refusals := rest })))) := by
  refine (State.whenRunning_of_running hrun refusalSent).trans ?_
  simp [refusalSent, houtput, hrefusals]

/-- One item that waits and may be taken is taken. -/
theorem settleLink_of_one {s : State} {i : LinkItem} (hlink : s.uli.link = [i])
    (hfree : i.isRequest = true → s.uli.refusals.length < 4) :
    settleLink s = settle (i.take ((settle s).setUli { (settle s).uli with link := [] })) := by
  have hnext : (settle s).nextItem = some i := by
    rw [State.nextItem, settle_link, hlink, settle_refusals, List.find?_cons_of_pos]
    by_cases hi : i.isRequest = true
    · simp [Nat.not_le.2 (hfree hi)]
    · simp [hi]
  unfold settleLink
  dsimp only
  rw [settle_link, hlink]
  simp [drain, hnext, hlink]

theorem settle_records {α : Type} {f : Txn → α} (hf : ∀ x, f x.fixedPart = f x) (s : State) :
    (settle s).txns.map f = s.txns.map f := by
  have hmap (l : List Txn) : l.map f = (l.map Txn.fixedPart).map f := by
    rw [List.map_map]
    exact List.map_congr_left fun x _ => (hf x).symm
  rw [hmap, settle_fixedPart, ← hmap]

/-- A request taken neither sends a record nor touches what waits on the link. -/
theorem takeRequest_link_sent (r : Request) (s : State) :
    (takeRequest r s).uli.link = s.uli.link ∧ (takeRequest r s).uli.sent = s.uli.sent :=
  ⟨takeRequest_touches r s .link (by decide), takeRequest_touches r s .sentUp (by decide)⟩

/-- Settles O28: the queue's length decides what is taken, and the refusal sent frees a place. -/
theorem refusalQueue : Obligations.RefusalQueue := by
  unfold Obligations.RefusalQueue
  refine ⟨fun s r hrun hfull => ?_, fun s c rest hrun houtput hrefusals => ⟨fun hlink => ?_, fun r hlink hplace => ?_⟩⟩
  · rw [exec_requestOf]
    simp [requestArrives, hrun, State.holdsRequests, hfull, waitOnLink]
  · refine ⟨_, exec_refusalSent hrun houtput hrefusals, ?_⟩
    rw [settleLink_of_link_nil (by simp [freeOutput, sendUp, hlink])]
    obtain ⟨hrefusal, -⟩ := settle_inOrder
      (s := freeOutput (sendUp (.complete c) (s.setUli { s.uli with refusals := rest }))) rfl
    refine ⟨by simp [freeOutput, sendUp], by simp [freeOutput, sendUp], fun hmore => hrefusal.2 ?_,
      settle_records (by exact fun _ => rfl) _⟩
    simpa [freeOutput, sendUp] using hmore
  · refine ⟨_, exec_refusalSent hrun houtput hrefusals, ?_⟩
    generalize hu : freeOutput (sendUp (.complete c) (s.setUli { s.uli with refusals := rest })) = u
    have huli : u.uli.link = [.request r] ∧ u.uli.refusals = rest ∧ u.uli.sent = .complete c :: s.uli.sent ∧ u.txns = s.txns := by
      rw [← hu]
      exact ⟨hlink, rfl, rfl, rfl⟩
    obtain ⟨hulink, hurefusals, husent, hutxns⟩ := huli
    rw [settleLink_of_one hulink fun _ => by rwa [hurefusals]]
    generalize hv : (settle u).setUli { (settle u).uli with link := [] } = v
    have huli : v.uli.link = [] ∧ v.uli.refusals = rest ∧ v.uli.sent = .complete c :: s.uli.sent := by
      rw [← hv]
      exact ⟨rfl, by simp [hurefusals], by simp [husent]⟩
    obtain ⟨hvlink, hvrefusals, hvsent⟩ := huli
    obtain ⟨hlink', hsent'⟩ := takeRequest_link_sent r v
    refine ⟨by simp [LinkItem.take, hlink', hvlink], by simp [LinkItem.take, hsent', hvsent], fun hvalid habort hfree => ?_⟩
    have hfreev : v.txn? (tagOf r.tag) = none := by
      have hsame := settle_txn? u (tagOf r.tag)
      rw [State.txn?_congr hutxns, hfree] at hsame
      rw [← hv]
      exact Option.map_eq_none_iff.1 hsame
    obtain ⟨hknown, -⟩ := r.valid_iff.1 hvalid
    obtain ⟨k, hk⟩ := kindOf_isSome hknown habort
    obtain ⟨y, hy, -⟩ := admitted_record hvalid hk hfreev
    refine ⟨?_, by rw [LinkItem.take, hy]; rfl⟩
    rw [LinkItem.take, takeRequest_of_valid hvalid hk hfreev]
    simp [hvrefusals]

end Sys2Proof.Machine


/-! PROOF. Failures of a whole volume and the lock event (R23, R90, R94), and what ABORT, KEY, the idle expiry and a loss of
the media do by them (R34, R73, R92, R93, R95). -/

namespace Sys2Proof.Machine

open Sys2Proof

/-! ## The work that a failure leaves (R23, R60) -/

/-- A failure either reaches an ACTIVE record without a failure, or changes nothing (R24). -/
theorem failTxn_cases (t : Fin 16) (f : Failure) (s : State) :
    (∃ x, s.txn? t = some x ∧ x.phase = .active ∧ x.failure = none) ∨ failTxn t f s = s := by
  by_cases h : ∃ x, s.txn? t = some x ∧ x.phase = .active ∧ x.failure = none
  · exact .inl h
  · refine .inr (failTxn_of_inactive (fun x hx => ?_) f)
    by_contra hne
    exact h ⟨x, hx, by simpa [not_or] using hne⟩

/-- A failure frees the output of a DATA_WANTED alone. -/
theorem failTxn_output_iff (t : Fin 16) (f : Failure) (s : State) {o : Output} (hfree : o ≠ .free)
    (hwanted : ∀ u, o ≠ .dataWanted u) : (failTxn t f s).uli.output = o ↔ s.uli.output = o := by
  rcases failTxn_cases t f s with ⟨x, hx, hactive, hfresh⟩ | hsame
  · have houtput : (failTxn t f s).uli.output =
        (disposeWork x (updTxn t (fun y => { y with failure := some f, flushMark := none }) s)).uli.output := by
      rw [failTxn_of_active hx hactive hfresh]
      split <;> simp
    rw [houtput]
    unfold disposeWork
    split
    · rfl
    · split
      · rw [withdrawWanted_output]
        split
        next h =>
          have h : s.uli.output = .dataWanted x.tag := by simpa [closeIntake] using h
          simp [h, hfree.symm, (hwanted _).symm]
        next => simp [closeIntake]
      · rfl
  · rw [hsame]

/-- A failure leaves what any failed transaction waits on. -/
theorem failTxn_keepsWork (t u : Fin 16) (f : Failure) (s : State) : (failTxn t f s).KeepsWork u ↔ s.KeepsWork u := by
  have hjobs : (∃ j ∈ (failTxn t f s).ubp.jobs, j.owner = u ∧ j.abandoned = false ∧ j.state = .mediaWrite) ↔
      ∃ j ∈ s.ubp.jobs, j.owner = u ∧ j.abandoned = false ∧ j.state = .mediaWrite := by
    rcases failTxn_jobs t f s with h | ⟨x, -, -, -, -, h⟩
    · rw [h]
    · rw [h]
      refine ⟨fun ⟨k, hk, howner, hkept, hstate⟩ => ?_, fun ⟨j, hj, howner, hkept, hstate⟩ => ?_⟩
      · obtain ⟨j, hj, hjk⟩ := List.mem_filterMap.1 hk
        split at hjk
        next hof =>
          obtain ⟨-, howner', -, hstate', -, -⟩ := Job.atFailure_fields hjk
          have hof : j.owner = t ∧ j.abandoned = false := by simpa [Job.isOf] using hof
          exact ⟨j, hj, howner' ▸ howner, hof.2, hstate' ▸ hstate⟩
        next => cases hjk; exact ⟨k, hj, howner, hkept, hstate⟩
      · refine ⟨j, List.mem_filterMap.2 ⟨j, hj, ?_⟩, howner, hkept, hstate⟩
        simp [Job.atFailure_of_mediaWrite hstate]
  have herrors : (∃ e ∈ (failTxn t f s).dli.errors, e.owner = .flush u ∧ e.issued = true) ↔
      ∃ e ∈ s.dli.errors, e.owner = .flush u ∧ e.issued = true := by
    refine ⟨fun ⟨e, he, h⟩ => ⟨e, (failTxn_lists t f s).2.mem he, h⟩, fun ⟨e, he, howner, hissued⟩ => ⟨e, ?_, howner, hissued⟩⟩
    rcases failTxn_cases t f s with ⟨x, hx, hactive, hfresh⟩ | hsame
    · rw [failTxn_dli hx hactive hfresh]
      split
      · simp [withdrawSync, he, hissued]
      · split
        · simp [withdrawJobs, he, howner, ownerIn]
        · exact he
    · rwa [hsame]
  unfold State.KeepsWork
  rw [hjobs, herrors, failTxn_slots, failTxn_output_iff t f s (by simp) (by simp), failTxn_output_iff t f s (by simp) (by simp)]

/-- A failure reaches each record of a list of other tags, or of this one. -/
def failAll (f : Failure) (l : List Txn) (s : State) : State := l.foldl (fun acc x => failTxn x.tag f acc) s

theorem failAll_cons (f : Failure) (x : Txn) (l : List Txn) (s : State) :
    failAll f (x :: l) s = failAll f l (failTxn x.tag f s) := rfl

theorem failVolume_eq (v : TxVolume) (f : Failure) (s : State) :
    failVolume v f s = failAll f (s.txns.filter (fun x => x.volume == v)) s := rfl

theorem failAll_txn?_of_notMem {f : Failure} {l : List Txn} {t : Fin 16} (h : t ∉ l.map Txn.tag) (s : State) :
    (failAll f l s).txn? t = s.txn? t := by
  induction l generalizing s with
  | nil => rfl
  | cons x l ih =>
    rw [List.map_cons, List.mem_cons, not_or] at h
    rw [failAll_cons, ih h.2, failTxn_txn?_of_ne h.1]

/-- Each ACTIVE record of the list fails, once, by the work it keeps. -/
theorem failAll_txn? {f : Failure} {l : List Txn} (hl : (l.map Txn.tag).Nodup) {t : Fin 16} (ht : t ∈ l.map Txn.tag)
    {s : State} {x : Txn} (hx : s.txn? t = some x) (hactive : x.phase = .active) (hfresh : x.failure = none) :
    ∃ n, (failAll f l s).txn? t = some (x.failed f n (s.stillWaits t)) := by
  induction l generalizing s with
  | nil => simp at ht
  | cons y l ih =>
    rw [List.map_cons, List.nodup_cons] at hl
    rw [failAll_cons]
    by_cases hty : t = y.tag
    · subst hty
      exact ⟨_, (failAll_txn?_of_notMem hl.1 _).trans (failTxn_txn? hx hactive hfresh f)⟩
    · have hwaits : (failTxn y.tag f s).stillWaits t = s.stillWaits t := by
        rw [Bool.eq_iff_iff, State.stillWaits_iff, State.stillWaits_iff, failTxn_keepsWork]
      rw [← hwaits]
      refine ih hl.2 ?_ (by rwa [failTxn_txn?_of_ne hty])
      simpa [hty] using ht

theorem State.TagsOk.filter {s : State} (h : s.TagsOk) (p : Txn → Bool) : ((s.txns.filter p).map Txn.tag).Nodup :=
  h.sublist (List.filter_sublist.map _)

/-- Each ACTIVE record on a volume that fails is moved on by the work it keeps (R90, R94). -/
theorem failVolume_txn? {s : State} (htags : s.TagsOk) {x : Txn} (hx : x ∈ s.txns) (hactive : x.phase = .active)
    (hfresh : x.failure = none) (f : Failure) :
    ∃ n, (failVolume x.volume f s).txn? x.tag = some (x.failed f n (s.stillWaits x.tag)) := by
  refine failAll_txn? (htags.filter _) ?_ (State.txn?_of_mem htags hx) hactive hfresh
  exact List.mem_map.2 ⟨x, List.mem_filter.2 ⟨hx, by simp⟩, rfl⟩

/-! ## The cipher stopped (R59) -/

/-- What a transaction waits on outlives the stop of the cipher: no job in MEDIA_WRITE is in the CE's hands. -/
theorem stopCipher_keepsWork {s : State} (hb : s.BuffersOk) (u : Fin 16) : (stopCipher s).KeepsWork u ↔ s.KeepsWork u := by
  have hfold : ∀ (l : List Job), (∀ j ∈ l, j ∈ s.ubp.jobs ∧ j.ciphering = true) → ∀ v : State,
      (∀ j ∈ v.ubp.jobs, j ∈ s.ubp.jobs) → ((l.foldl (fun acc j => endJob j acc) v).KeepsWork u ↔ v.KeepsWork u) := by
    intro l
    induction l with
    | nil => intro _ v _; rfl
    | cons j l ih =>
      intro hl v hv
      obtain ⟨hj, hciphering⟩ := hl j List.mem_cons_self
      have hjobs := endJob_jobs j v
      rw [List.foldl_cons, ih (fun k hk => hl k (List.mem_cons_of_mem _ hk)) _ fun k hk => hv k (by
        rw [hjobs] at hk
        exact (List.mem_filter.1 hk).1)]
      have hdli : (endJob j v).dli = v.dli := by simp
      have huli : (endJob j v).uli = v.uli := by simp
      unfold State.KeepsWork
      rw [hjobs, hdli, huli]
      refine or_congr ⟨fun ⟨k, hk, h⟩ => ⟨k, (List.mem_filter.1 hk).1, h⟩, fun ⟨k, hk, howner, hkept, hstate⟩ => ?_⟩ Iff.rfl
      refine ⟨k, List.mem_filter.2 ⟨hk, ?_⟩, howner, hkept, hstate⟩
      have hne : k.buf ≠ j.buf := by
        intro hbuf
        obtain rfl := hb.eq_of_buf (hv k hk) hj hbuf
        simp [Job.ciphering, hstate] at hciphering
      simpa using hne
  exact hfold _ (fun j hj => List.mem_filter.1 hj) s fun j hj => hj

theorem stopCipher_txns_fixedPart (s : State) : (stopCipher s).txns.map Txn.fixedPart = s.txns.map Txn.fixedPart :=
  stopCipher_fixedPart s

/-- A record found on a tag stands there still, but for the two fields that a buffer advances. -/
theorem txn?_of_fixedPart {s t : State} (h : t.txns.map Txn.fixedPart = s.txns.map Txn.fixedPart) {tag : Fin 16} {x : Txn}
    (hx : s.txn? tag = some x) : ∃ y, t.txn? tag = some y ∧ y.fixedPart = x.fixedPart := by
  have hfind (l : List Txn) : (l.find? (fun x => x.tag == tag)).map Txn.fixedPart =
      (l.map Txn.fixedPart).find? (fun x => x.tag == tag) := by
    rw [List.find?_map]
    rfl
  have hsame : (t.txn? tag).map Txn.fixedPart = (s.txn? tag).map Txn.fixedPart := by
    rw [State.txn?, State.txn?, hfind, hfind, h]
  rw [hx] at hsame
  exact Option.map_eq_some_iff.1 hsame

/-! ## The lock event (R94) -/

/-- The table as the lock event takes it: the cipher stopped, the key cleared, the volume failed. -/
def State.lockedTable (s : State) (c : Cause) : State :=
  failVolume .user (.volumeChanged c) ((stopCipher s).setCe { key := none })

theorem lockEvent_eq (c : Cause) (s : State) : lockEvent c s =
    if s.ac.access.unlocked then moveTo .lockedIdle (overtake (s.lockedTable c))
    else present .overlay ((s.lockedTable c).setAc { s.ac with idle := none }) := by
  have hac : (s.lockedTable c).ac = s.ac := by simp [State.lockedTable]
  unfold lockEvent
  dsimp only
  rw [show failVolume .user (.volumeChanged c) ((stopCipher s).setCe { key := none }) = s.lockedTable c from rfl, hac]

theorem lockEvent_txns (c : Cause) (s : State) : (lockEvent c s).txns = (s.lockedTable c).txns := by
  rw [lockEvent_eq]
  split
  · simp
  · simp

@[simp] theorem State.lockedTable_ac (s : State) (c : Cause) : (s.lockedTable c).ac = s.ac := by simp [State.lockedTable]
@[simp] theorem State.lockedTable_atr (s : State) (c : Cause) : (s.lockedTable c).atr = s.atr := by simp [State.lockedTable]
@[simp] theorem State.lockedTable_ce (s : State) (c : Cause) : (s.lockedTable c).ce = { key := none } := by
  simp [State.lockedTable]

@[simp] theorem State.lockedTable_attn (s : State) (c : Cause) : (s.lockedTable c).uli.attn = s.uli.attn := by
  have h : Block.attn.same ((stopCipher s).setCe { key := none }) (s.lockedTable c) :=
    failVolume_touches .user (.volumeChanged c) _ .attn (by decide)
  have h : (s.lockedTable c).uli.attn = (stopCipher s).uli.attn := h
  rw [h]
  simp

@[simp] theorem overtake_ac (s : State) : (overtake s).ac = s.ac := by
  unfold overtake
  split <;> rfl

/-- UNLOCKED is left for LOCKED.IDLE by the lock event, as by any move there (R94). -/
theorem lockEvent_unlocked (c : Cause) {s : State} (h : s.ac.access.unlocked = true) :
    (lockEvent c s).ac = (moveTo .lockedIdle s).ac ∧ (lockEvent c s).ce = { key := none } ∧
    (lockEvent c s).atr = (moveTo .lockedIdle s).atr ∧
    (lockEvent c s).uli.attn = (moveTo .lockedIdle s).uli.attn := by
  rw [lockEvent_eq, if_pos h]
  refine ⟨by simp, by simp [Access.unlocked], ?_, ?_⟩
  · simp [enter_atr]
    rfl
  · simp only [moveTo_uli, enter_uli, overtake_ac, State.lockedTable_ac]
    split <;> simp

/-- From `s` to `t` the lock event has been raised with the cause `c` (R94): UNLOCKED is left for LOCKED.IDLE, the key is
cleared, and each ACTIVE record on the user volume has failed, by the work it keeps (R23, R24). -/
def State.LockedBy (s t : State) (c : Cause) : Prop :=
  t.ac.access = .lockedIdle ∧ t.ce.key = none ∧ ∀ x ∈ s.txns, x.volume = .user → x.phase = .active →
    ∃ y, t.txn? x.tag = some y ∧ y.failure = some (.volumeChanged c) ∧ y.done = x.done ∧
      (s.BuffersOk → y.MovesOn (s.KeepsWork x.tag) .volumeChanged)

/-- Each ACTIVE record on the user volume fails with the cause of the lock event, by the work it keeps (R23, R24, R94). -/
theorem lockEvent_fails (c : Cause) {s : State} (htags : s.TagsOk) (hactive : s.ActiveOk) {x : Txn} (hx : x ∈ s.txns)
    (huser : x.volume = .user) (hphase : x.phase = .active) :
    ∃ y, (lockEvent c s).txn? x.tag = some y ∧ y.failure = some (.volumeChanged c) ∧ y.done = x.done ∧
      (s.BuffersOk → y.MovesOn (s.KeepsWork x.tag) .volumeChanged) := by
  have hparts := stopCipher_fixedPart s
  obtain ⟨w, hw, hwx⟩ := txn?_of_fixedPart hparts (State.txn?_of_mem htags hx)
  obtain ⟨htag, -, hvolume, -, -, -, hdone, hfailure, hphase', -, -⟩ := Txn.fields_of_fixedPart hwx
  have htags' : ((stopCipher s).setCe { key := none }).TagsOk := (terms_walk.stopCipher s).tags htags
  obtain ⟨n, hn⟩ := failVolume_txn? (x := w) htags' (List.mem_of_find?_eq_some hw) (hphase'.trans hphase)
    (hfailure.trans (hactive x hx hphase)) (.volumeChanged c)
  rw [htag, hvolume, huser] at hn
  have htxns : (lockEvent c s).txn? x.tag = (s.lockedTable c).txn? x.tag := by rw [State.txn?, State.txn?, lockEvent_txns]
  refine ⟨_, htxns.trans hn, rfl, hdone, fun hb => Txn.failed_movesOn _ _ ?_ w⟩
  rw [State.stillWaits_iff]
  exact stopCipher_keepsWork hb x.tag

theorem lockEvent_lockedBy (c : Cause) {s : State} (htags : s.TagsOk) (hactive : s.ActiveOk)
    (h : s.ac.access.unlocked = true) : s.LockedBy (lockEvent c s) c := by
  obtain ⟨hac, hce, -, -⟩ := lockEvent_unlocked c h
  exact ⟨by simp [hac], by simp [hce], fun x hx huser hphase => lockEvent_fails c htags hactive hx huser hphase⟩

/-- What follows the lock event leaves the records that it failed. -/
theorem State.LockedBy.after {s t u : State} {c : Cause} (h : s.LockedBy t c) (haccess : u.ac.access = t.ac.access)
    (hkey : u.ce = t.ce) (htxns : u.txns.map Txn.fixedPart = t.txns.map Txn.fixedPart) : s.LockedBy u c := by
  obtain ⟨hlocked, hcleared, hfailed⟩ := h
  refine ⟨haccess.trans hlocked, by rw [hkey]; exact hcleared, fun x hx huser hphase => ?_⟩
  obtain ⟨y, hy, hfailure, hdone, hmoves⟩ := hfailed x hx huser hphase
  obtain ⟨z, hz, hzy⟩ := txn?_of_fixedPart htxns hy
  obtain ⟨-, -, -, -, -, -, hdone', hfailure', hphase', -, houtcome'⟩ := Txn.fields_of_fixedPart hzy
  exact ⟨z, hz, hfailure'.trans hfailure, hdone'.trans hdone, fun hb => by
    simpa [Txn.MovesOn, hphase', houtcome'] using hmoves hb⟩

theorem State.LockedBy.settle {s t : State} {c : Cause} (h : s.LockedBy t c) : s.LockedBy (settle t) c :=
  h.after (by simp) (by simp) (settle_fixedPart t)

/-- What leads up to the lock event leaves the records and the work that they keep. -/
theorem State.LockedBy.before {r s t : State} {c : Cause} (h : s.LockedBy t c) (htxns : s.txns = r.txns)
    (hjobs : s.ubp = r.ubp) (hkeeps : ∀ u, s.KeepsWork u ↔ r.KeepsWork u) : r.LockedBy t c := by
  obtain ⟨hlocked, hcleared, hfailed⟩ := h
  refine ⟨hlocked, hcleared, fun x hx huser hphase => ?_⟩
  obtain ⟨y, hy, hfailure, hdone, hmoves⟩ := hfailed x (htxns ▸ hx) huser hphase
  refine ⟨y, hy, hfailure, hdone, fun hb => ?_⟩
  rw [Txn.MovesOn, ← hkeeps]
  exact hmoves (by rwa [State.BuffersOk, hjobs])

/-- An issued SYNC that the loss completes ERROR is waited on until that is taken (R73, R77). -/
theorem loseMedia_keepsWork (s : State) (u : Fin 16) : (loseMedia s).KeepsWork u ↔ s.KeepsWork u := by
  have herrors : (∃ e ∈ (loseMedia s).dli.errors, e.owner = .flush u ∧ e.issued = true) ↔
      (∃ z ∈ s.dli.slots, z.owner = .flush u) ∨ ∃ e ∈ s.dli.errors, e.owner = .flush u ∧ e.issued = true := by
    simp only [mem_loseMedia_errors]
    constructor
    · rintro ⟨e, he | ⟨z, hz, -, rfl⟩ | ⟨r, hr, rfl⟩, howner, hissued⟩
      · exact .inr ⟨e, he, howner, hissued⟩
      · exact .inl ⟨z, hz, howner⟩
      · simp at hissued
    · rintro (⟨z, hz, howner⟩ | ⟨e, he, h⟩)
      · exact ⟨_, .inr (.inl ⟨z, hz, by simp [howner], rfl⟩), howner, rfl⟩
      · exact ⟨e, .inl he, h⟩
  have hslots : (loseMedia s).dli.slots = [] := rfl
  unfold State.KeepsWork
  rw [herrors, hslots]
  simp only [List.not_mem_nil, false_and, exists_false, false_or, or_assoc]
  rfl

/-! ## The events that raise it (R92, R93, R95) -/

/-- The AC takes the report of a loss while USER or NONE is presented (R93). -/
theorem acLoss_lockedBy {s : State} (htags : s.TagsOk) (hactive : s.ActiveOk) (hunlocked : s.ac.access.unlocked = true)
    (hpresented : s.PresentationOk) : s.LockedBy (acLoss s) .mediaLost := by
  have hne : s.ac.presentation ≠ .overlay := by
    rw [hpresented.1]
    revert hunlocked
    cases s.ac.access <;> simp [Access.unlocked, Access.presentation]
  rw [acLoss, if_pos hne]
  exact lockEvent_lockedBy .mediaLost htags hactive hunlocked

theorem exec_keyTaken_of_takes {s : State} {e : KeyEntry} {rest : List KeyEntry} (h : s.TakesEntry e rest)
    (he : e.Is .key false) : exec .keyTaken s =
      .next (settle (afterTake (keyEntry false (s.setKps { s.kps with fifo := rest })))) := by
  obtain ⟨hkey, hshifted, hchord, hoverrun⟩ := he
  have hact := takeEntry_of_takes (f := fun e =>
    if e.key = .key ∧ e.flagged = false ∧ e.shifted = false then some (keyEntry false) else none) (act := keyEntry false) h
      (by simp [hkey, hshifted, hchord, hoverrun, KeyEntry.flagged])
  simp [exec, execKeyTaken, State.whenRunning, h.1, hact]

/-- KEY in PRESENTED on an empty stack is the lock key (R92, R111). -/
theorem keyEntry_lockKey {s : State} (htable : s.ecp.adminTable = false) (haccess : s.ac.access = .presented)
    (hstack : s.ecp.stack = []) : keyEntry false s = lockEvent .lockKey s := by
  simp [keyEntry, baseKey, htable, haccess, hstack]

theorem keyTaken_lockedBy {s : State} {e : KeyEntry} {rest : List KeyEntry} (h : s.TakesEntry e rest)
    (he : e.Is .key false) (htags : s.TagsOk) (hactive : s.ActiveOk) (htable : s.ecp.adminTable = false)
    (haccess : s.ac.access = .presented) (hstack : s.ecp.stack = []) :
    ∃ t, exec .keyTaken s = .next t ∧ s.LockedBy t .lockKey := by
  refine ⟨_, exec_keyTaken_of_takes h he, ?_⟩
  obtain ⟨u, hu⟩ : ∃ u, u = s.setKps { s.kps with fifo := rest } := ⟨_, rfl⟩
  have hlocked : u.LockedBy (lockEvent .lockKey u) .lockKey := by
    subst hu
    exact lockEvent_lockedBy .lockKey htags hactive (by simp [haccess, Access.unlocked])
  rw [← hu, keyEntry_lockKey (by simpa [hu] using htable) (by simpa [hu] using haccess) (by simpa [hu] using hstack)]
  have hbefore : s.LockedBy (lockEvent .lockKey u) .lockKey :=
    hlocked.before (by simp [hu]) (by simp [hu]) fun _ => by rw [hu]; exact Iff.rfl
  exact (hbefore.after (by simp) (by simp) (by simp)).settle

/-- Settles O14: each of the four events comes down to the lock event, what it does besides leaving the records and the work
that they keep. -/
theorem lockEventIsRaised : Obligations.LockEventIsRaised := by
  intro s hpower htags hactive
  refine ⟨fun e rest h he htable haccess hstack => keyTaken_lockedBy h he htags hactive htable haccess hstack,
    fun haccess hstandby hidle => ?_, fun hunlocked hpresented hmedia => ?_, fun p hunlocked hpresented hmedia hnew => ?_⟩
  · refine ⟨settle (lockEvent .idle s), by simp [exec, execIdleCounterExpiry, State.whenRunning, hpower, haccess, hstandby,
      hidle, Timer.due], ?_⟩
    exact (lockEvent_lockedBy .idle htags hactive (by simp [haccess, Access.unlocked])).settle
  · refine ⟨settle (acLoss (loseMedia s)), by simp [exec, execMediaLost, State.whenPowered, hpower, mediaLost, hmedia,
      takeEarly], ?_⟩
    have hlocked : (loseMedia s).LockedBy (acLoss (loseMedia s)) .mediaLost :=
      acLoss_lockedBy htags hactive hunlocked hpresented
    exact (hlocked.before (r := s) rfl rfl (loseMedia_keepsWork s)).settle
  · have hloss : ¬ (usablePages p.toNat = s.dli.usable ∧ (usablePages p.toNat).isSome) := by
      rintro ⟨hsame, hsome⟩
      unfold usablePages at hsame hsome
      split at hsame
      next h => simp [h] at hsome
      next h => exact hnew.elim (fun hp => h hp) (fun hne => hne hsame.symm)
    refine ⟨settle (reportMedia (acLoss (identify p (loseMedia s)))), by
      simp only [exec, execIdent, State.whenPowered, hpower, identTaken, hmedia, if_neg hloss, takeEarly]; simp, ?_⟩
    have hlocked : (identify p (loseMedia s)).LockedBy (acLoss (identify p (loseMedia s))) .mediaLost :=
      acLoss_lockedBy htags hactive hunlocked hpresented
    exact ((hlocked.before (r := s) rfl rfl (loseMedia_keepsWork s)).after (by simp) (by simp) (by simp)).settle

end Sys2Proof.Machine


/-! PROOF. The lock event withdraws the user volume (O13): where KEY, the idle expiry, SUSPEND, a loss of the media or IDENT
takes the part out of UNLOCKED (R92, R93, R94, R95, R98). -/

namespace Sys2Proof.Machine

open Sys2Proof

/-! ## KEY in UNLOCKED (R92, R111) -/

/-- The part is in UNLOCKED in `t`, the cipher key as in `s`. -/
def State.StaysUnlocked (s t : State) : Prop := t.ac.access.unlocked = true ∧ t.ce = s.ce

theorem State.StaysUnlocked.moveTo (a : Access) {s t : State} (ha : a.unlocked = true) (ht : t.ce = s.ce) :
    s.StaysUnlocked (moveTo a t) := by
  simp [State.StaysUnlocked, ha, ht]

theorem State.StaysUnlocked.of_same {s t u : State} (h : s.StaysUnlocked t) (hac : u.ac.access = t.ac.access)
    (hce : u.ce = t.ce) : s.StaysUnlocked u := ⟨by rw [hac]; exact h.1, hce.trans h.2⟩

theorem State.StaysUnlocked.showVerdict (v : Verdict) {s t : State} (h : s.StaysUnlocked t) :
    s.StaysUnlocked (showVerdict v t) := h.of_same (by simp) (by simp)

theorem cancelWith_staysUnlocked (v : Verdict) {s : State} (h : s.ac.access.unlocked = true) :
    s.StaysUnlocked (cancelWith v s) :=
  (State.StaysUnlocked.moveTo _ (by rwa [Access.restingPlace_unlocked]) rfl).showVerdict v

theorem reportEnd_staysUnlocked (v : Verdict) {s : State} (h : s.ac.access = .change) : s.StaysUnlocked (reportEnd v s) := by
  unfold reportEnd
  split
  · simp [State.StaysUnlocked, h, Access.unlocked]
  · rw [h]
    exact (State.StaysUnlocked.moveTo (s := s) .presented rfl (by simp)).showVerdict v

theorem handOver_enrol_staysUnlocked (p : EnrolFor) (d : List Digit) {s : State} (h : s.ac.access = .change) :
    s.StaysUnlocked (handOver (.enrol p d) s) := by
  have hstays {t : State} (hac : t.ac = s.ac) (hce : t.ce = s.ce) : s.StaysUnlocked t :=
    ⟨by simp [hac, h, Access.unlocked], hce⟩
  unfold handOver takeHandover
  dsimp only
  split
  · split
    · exact hstays (by simp) (by simp)
    · obtain ⟨u, hu⟩ : ∃ u, u = s.setEcp { s.ecp with
          ready := false, stack := [], overlong := false, copy := none, command := none, timer := none } := ⟨_, rfl⟩
      rw [← hu]
      have hstay : u.StaysUnlocked (reportEnd .refused u) := reportEnd_staysUnlocked .refused (by simp [hu, h])
      exact ⟨hstay.1, hstay.2.trans (by simp [hu])⟩
  · exact hstays (by simp) (by simp)

theorem pinEntry_staysUnlocked (p : EnrolFor) {s : State} (h : s.ac.access = .change) : s.StaysUnlocked (pinEntry p s) := by
  have hunlocked : s.ac.access.unlocked = true := by simp [h, Access.unlocked]
  unfold pinEntry firstEntry
  split
  · split
    · exact cancelWith_staysUnlocked _ hunlocked
    · simp [h, State.StaysUnlocked, Access.unlocked]
  · split
    · exact handOver_enrol_staysUnlocked p _ h
    · exact cancelWith_staysUnlocked _ hunlocked

/-- A request for a change leaves the part in UNLOCKED (R92). -/
theorem changeRequest_staysUnlocked {s : State} (h : s.ac.access.unlocked = true) : s.StaysUnlocked (changeRequest s) := by
  have hclear : s.StaysUnlocked (clearComposition s) := ⟨by simpa using h, by simp⟩
  unfold changeRequest
  split
  · split
    · exact hclear.showVerdict _
    · exact .moveTo .change rfl rfl
  · exact hclear.showVerdict _

/-- In UNLOCKED KEY raises the lock event or leaves the part there; shifted KEY leaves it there. -/
theorem keyEntry_unlocked (shifted : Bool) {s : State} (htable : s.ecp.adminTable = false)
    (h : s.ac.access.unlocked = true) :
    s.StaysUnlocked (keyEntry shifted s) ∨ (shifted = false ∧ keyEntry shifted s = lockEvent .lockKey s) := by
  rw [keyEntry, htable, if_neg (by simp), baseKey]
  cases haccess : s.ac.access <;> simp [haccess, Access.unlocked] at h
  case settling => exact .inl ⟨by simp [haccess, Access.unlocked], rfl⟩
  case change => exact .inl (pinEntry_staysUnlocked _ haccess)
  case presented =>
    have hunlocked : s.ac.access.unlocked = true := by simp [haccess, Access.unlocked]
    dsimp only
    split
    · exact .inl (cancelWith_staysUnlocked _ hunlocked)
    · cases shifted
      · exact .inr ⟨rfl, rfl⟩
      · exact .inl (changeRequest_staysUnlocked hunlocked)

/-! ## The part with the user volume withdrawn (R94) -/

/-- The lock event has been raised: the part is in LOCKED.IDLE with what R94 clears cleared, OVERLAY presented, and no
ACTIVE record on the user volume. -/
structure State.Withdrawn (t : State) : Prop where
  access : t.ac.access = .lockedIdle
  key : t.ce.key = none
  presentation : t.ac.presentation = .overlay
  atr : t.atr = { volume := .overlay, highest := some 2047 }
  sessionSlot : t.ac.sessionSlot = none
  idle : t.ac.idle = none
  settle : t.ac.settle = none
  attn : t.uli.attn.presentation = true
  records : ∀ x ∈ t.txns, x.volume = .user → x.phase ≠ .active

theorem State.TableOk.adminTable_of_unlocked {s : State} (h : s.TableOk) (hunlocked : s.ac.access.unlocked = true) :
    s.ecp.adminTable = false := by
  by_contra hne
  rw [h.1 (by simpa using hne)] at hunlocked
  simp [Access.unlocked] at hunlocked

/-- Off OVERLAY the presentation changes at the move to LOCKED.IDLE (R80). -/
theorem State.PresentationOk.ne_overlay {s : State} (h : s.PresentationOk) (hunlocked : s.ac.access.unlocked = true) :
    s.ac.presentation ≠ .overlay := by
  rw [h.1]
  revert hunlocked
  cases s.ac.access <;> simp [Access.unlocked, Access.presentation]

theorem failTxn_tags (t : Fin 16) (f : Failure) (s : State) : (failTxn t f s).txns.map Txn.tag = s.txns.map Txn.tag := by
  rcases failTxn_cases t f s with ⟨x, hx, hactive, hfresh⟩ | hsame
  · rw [failTxn_table hx hactive hfresh, updTxn_txns, List.map_map]
    refine List.map_congr_left fun y _ => ?_
    simp only [Function.comp_apply]
    split <;> rfl
  · rw [hsame]

theorem failAll_tags (f : Failure) (l : List Txn) (s : State) : (failAll f l s).txns.map Txn.tag = s.txns.map Txn.tag :=
  foldl_keeps (fun u : State => u.txns.map Txn.tag) (fun (u : State) (x : Txn) => failTxn x.tag f u)
    (fun u x => failTxn_tags x.tag f u) l s

theorem lockEvent_tags (c : Cause) (s : State) : (lockEvent c s).txns.map Txn.tag = s.txns.map Txn.tag := by
  have hstopped : (stopCipher s).txns.map Txn.tag = s.txns.map Txn.tag := by
    have h (l : List Txn) : l.map Txn.tag = (l.map Txn.fixedPart).map Txn.tag := by
      rw [List.map_map]
      rfl
    rw [h, stopCipher_fixedPart, ← h]
  rw [lockEvent_txns, State.lockedTable, failVolume_eq, failAll_tags]
  exact hstopped

/-- No record on the user volume is ACTIVE after the lock event (R94). -/
theorem lockEvent_records (c : Cause) {s : State} (htags : s.TagsOk) (hactive : s.ActiveOk)
    (h : s.ac.access.unlocked = true) : ∀ y ∈ (lockEvent c s).txns, y.volume = .user → y.phase ≠ .active := by
  intro y hy huser hphase
  have hterms := terms_walk.lockEvent c s
  obtain ⟨x, hx, hxy⟩ : ∃ x ∈ s.txns, x.tag = y.tag := by
    have hmem : y.tag ∈ s.txns.map Txn.tag := lockEvent_tags c s ▸ List.mem_map_of_mem hy
    simpa using hmem
  obtain ⟨z, hz, hkeeps⟩ := hterms.kept htags x hx
  have hfound {w : Txn} (hw : w ∈ (lockEvent c s).txns) := State.txn?_of_mem (hterms.tags htags) hw
  obtain rfl : z = y := by
    have h := (hfound hz).symm.trans ((congrArg _ (hkeeps.1.trans hxy)).trans (hfound hy))
    simpa using h
  obtain ⟨-, -, hfailed⟩ := lockEvent_lockedBy c htags hactive h
  obtain ⟨w, hw, hfailure, -⟩ := hfailed x hx (hkeeps.2.2.1.symm.trans huser) (hkeeps.active hphase)
  obtain rfl : w = z := by
    rw [hxy, hfound hz] at hw
    exact (Option.some.inj hw).symm
  rw [hterms.active htags hactive w hz hphase] at hfailure
  cases hfailure

theorem lockEvent_withdrawn (c : Cause) {s : State} (htags : s.TagsOk) (hactive : s.ActiveOk) (hpresented : s.PresentationOk)
    (h : s.ac.access.unlocked = true) : (lockEvent c s).Withdrawn := by
  obtain ⟨hac, hce, hatr, hattn⟩ := lockEvent_unlocked c h
  have hne := hpresented.ne_overlay h
  refine ⟨by simp [hac], by simp [hce], by simp [hac, Access.presentation], ?_, by simp [hac, Access.unlocked],
    by simp [hac, Access.unlocked], by simp [hac], ?_, lockEvent_records c htags hactive h⟩
  · rw [hatr, moveTo_atr, enter_atr, if_neg (by simpa [Access.presentation] using hne)]
    rfl
  · rw [hattn, moveTo_uli, enter_uli, if_neg (by simpa [Access.presentation] using hne)]

theorem State.Withdrawn.of_same {s t : State} (h : s.Withdrawn) (hac : t.ac.access = s.ac.access)
    (hpres : t.ac.presentation = s.ac.presentation) (hslot : t.ac.sessionSlot = s.ac.sessionSlot)
    (hidle : t.ac.idle = s.ac.idle) (hsettle : t.ac.settle = s.ac.settle) (hatr : t.atr = s.atr) (hce : t.ce = s.ce)
    (hattn : t.uli.attn.presentation = s.uli.attn.presentation)
    (hrecords : ∀ y ∈ t.txns, y.volume = .user → y.phase = .active → ∃ x ∈ s.txns, x.volume = .user ∧ x.phase = .active) :
    t.Withdrawn where
  access := hac.trans h.access
  key := by rw [hce]; exact h.key
  presentation := hpres.trans h.presentation
  atr := hatr.trans h.atr
  sessionSlot := hslot.trans h.sessionSlot
  idle := hidle.trans h.idle
  settle := hsettle.trans h.settle
  attn := hattn.trans h.attn
  records y hy huser hphase := by
    obtain ⟨x, hx, hvolume, hactive⟩ := hrecords y hy huser hphase
    exact h.records x hx hvolume hactive

theorem State.Withdrawn.of_fixedPart {s t : State} (h : s.Withdrawn) (hac : t.ac = s.ac) (hatr : t.atr = s.atr)
    (hce : t.ce = s.ce) (hattn : t.uli.attn.presentation = s.uli.attn.presentation)
    (hrecords : t.txns.map Txn.fixedPart = s.txns.map Txn.fixedPart) : t.Withdrawn := by
  refine h.of_same (by rw [hac]) (by rw [hac]) (by rw [hac]) (by rw [hac]) (by rw [hac]) hatr hce hattn fun y hy huser hphase => ?_
  obtain ⟨x, hx, hxy⟩ := mem_of_fixedPart hrecords.symm hy
  obtain ⟨-, -, hvolume, -, -, -, -, -, hphase', -, -⟩ := Txn.fields_of_fixedPart hxy
  exact ⟨x, hx, hvolume.trans huser, hphase'.trans hphase⟩

theorem State.Withdrawn.settled {s : State} (h : s.Withdrawn) : (Machine.settle s).Withdrawn :=
  h.of_fixedPart (by simp) (by simp) (by simp) (by simp) (settle_fixedPart s)

/-! ## SUSPEND (R98) -/

/-- The steps of SUSPEND after the lock by policy (R98): STANDBY, the keypad stopped, the composition given up, the
indicators dark. -/
def enterStandby (s : State) : State :=
  darken (suspendComposer (stopKeypad (s.setAc { s.ac with standby := true, changed := false })))

theorem takeSuspend_awake {s : State} (h : s.ac.standby = false) :
    takeSuspend s = enterStandby (suspendLock (emptyTable s)) := by
  simp [takeSuspend, enterStandby, h]

theorem takeSuspend_standby {s : State} (h : s.ac.standby = true) : takeSuspend s = emptyTable s := by
  simp [takeSuspend, h]

theorem lockEvent_noRecords (c : Cause) {s : State} (h : s.txns = []) : (lockEvent c s).txns = [] := by
  have htags := lockEvent_tags c s
  simpa [h] using htags

theorem suspendLock_noRecords {s : State} (h : s.txns = []) : (suspendLock s).txns = [] := by
  unfold suspendLock
  split
  · exact lockEvent_noRecords _ h
  · exact h

theorem takeSuspend_noRecords (s : State) : (takeSuspend s).txns = [] := by
  cases h : s.ac.standby
  · rw [takeSuspend_awake h]
    simp [enterStandby, suspendLock_noRecords (s := emptyTable s) rfl]
  · rw [takeSuspend_standby h]
    rfl

theorem enterStandby_withdrawn {s : State} (h : s.Withdrawn) : (enterStandby s).Withdrawn := by
  have hidle : s.composing = false := by simp [State.composing, h.access]
  have hcomposer : enterStandby s =
      darken (clearComposition (stopKeypad (s.setAc { s.ac with standby := true, changed := false }))) := by
    have hnot : (stopKeypad (s.setAc { s.ac with standby := true, changed := false })).composing = false := hidle
    rw [enterStandby, suspendComposer, if_neg (by simp [hnot])]
  rw [hcomposer]
  exact h.of_same (by simp) (by simp) (by simp) (by simp) (by simp) (by simp) (by simp) (by simp)
    fun y hy huser hphase => ⟨y, by simpa using hy, huser, hphase⟩

/-- The part is in UNLOCKED with its volume presented, or the user volume has been withdrawn. -/
def State.Locking (s : State) : Prop := (s.ac.access.unlocked = true ∧ s.PresentationOk) ∨ s.Withdrawn

theorem enterStandby_unlocked {s : State} (h : s.ac.access.unlocked = true) :
    (enterStandby s).ac.access.unlocked = true := by
  unfold enterStandby suspendComposer
  split
  · simp [cancel, Access.restingPlace_unlocked, h]
  · simpa using h

theorem takeSuspend_locking {s : State} (h : s.Locking) : (takeSuspend s).Locking := by
  have hemptied : s.Withdrawn → (emptyTable s).Withdrawn := fun h =>
    h.of_same rfl rfl rfl rfl rfl rfl rfl rfl fun y hy => absurd hy (by simp [emptyTable])
  cases hstandby : s.ac.standby with
  | true =>
    rw [takeSuspend_standby hstandby]
    exact h.imp id hemptied
  | false =>
    rcases h with ⟨hunlocked, hpresented⟩ | hwithdrawn
    · by_cases hlock : (emptyTable s).ks.dev.fields.lockOnStandby ∧ (emptyTable s).ac.access.unlocked
      · rw [takeSuspend_awake hstandby, suspendLock, if_pos hlock]
        refine .inr (enterStandby_withdrawn (lockEvent_withdrawn .standby ?_ ?_ hpresented hunlocked)) <;>
          simp [State.TagsOk, State.ActiveOk, emptyTable]
      · refine .inl ⟨?_, (control_walk.takeSuspend Control.emptyTable s).presentation hpresented⟩
        rw [takeSuspend_awake hstandby, suspendLock, if_neg hlock]
        exact enterStandby_unlocked hunlocked
    · have hnot : ¬ ((emptyTable s).ks.dev.fields.lockOnStandby ∧ (emptyTable s).ac.access.unlocked) := by
        simp [hwithdrawn.access, Access.unlocked]
      rw [takeSuspend_awake hstandby, suspendLock, if_neg hnot]
      exact .inr (enterStandby_withdrawn (hemptied hwithdrawn))

/-! ## What waits on the link (R19) -/

theorem failTxn_active {t : Fin 16} {f : Failure} {s : State} {y : Txn} (hy : y ∈ (failTxn t f s).txns)
    (hphase : y.phase = .active) : y ∈ s.txns := by
  rcases failTxn_cases t f s with ⟨x, hx, hactive, hfresh⟩ | hsame
  · rw [failTxn_table hx hactive hfresh, updTxn_txns, List.mem_map] at hy
    obtain ⟨z, hz, hzy⟩ := hy
    split at hzy
    · rw [← hzy] at hphase
      revert hphase
      cases s.stillWaits t <;> simp [Txn.failed]
    · exact hzy ▸ hz
  · exact hsame ▸ hy

theorem reloadIdle_of_locked {s : State} (h : s.ac.access.unlocked = false) : reloadIdle s = s := by
  simp [reloadIdle, h]

/-- A request admitted while OVERLAY is presented is on the overlay (R20). -/
theorem admitted_overlay {s : State} (h : s.atr.volume = .overlay) (k : TxKind) (t : Fin 16) (r : Request) :
    (s.admitted k t r).volume = .overlay := by
  have hclamped (x : Txn) (h : Option Nat) : (x.clamped h).volume = x.volume := by
    unfold Txn.clamped
    dsimp only
    split <;> rfl
  unfold State.admitted
  cases k <;> simp [h, hclamped, Txn.atAdmission]

theorem takeRequest_active {r : Request} {s : State} (hatr : s.atr.volume = .overlay) (hlocked : s.ac.access.unlocked = false)
    {y : Txn} (hy : y ∈ (takeRequest r s).txns) (huser : y.volume = .user) (hphase : y.phase = .active) : y ∈ s.txns := by
  have hsame : (if r.isTransfer then reloadIdle s else s) = s := by simp [reloadIdle_of_locked hlocked]
  unfold takeRequest at hy
  rw [hsame] at hy
  dsimp only at hy
  split at hy
  · simpa [refuse] using hy
  · split at hy
    · exact failTxn_active hy hphase
    · split at hy
      · simpa [refuse] using hy
      · rw [admitRequest_txns, List.mem_append, List.mem_singleton] at hy
        rcases hy with hy | rfl
        · exact hy
        · simp [admitted_overlay hatr] at huser

theorem takeRequest_locking (r : Request) {s : State} (h : s.Locking) : (takeRequest r s).Locking := by
  have htouches := takeRequest_touches r s
  obtain ⟨haccess, hpresentation, hslot, -, -⟩ := htouches .access (by decide)
  have hatr : (takeRequest r s).atr = s.atr := htouches .atr (by decide)
  rcases h with ⟨hunlocked, hpresented⟩ | h
  · refine .inl ⟨haccess ▸ hunlocked, ?_⟩
    rwa [State.PresentationOk, haccess, hpresentation, hatr]
  · have hlocked : s.ac.access.unlocked = false := by simp [h.access, Access.unlocked]
    have hsame : (if r.isTransfer then reloadIdle s else s) = s := by simp [reloadIdle_of_locked hlocked]
    have hidle : (takeRequest r s).ac.idle = s.ac.idle := by
      unfold takeRequest
      rw [hsame]
      dsimp only
      (repeat' split) <;> simp [refuse]
    obtain ⟨hsettle, -, -⟩ := htouches .acTimers (by decide)
    have hattn : (takeRequest r s).uli.attn = s.uli.attn := htouches .attn (by decide)
    exact .inr (h.of_same haccess hpresentation hslot hidle hsettle hatr (htouches .key (by decide)) (by rw [hattn])
      fun y hy huser hphase =>
        ⟨y, takeRequest_active (by simp [h.atr]) hlocked hy huser hphase, huser, hphase⟩)

theorem takeLinkReset_locking {s : State} (h : s.Locking) : (takeLinkReset s).Locking := by
  unfold takeLinkReset
  rcases h with ⟨hunlocked, hpresented⟩ | h
  · refine .inl ?_
    unfold reloadIdle
    split <;> exact ⟨hunlocked, hpresented⟩
  · have hlocked : (emptyTable s).ac.access.unlocked = false := by simp [h.access, Access.unlocked]
    rw [reloadIdle_of_locked hlocked]
    exact .inr (h.of_same rfl rfl rfl rfl rfl rfl rfl rfl fun y hy => absurd hy (by simp [emptyTable]))

theorem takeResume_ac (s : State) : (takeResume s).ac.access = s.ac.access ∧
    (takeResume s).ac.presentation = s.ac.presentation ∧ (takeResume s).ac.sessionSlot = s.ac.sessionSlot ∧
    (takeResume s).ac.idle = s.ac.idle ∧ (takeResume s).ac.settle = s.ac.settle ∧
    (takeResume s).uli.attn.presentation = s.uli.attn.presentation := by
  unfold takeResume resumeVerdict resumeReason
  (repeat' split) <;> simp [startKeypad, attention, Attn.join]

theorem takeResume_locking {s : State} (h : s.Locking) : (takeResume s).Locking := by
  obtain ⟨haccess, hpresentation, hslot, hidle, hsettle, hattn⟩ := takeResume_ac s
  rcases h with ⟨hunlocked, hpresented⟩ | h
  · refine .inl ⟨haccess ▸ hunlocked, ?_⟩
    rw [State.PresentationOk, haccess, hpresentation]
    simpa using hpresented
  · exact .inr (h.of_same haccess hpresentation hslot hidle hsettle (by simp) (by simp) hattn
      fun y hy huser hphase => ⟨y, by simpa using hy, huser, hphase⟩)

theorem takeWriteData_locking (tag : Byte) (sector : List Byte) {s : State} (h : s.Locking) :
    (takeWriteData tag sector s).Locking := by
  have hattn : (takeWriteData tag sector s).uli.attn = s.uli.attn := takeWriteData_touches tag sector s .attn (by decide)
  refine h.imp (fun ⟨hunlocked, hpresented⟩ => ⟨by simpa using hunlocked, by simpa [State.PresentationOk] using hpresented⟩)
    fun h => h.of_fixedPart (by simp) (by simp) (by simp) (by rw [hattn]) (by simp)

theorem LinkItem.take_locking (i : LinkItem) {s : State} (h : s.Locking) : (i.take s).Locking := by
  cases i with
  | request r => exact takeRequest_locking r h
  | writeData tag sector => exact takeWriteData_locking tag sector h
  | linkReset => exact takeLinkReset_locking h
  | suspend => exact takeSuspend_locking h
  | resume => exact takeResume_locking h

theorem State.Locking.settle {s : State} (h : s.Locking) : (Machine.settle s).Locking := by
  refine h.imp (fun ⟨hunlocked, hpresented⟩ => ⟨by simpa using hunlocked, ?_⟩) fun h => h.settled
  simpa [State.PresentationOk] using hpresented

theorem drain_locking (n : Nat) {s : State} (h : s.Locking) : (drain n s).Locking := by
  induction n generalizing s with
  | zero => exact h
  | succ n ih =>
    unfold drain
    split
    · exact h
    next i _ =>
      have hleft : (s.setUli { s.uli with link := s.uli.link.erase i }).Locking :=
        h.imp id fun h => h.of_fixedPart rfl rfl rfl rfl rfl
      exact ih (LinkItem.take_locking i hleft).settle

/-! ## The five commands -/

theorem exec_suspend {s : State} (h : s.power = .running) : exec .suspend s = .next (settleLink (takeSuspend s)) := by
  simp [exec, execSuspend, signalArrives, h, LinkItem.take]

/-- What KEY in UNLOCKED leaves: the part there, the key and the records as they were, or the lock event with what follows. -/
theorem takeEntry_key_unlocked {shifted : Bool} {f : KeyEntry → Option (State → State)} {s t : State}
    (ht : takeEntry f s = t) (hf : ∀ e act, f e = some act → act = keyEntry shifted) (htable : s.TableOk)
    (h : s.ac.access.unlocked = true) :
    (t.ac.access.unlocked = true ∧ t.ce = s.ce) ∨
      (shifted = false ∧ ∃ rest, t = settle (afterTake (lockEvent .lockKey (s.setKps { s.kps with fifo := rest })))) := by
  subst ht
  unfold takeEntry
  split
  · exact .inl ⟨h, rfl⟩
  next e rest _ =>
    split
    · exact .inl ⟨h, rfl⟩
    · split
      · exact .inl ⟨h, rfl⟩
      next act hact =>
        obtain rfl := hf e act hact
        have hadmin : (s.setKps { s.kps with fifo := rest }).ecp.adminTable = false := htable.adminTable_of_unlocked h
        rcases keyEntry_unlocked shifted hadmin (s := s.setKps { s.kps with fifo := rest }) h with hstays | ⟨hplain, hlock⟩
        · exact .inl ⟨by simpa using hstays.1, by simpa using hstays.2⟩
        · exact .inr ⟨hplain, rest, by rw [hlock]⟩

theorem afterTake_withdrawn {s : State} (h : s.Withdrawn) : (afterTake s).Withdrawn :=
  h.of_same (by simp) (by simp) (by simp) (by simp) (by simp) (by simp) (by simp) (by simp)
    fun y hy huser hphase => ⟨y, by simpa using hy, huser, hphase⟩

/-- At a loss the AC raises the lock event after the ERROR completions that are taken before its report (R93). -/
theorem acLoss_withdrawn (early : List Owner) {s : State} (htags : s.TagsOk) (hactive : s.ActiveOk)
    (hpresented : s.PresentationOk) (h : s.ac.access.unlocked = true) : (acLoss (takeEarly early s)).Withdrawn := by
  have hterms := terms_walk.takeEarly early s
  have hac : (takeEarly early s).ac = s.ac := by simp
  have hpresented' : (takeEarly early s).PresentationOk := by simpa [State.PresentationOk] using hpresented
  have hunlocked : (takeEarly early s).ac.access.unlocked = true := by rwa [hac]
  rw [acLoss, if_pos (hpresented'.ne_overlay hunlocked)]
  exact lockEvent_withdrawn .mediaLost (hterms.tags htags) (hterms.active htags hactive) hpresented' hunlocked

theorem State.Withdrawn.reportMedia {s : State} (h : s.Withdrawn) : (reportMedia s).Withdrawn :=
  h.of_fixedPart (by simp) (by simp) (by simp) (by simp) (by simp)

theorem mediaLost_withdrawn {early : List Owner} {s : State} (htags : s.TagsOk) (hactive : s.ActiveOk)
    (hpresented : s.PresentationOk) (h : s.ac.access.unlocked = true) :
    mediaLost early s = s ∨ (mediaLost early s).Withdrawn := by
  unfold mediaLost
  split
  · exact .inl rfl
  · exact .inr (acLoss_withdrawn early (s := loseMedia s) htags hactive hpresented h).settled

theorem identTaken_withdrawn {p : BitVec 32} {early : List Owner} {s : State} (htags : s.TagsOk) (hactive : s.ActiveOk)
    (hpresented : s.PresentationOk) (h : s.ac.access.unlocked = true) :
    (identTaken p early s).ac.access = s.ac.access ∨ (identTaken p early s).Withdrawn := by
  unfold identTaken
  split
  · split
    · exact .inl (by simp)
    · exact .inr (acLoss_withdrawn early (s := identify p (loseMedia s)) htags hactive hpresented h).reportMedia.settled
  · exact .inl (by simp)

theorem eq_of_kind {p : Prop} [Decidable p] {g act : State → State} (h : (if p then some g else none) = some act) : act = g := by
  obtain ⟨-, h⟩ := Option.ite_none_right_eq_some.1 h
  exact (Option.some.inj h).symm

/-- Each of the five commands that can raise the lock event leaves the part in UNLOCKED or its user volume withdrawn. -/
theorem exec_locking {c : Instr} {s t : State} (hpower : s.power = .running) (hpresented : s.PresentationOk)
    (htable : s.TableOk) (htags : s.TagsOk) (hactive : s.ActiveOk)
    (hc : c = .keyTaken ∨ c = .shiftedKeyTaken ∨ c = .idleCounterExpiry ∨ c = .suspend ∨ (∃ l, c = .mediaLost l) ∨
      ∃ p l, c = .ident p l)
    (hexec : exec c s = .next t) (h : s.ac.access.unlocked = true) : t.ac.access.unlocked = true ∨ t.Withdrawn := by
  have hlocked (x : Cause) {u : State} (hu : u = s ∨ ∃ rest, u = s.setKps { s.kps with fifo := rest }) :
      (lockEvent x u).Withdrawn := by
    rcases hu with rfl | ⟨rest, rfl⟩ <;> exact lockEvent_withdrawn x htags hactive hpresented h
  rcases hc with rfl | rfl | rfl | rfl | ⟨early, rfl⟩ | ⟨p, early, rfl⟩
  · simp only [exec, execKeyTaken, State.whenRunning, hpower, if_pos, Host.Outcome.next.injEq] at hexec
    rcases takeEntry_key_unlocked (shifted := false) hexec (fun _ _ he => eq_of_kind he) htable h with ⟨hstays, -⟩ | ⟨-, rest, hsame⟩
    · exact .inl hstays
    · rw [hsame]
      exact .inr (afterTake_withdrawn (hlocked .lockKey (.inr ⟨rest, rfl⟩))).settled
  · simp only [exec, execShiftedKeyTaken, State.whenRunning, hpower, if_pos, Host.Outcome.next.injEq] at hexec
    rcases takeEntry_key_unlocked (shifted := true) hexec (fun _ _ he => eq_of_kind he) htable h with ⟨hstays, -⟩ | ⟨hplain, -⟩
    · exact .inl hstays
    · cases hplain
  · simp only [exec, execIdleCounterExpiry, State.whenRunning, hpower, if_pos, Host.Outcome.next.injEq] at hexec
    subst hexec
    split
    · exact .inr (hlocked .idle (.inl rfl)).settled
    · exact .inl h
  · rw [exec_suspend hpower, Host.Outcome.next.injEq] at hexec
    subst hexec
    exact (drain_locking _ (takeSuspend_locking (.inl ⟨h, hpresented⟩)).settle).imp And.left id
  · simp only [exec, execMediaLost, State.whenPowered, hpower, reduceCtorEq, if_false, Host.Outcome.next.injEq] at hexec
    subst hexec
    exact (mediaLost_withdrawn (early := early) htags hactive hpresented h).imp (fun hsame => by rwa [hsame]) id
  · simp only [exec, execIdent, State.whenPowered, hpower, reduceCtorEq, if_false, Host.Outcome.next.injEq] at hexec
    subst hexec
    exact (identTaken_withdrawn (p := p) (early := early) htags hactive hpresented h).imp (fun hsame => by rwa [hsame]) id

/-- Shifted KEY in UNLOCKED leaves the part there, the key and the records as they were (R92). -/
theorem exec_shiftedKeyTaken_unlocked {s t : State} (htable : s.TableOk) (hexec : exec .shiftedKeyTaken s = .next t)
    (h : s.ac.access.unlocked = true) :
    t.ac.access.unlocked = true ∧ t.ce = s.ce ∧ t.txns.map Txn.fixedPart = s.txns.map Txn.fixedPart := by
  simp only [exec, execShiftedKeyTaken, State.whenRunning] at hexec
  split at hexec
  · rw [Host.Outcome.next.injEq] at hexec
    rcases takeEntry_key_unlocked (shifted := true) hexec (fun _ _ he => eq_of_kind he) htable h with ⟨hstays, hkey⟩ | ⟨hplain, -⟩
    · refine ⟨hstays, hkey, ?_⟩
      subst hexec
      unfold takeEntry
      split
      · rfl
      · split
        · rfl
        · split
          · rfl
          next act hact =>
            obtain ⟨-, hact⟩ := Option.ite_none_right_eq_some.1 hact
            cases hact
            rw [settle_fixedPart, (afterTake_frame _).2.2.1, keyEntry_shifted_txns]
            rfl
    · cases hplain
  · cases hexec
    exact ⟨h, rfl, rfl⟩

/-- Settles O13: each of the five commands leaves the part in UNLOCKED or raises the lock event; the link items that SUSPEND
lets the ULI take leave the user volume withdrawn. -/
theorem lockEventWithdrawsUserVolume : Obligations.LockEventWithdrawsUserVolume := by
  refine ⟨fun c s t hpower hpresented htable htags hactive hc hexec hunlocked hleft => ?_,
    fun s t htable hexec hunlocked => exec_shiftedKeyTaken_unlocked htable hexec hunlocked⟩
  rcases exec_locking hpower hpresented htable htags hactive hc hexec hunlocked with hstays | hw
  · rw [hleft] at hstays
    cases hstays
  · exact ⟨hw.access, hw.key, hw.presentation, hw.atr, hw.sessionSlot, hw.idle, hw.settle, hw.attn, hw.records⟩

end Sys2Proof.Machine


/-! PROOF. The link signals (R39, R40, R63, R78, R98, R100): LINK_RESET, SUSPEND and RESUME with nothing waiting on the link. -/

namespace Sys2Proof.Machine

open Sys2Proof

/-! ## The closure over an emptied table (R39, R63) -/

/-- The job is the one that was, but for a page operation that may have been issued since. -/
def Job.StaysAs (j k : Job) : Prop := { k with pageOp := j.pageOp } = j

theorem Job.StaysAs.refl (j : Job) : j.StaysAs j := rfl

theorem Job.StaysAs.fields {j k : Job} (h : j.StaysAs k) : k.buf = j.buf ∧ k.owner = j.owner ∧ k.unit = j.unit ∧
    k.first = j.first ∧ k.count = j.count ∧ k.kind = j.kind ∧ k.state = j.state ∧ k.sent = j.sent ∧
    k.abandoned = j.abandoned := by
  unfold Job.StaysAs at h
  rw [← h]
  exact ⟨rfl, rfl, rfl, rfl, rfl, rfl, rfl, rfl, rfl⟩

theorem Job.StaysAs.trans {i j k : Job} (h1 : i.StaysAs j) (h2 : j.StaysAs k) : i.StaysAs k := by
  unfold Job.StaysAs at h1 h2 ⊢
  rw [← h1, ← h2]

theorem issue_jobs (d : Fin 4) (r : DReq) (s : State) :
    ∃ f : Job → Job, (issue d r s).ubp.jobs = s.ubp.jobs.map f ∧ ∀ j : Job, j.StaysAs (f j) := by
  unfold issue tellIssued
  split
  next b _ =>
    refine ⟨fun j => if j.buf = b then { j with pageOp := .issued d } else j, rfl, fun j => ?_⟩
    dsimp only
    split <;> rfl
  · exact ⟨id, by simp [sendDown], fun j => rfl⟩
  · exact ⟨id, by simp [sendDown], fun j => rfl⟩

/-- With no record in the table and every job abandoned nothing follows for the jobs, but that operations are issued. -/
def KeepsEmptied (s t : State) : Prop :=
  s.txns = [] → (∀ j ∈ s.ubp.jobs, j.abandoned = true) →
    t.txns = [] ∧ List.Forall₂ Job.StaysAs s.ubp.jobs t.ubp.jobs

theorem KeepsEmptied.of_same {s t : State} (htxns : t.txns = s.txns) (hjobs : t.ubp.jobs = s.ubp.jobs) : KeepsEmptied s t :=
  fun h _ => ⟨htxns.trans h, hjobs ▸ List.forall₂_same.2 fun j _ => .refl j⟩

theorem KeepsEmptied.trans {s t u : State} (h1 : KeepsEmptied s t) (h2 : KeepsEmptied t u) : KeepsEmptied s u := by
  intro htxns hjobs
  obtain ⟨htxns', hstays⟩ := h1 htxns hjobs
  have hjobs' : ∀ k ∈ t.ubp.jobs, k.abandoned = true := fun k hk => by
    obtain ⟨j, hj, hjk⟩ := exists_of_forall₂ (R := fun k j => Job.StaysAs j k) hstays.flip hk
    rw [hjk.fields.2.2.2.2.2.2.2.2]
    exact hjobs j hj
  obtain ⟨htxns'', hstays'⟩ := h2 htxns' hjobs'
  exact ⟨htxns'', forall₂_comp hstays hstays' fun _ _ _ _ => Job.StaysAs.trans⟩

theorem KeepsEmptied.dataWaits (s : State) : KeepsEmptied s (dataWaits s) := by
  intro htxns hjobs
  refine ⟨htxns, ?_⟩
  rw [dataWaits_jobs, List.forall₂_map_right_iff, List.forall₂_same]
  intro j hj
  rw [if_neg (by simp [mayWait, hjobs j hj])]
  exact .refl j

theorem State.nextOutput_of_emptied {s : State} (h : s.txns = []) : s.nextOutput = .refusal ∨ s.nextOutput = .free := by
  unfold State.nextOutput
  split
  · exact .inl rfl
  · exact .inr (by simp [h])

theorem KeepsEmptied.grant (s : State) : KeepsEmptied s (grant s) := by
  intro htxns
  have hsame : (Machine.grant s).ubp.jobs = s.ubp.jobs := by
    unfold Machine.grant
    split
    · rfl
    · rcases State.nextOutput_of_emptied htxns with h | h <;> simp [h, startRun]
  exact KeepsEmptied.of_same (by simp) hsame htxns

theorem KeepsEmptied.cipherTake (s : State) : KeepsEmptied s (cipherTake s) := by
  intro htxns
  have hsame : Machine.cipherTake s = s := by
    unfold Machine.cipherTake
    split
    · rfl
    · simp [State.nextCipher, htxns]
  exact KeepsEmptied.of_same (by simp) (by rw [hsame]) htxns

theorem KeepsEmptied.issue (d : Fin 4) (r : DReq) (s : State) : KeepsEmptied s (issue d r s) := by
  intro htxns _
  obtain ⟨f, hf, hstays⟩ := issue_jobs d r s
  refine ⟨by simpa using htxns, ?_⟩
  rw [hf, List.forall₂_map_right_iff, List.forall₂_same]
  exact fun j _ => hstays j

theorem keepsEmptied_closing : Closing KeepsEmptied where
  refl s := .of_same rfl rfl
  trans := .trans
  startJob b x s _ hx := fun htxns => by simp [htxns] at hx
  dataWaits := .dataWaits
  releaseHold s := .of_same (by simp) (by simp)
  issue d r s _ _ := .issue d r s
  cipherTake := .cipherTake
  grant := .grant
  judge s := .of_same (by simp) (by simp)

theorem settle_emptied {s : State} (htxns : s.txns = []) (hjobs : ∀ j ∈ s.ubp.jobs, j.abandoned = true) :
    (settle s).txns = [] ∧ List.Forall₂ Job.StaysAs s.ubp.jobs (settle s).ubp.jobs :=
  keepsEmptied_closing.settle s htxns hjobs

/-- Nothing is granted over an emptied table. -/
theorem settle_output_emptied {s : State} (htxns : s.txns = []) (hrefusals : s.uli.refusals = []) (h : s.uli.output = .free) :
    (settle s).uli.output = .free := by
  have hbefore : (beforeGrant s).txns = [] := by
    have hparts := settle_fixedPart s
    rw [settle_eq_grant] at hparts
    simpa [htxns] using hparts
  rw [settle_eq_grant, Machine.grant, if_neg (by simp [h])]
  have hnext : (beforeGrant s).nextOutput = .free := by
    rcases State.nextOutput_of_emptied hbefore with hn | hn
    · rw [State.nextOutput_refusal] at hn
      simp [hrefusals] at hn
    · exact hn
  simp [hnext, startRun]

/-! ## The jobs and the link at the emptying (R63, R65, R78) -/

theorem Job.isIssuedRead_iff (j : Job) : j.isIssuedRead = true ↔ j.state = .mediaRead ∧ ∃ d, j.pageOp = .issued d := by
  unfold Job.isIssuedRead
  cases j.pageOp <;> simp

theorem emptyTable_jobsEmptied (s : State) : s.JobsEmptied (emptyTable s) := by
  refine ⟨fun k hk => ?_, fun j hj hstays => ?_⟩
  · obtain ⟨j, hj, hjk⟩ := List.mem_filterMap.1 (emptyTable_jobs s ▸ hk)
    obtain rfl := Job.atEmptying_fields hjk
    rw [Job.atEmptying_eq, Option.ite_none_right_eq_some] at hjk
    exact ⟨rfl, j, hj, rfl, rfl, rfl, by simpa only [Job.isIssuedRead_iff] using hjk.1⟩
  · refine ⟨{ j with abandoned := true }, ?_, rfl, rfl, rfl⟩
    rw [emptyTable_jobs, List.mem_filterMap]
    refine ⟨j, hj, ?_⟩
    rw [Job.atEmptying_eq, if_pos]
    rw [Job.isIssuedRead_iff]
    tauto

/-- What follows the emptying leaves the jobs that it leaves. -/
theorem State.JobsEmptied.settle {s u : State} (h : s.JobsEmptied u) (htxns : u.txns = []) : s.JobsEmptied (settle u) := by
  obtain ⟨hleft, hkept⟩ := h
  obtain ⟨-, hstays⟩ := settle_emptied htxns fun k hk => (hleft k hk).1
  refine ⟨fun i hi => ?_, fun j hj hj' => ?_⟩
  · obtain ⟨k, hk, hki⟩ := exists_of_forall₂ (R := fun i k => Job.StaysAs k i) hstays.flip hi
    obtain ⟨hbuf, -, hunit, -, -, -, hstate, -, habandoned⟩ := hki.fields
    rw [hbuf, hunit, hstate, habandoned]
    exact hleft k hk
  · obtain ⟨k, hk, hbuf, hunit, hstate⟩ := hkept j hj hj'
    obtain ⟨i, hi, hki⟩ := exists_of_forall₂ hstays hk
    obtain ⟨hbuf', -, hunit', -, -, -, hstate', -, -⟩ := hki.fields
    exact ⟨i, hi, hbuf'.trans hbuf, hunit'.trans hunit, hstate'.trans hstate⟩

theorem ownerAfterEmptying_eq : ownerAfterEmptying = ownerOrphaned := by
  funext o
  cases o <;> rfl

/-- A request stays at the emptying exactly where it outlives it (R78). -/
theorem mem_emptyTable_requests {s : State} (hb : s.BuffersOk) (hr : s.RequestsOk) {r : DReq} :
    r ∈ (emptyTable s).dli.requests ↔ r ∈ s.dli.requests ∧ s.Outlives r := by
  have hgone (b : Fin 8) {j : Job} (hj : s.job? b = some j) :
      b ∈ (s.ubp.jobs.filter (fun j => j.atEmptying.isNone)).map (fun j => j.buf) ↔ j.atEmptying = none := by
    simp only [List.mem_map, List.mem_filter, Option.isNone_iff_eq_none]
    refine ⟨fun ⟨k, ⟨hk, hnone⟩, hbuf⟩ => ?_, fun hnone => ⟨j, ⟨State.mem_of_job? hj, hnone⟩, State.buf_of_job? hj⟩⟩
    obtain rfl := hb.eq_of_buf hk (State.mem_of_job? hj) (hbuf.trans (State.buf_of_job? hj).symm)
    exact hnone
  rw [(emptyTable_dli s).1, List.mem_filter, List.mem_filter, and_assoc]
  refine and_congr_right fun hmem => ?_
  unfold State.Outlives
  cases howner : r.owner with
  | nobody => exact absurd howner (hr.named r hmem)
  | sweep => simp [ownerIn, ownerIsFlush]
  | flush f => simp [ownerIn, ownerIsFlush]
  | job b =>
    obtain ⟨j, hj, hop, -⟩ := hr.jobRequests r hmem b howner
    have hread : j.isIssuedRead = false := by simp [Job.isIssuedRead, hop]
    have hnone : j.atEmptying = none ↔ ¬ (j.abandoned = true ∨ j.state = .mediaWrite) := by
      simp [Job.atEmptying_eq, hread]
    have hin : ownerIn ((s.ubp.jobs.filter (fun j => j.atEmptying.isNone)).map (fun j => j.buf)) (.job b) = true ↔
        ¬ (j.abandoned = true ∨ j.state = .mediaWrite) := by
      rw [ownerIn, List.contains_iff_mem, hgone b hj, hnone]
    have hstays : (!ownerIn ((s.ubp.jobs.filter (fun j => j.atEmptying.isNone)).map (fun j => j.buf)) (.job b)) = true ↔
        (j.abandoned = true ∨ j.state = .mediaWrite) := by
      rw [Bool.not_eq_true', ← Bool.not_eq_true, hin, not_not]
    rw [hstays]
    simp [ownerIsFlush, hj]

theorem emptyTable_linkEmptied {s : State} (hb : s.BuffersOk) (hr : s.RequestsOk) : s.LinkEmptied (emptyTable s) where
  slots := ⟨[], by rw [(emptyTable_dli s).2.1, ownerAfterEmptying_eq, List.append_nil], by simp⟩
  kept r hmem houtlives := .inl ⟨r, (mem_emptyTable_requests hb hr).2 ⟨hmem, houtlives⟩, rfl, rfl⟩
  requests q hq := .inr ((mem_emptyTable_requests hb hr).1 hq)

theorem State.LinkEmptied.of_dli {s t u : State} (h : s.LinkEmptied t) (hdli : u.dli = t.dli) : s.LinkEmptied u where
  slots := by rw [hdli]; exact h.slots
  kept r hr houtlives := by rw [State.Asked, hdli]; exact h.kept r hr houtlives
  requests := by rw [hdli]; exact h.requests

/-- Over an emptied table only the sweep's DISCARD is asked for besides (R68). -/
theorem State.LinkEmptied.settle {s u : State} (h : s.LinkEmptied u) (htxns : u.txns = []) : s.LinkEmptied (settle u) := by
  have hfollows := settle_follows u
  have hsweep {o : Owner} (ho : u.Joins o) : o = .sweep := by
    rcases ho with ⟨rfl, -⟩ | ⟨b, -, -, x, hx, -⟩
    · rfl
    · simp [htxns] at hx
  refine ⟨?_, fun r hr houtlives => hfollows.asked _ _ (h.kept r hr houtlives), fun q hq => ?_⟩
  · obtain ⟨l, hl, hissued⟩ := h.slots
    obtain ⟨m, hm, hissued'⟩ := hfollows.slots
    refine ⟨l ++ m, by rw [hm, hl, List.append_assoc], fun z hz => ?_⟩
    rcases List.mem_append.1 hz with hz | hz
    · exact hissued z hz
    · rcases hissued' z hz with ⟨q, hq, hop, howner⟩ | hjoins
      · rcases h.requests q hq with hsw | ⟨hq, houtlives⟩
        · exact .inl (howner.symm.trans hsw)
        · exact .inr ⟨q, hq, hop, howner, houtlives⟩
      · exact .inl (hsweep hjoins)
  · rcases hfollows.requests q hq with hq | hjoins
    · exact h.requests q hq
    · exact .inl (hsweep hjoins)

/-! ## LINK_RESET (R39, R100) -/

theorem exec_linkReset {s : State} (hrun : s.power = .running) (hlink : s.uli.link = []) :
    exec .linkReset s = .next (settle (takeLinkReset s)) := by
  have hempty : (takeLinkReset s).uli.link = [] := by simpa [takeLinkReset, emptyTable] using hlink
  simp [exec, execLinkReset, signalArrives, hrun, LinkItem.take, settleLink_of_link_nil hempty]

/-- What the emptying of the table does to the ULI (R39). -/
theorem emptyTable_uli (s : State) : (emptyTable s).uli =
    { s.uli with refusals := [], intakes := [], output := .free, attn := { s.uli.attn with tableEmptied := true } } := rfl

theorem takeLinkReset_same (s : State) : (takeLinkReset s).txns = [] ∧ (takeLinkReset s).uli = (emptyTable s).uli ∧
    (takeLinkReset s).ubp = (emptyTable s).ubp ∧ (takeLinkReset s).dli = (emptyTable s).dli := by
  refine ⟨?_, ?_, ?_, ?_⟩ <;> simp [takeLinkReset]
  rfl

theorem settle_noRecords {s : State} (h : s.txns = []) : (settle s).txns = [] := by
  have hparts := settle_fixedPart s
  simpa [h] using hparts

/-- Settles O30: the table is emptied as `emptyTable` does it, and what follows over an emptied table leaves it so. -/
theorem linkResetEmptiesTable : Obligations.LinkResetEmptiesTable := by
  intro s hrun hlink
  refine ⟨_, exec_linkReset hrun hlink, ?_⟩
  obtain ⟨htxns, huli, hubp, hdli⟩ := takeLinkReset_same s
  have hjobs : s.JobsEmptied (takeLinkReset s) := by
    rw [State.JobsEmptied, hubp]
    exact emptyTable_jobsEmptied s
  have hmedia : (takeLinkReset s).dli.mediaPart = s.dli.mediaPart := by simp
  have hmedia' := (settle_mediaPart (takeLinkReset s)).trans hmedia
  simp only [Dli.mediaPart, Dli.mk.injEq, true_and, and_true] at hmedia'
  obtain ⟨hcondition, hreported, husable, hclamped, hwait⟩ := hmedia'
  have hsweep := settle_sweep (takeLinkReset s)
  refine ⟨settle_noRecords htxns, by simp [huli, emptyTable_uli], by simp [huli, emptyTable_uli],
    settle_output_emptied htxns (by simp [huli, emptyTable_uli]) (by simp [huli, emptyTable_uli]),
    by simp [huli, emptyTable_uli], by simp [huli, emptyTable_uli], by rw [settle_mem, hubp]; rfl, hjobs.settle htxns,
    fun hb hr => ((emptyTable_linkEmptied hb hr).of_dli hdli).settle htxns, ?_, by simp, by simp, by simp, by simp, by simp,
    hcondition, hreported, husable, hclamped, hwait, by simp, by simp, by simp, settle_onlySweepAsks ⟨[], by simp, by simp⟩,
    by simp, by simp, by simp, fun hissuing => ?_, by simp, by simp, by simp, by simp⟩
  · simp only [settle_frame, takeLinkReset, reloadIdle_ac, emptyTable_frame]
  · obtain ⟨hswu, hks⟩ := hsweep.still (by simpa using hissuing)
    exact ⟨by simpa using hswu, by simpa using hks⟩

/-! ## RESUME (R100) -/

theorem exec_resume {s : State} (hrun : s.power = .running) (hlink : s.uli.link = []) :
    exec .resume s = .next (settle (takeResume s)) := by
  have hempty : (takeResume s).uli.link = [] := by
    unfold takeResume resumeVerdict resumeReason
    (repeat' split) <;> simpa [startKeypad, attention] using hlink
  simp [exec, execResume, signalArrives, hrun, LinkItem.take, settleLink_of_link_nil hempty]

/-- What RESUME does in STANDBY (R100). -/
theorem takeResume_standby {s : State} (h : s.ac.standby = true) :
    (takeResume s).ac = { s.ac with standby := false, changed := false, held := none } ∧
    (takeResume s).kps = { s.kps with scanning := true, keys := Kps.allUp, group := none, hold := none, due := [] } ∧
    (takeResume s).uli = { s.uli with attn := { s.uli.attn with resume := s.uli.attn.resume || s.ac.changed } } := by
  rw [takeResume, if_pos h, resumeVerdict, resumeReason]
  cases hchanged : s.ac.changed <;> cases hheld : s.ac.held <;>
    simp [startKeypad, attention, Attn.join, hchanged, hheld]

/-- The verdict that RESUME hands over (R100). -/
theorem takeResume_ind {s : State} (h : s.ac.standby = true) :
    (s.ac.held = none → (takeResume s).ind = s.ind) ∧
    ∀ v, s.ac.held = some v → (∀ w, s.ind.slot ≠ some (.verdict w)) →
      (takeResume s).ind.slot = some (.verdict v) ∧ (takeResume s).ind.remaining = 15 := by
  have hreason : (resumeReason (startKeypad (s.setAc { s.ac with standby := false }))).ac.held = s.ac.held ∧
      (resumeReason (startKeypad (s.setAc { s.ac with standby := false }))).ind = s.ind := by
    unfold resumeReason
    split <;> simp [startKeypad, attention]
  obtain ⟨hheld, hind⟩ := hreason
  rw [takeResume, if_pos h, resumeVerdict, hheld]
  refine ⟨fun hnone => by rw [hnone]; exact hind, fun v hv hslot => ?_⟩
  rw [hv]
  dsimp only
  unfold verdictRequest
  split
  next w hw => exact absurd (by simpa [hind] using hw) (hslot w)
  · simp

theorem takeResume_awake {s : State} (h : s.ac.standby = false) : takeResume s = s := by simp [takeResume, h]

/-- Settles O32: RESUME takes the keypad, the AC and the indicator out of standby, and leaves the rest to the closure. -/
theorem resumeLeavesStandby : Obligations.ResumeLeavesStandby := by
  intro s hrun hlink
  refine ⟨fun hstandby => ⟨_, exec_resume hrun hlink, ?_⟩, fun hawake => ?_⟩
  · obtain ⟨hac, hkps, huli⟩ := takeResume_standby hstandby
    obtain ⟨hnone, hsome⟩ := takeResume_ind hstandby
    refine ⟨by rw [settle_fixedPart]; simp, by simp [huli], by simp [huli], by simp, by simp, fun j hj => ?_, by simp [hac],
      by simp [hkps], by simp [hkps], by simp [hkps], by simp [hkps], by simp [hkps], by simp [huli], fun hheld => ?_,
      fun v hv hslot => by simpa using hsome v hv hslot⟩
    · exact settle_jobs_kept (s := takeResume s) (by simpa using hj)
    · simp [hnone hheld]
  · have hexec := exec_resume hrun hlink
    rw [takeResume_awake hawake] at hexec
    refine ⟨fun hsettled => by rw [hexec, hsettled], _, hexec, settle_fixedPart s, by simp, by simp, by simp, by simp,
      fun j hj => settle_jobs_kept hj, by simp, by simp, by simp, by simp, by simp, by simp, by simp⟩

/-! ## SUSPEND (R98) -/

/-- The jobs that the CE does not work on outlive the stop of the cipher (R59). -/
theorem mem_stopCipher_jobs {s : State} (hb : s.BuffersOk) (j : Job) :
    j ∈ (stopCipher s).ubp.jobs ↔ j ∈ s.ubp.jobs ∧ j.ciphering = false := by
  have hfold : ∀ (l : List Job) (v : State), ((l.foldl (fun acc j => endJob j acc) v).ubp.jobs =
      v.ubp.jobs.filter (fun k => l.all (fun j => k.buf != j.buf))) := by
    intro l
    induction l with
    | nil => simp
    | cons i l ih => intro v; rw [List.foldl_cons, ih, endJob_jobs, List.filter_filter]; simp [Bool.and_comm]
  rw [stopCipher, hfold, List.mem_filter]
  refine and_congr_right fun hj => ?_
  simp only [List.all_eq_true, List.mem_filter, bne_iff_ne, and_imp]
  refine ⟨fun h => ?_, fun h i hi hciphering hbuf => ?_⟩
  · by_contra hne
    exact h j hj (by simpa using hne) rfl
  · obtain rfl := hb.eq_of_buf hj hi hbuf
    simp [h] at hciphering

theorem stopCipher_mem (s : State) : (stopCipher s).ubp.mem = s.ubp.mem :=
  foldl_keeps (fun u : State => u.ubp.mem) (fun (u : State) (j : Job) => endJob j u) (fun u j => by
    unfold endJob
    split <;> rfl) _ s

theorem lockedTable_noRecords (c : Cause) {s : State} (h : s.txns = []) :
    s.lockedTable c = (stopCipher s).setCe { key := none } := by
  have hnone : ((stopCipher s).setCe { key := none }).txns = [] := by
    have hparts := stopCipher_fixedPart s
    simpa [h] using hparts
  rw [State.lockedTable, failVolume_eq, hnone]
  rfl

/-- The lock event moves the AC and fails the volume; the rest is as the table that it takes holds it. -/
theorem lockEvent_table (c : Cause) (s : State) : (lockEvent c s).dli = (s.lockedTable c).dli ∧
    (lockEvent c s).ubp = (s.lockedTable c).ubp ∧
    (lockEvent c s).uli = { (s.lockedTable c).uli with attn := (lockEvent c s).uli.attn } := by
  rw [lockEvent_eq]
  generalize s.lockedTable c = u
  split
  · refine ⟨by simp, by simp, ?_⟩
    simp only [moveTo_uli, enter_uli]
    split <;> simp
  · refine ⟨by simp, by simp, ?_⟩
    rw [present_uli]
    split <;> rfl

/-- The lock by policy over an emptied table (R98): no record fails, and the jobs that the CE does not work on stay. -/
theorem suspendLock_emptied {s : State} (hb : s.BuffersOk) (htxns : s.txns = []) :
    (suspendLock s).dli = s.dli ∧ (suspendLock s).ubp.mem = s.ubp.mem ∧
    (suspendLock s).uli = { s.uli with attn := (suspendLock s).uli.attn } ∧
    (∀ j ∈ (suspendLock s).ubp.jobs, j ∈ s.ubp.jobs) ∧
    ∀ j ∈ s.ubp.jobs, j.ciphering = false → j ∈ (suspendLock s).ubp.jobs := by
  unfold suspendLock
  split
  · obtain ⟨hdli, hubp, huli⟩ := lockEvent_table .standby s
    rw [lockedTable_noRecords .standby htxns] at hdli hubp huli
    have hjobs : (lockEvent .standby s).ubp.jobs = (stopCipher s).ubp.jobs := by rw [hubp]; rfl
    refine ⟨by rw [hdli]; simp, by rw [hubp]; exact stopCipher_mem s, by rw [huli]; simp, fun j hj => ?_,
      fun j hj hidle => ?_⟩
    · exact ((mem_stopCipher_jobs hb j).1 (hjobs ▸ hj)).1
    · rw [hjobs]
      exact (mem_stopCipher_jobs hb j).2 ⟨hj, hidle⟩
  · exact ⟨rfl, rfl, rfl, fun j => id, fun j hj _ => hj⟩

theorem exec_suspend_alone {s : State} (hrun : s.power = .running) (hlink : (takeSuspend s).uli.link = []) :
    exec .suspend s = .next (settle (takeSuspend s)) := by
  rw [exec_suspend hrun, settleLink_of_link_nil hlink]

/-- What STANDBY leaves as it was (R98). -/
theorem enterStandby_same (s : State) : (enterStandby s).txns = s.txns ∧ (enterStandby s).ubp = s.ubp ∧
    (enterStandby s).dli = s.dli ∧ (enterStandby s).uli = { s.uli with attn := (enterStandby s).uli.attn } := by
  refine ⟨by simp [enterStandby], by simp [enterStandby], by simp [enterStandby], ?_⟩
  simp only [enterStandby, darken_frame]
  generalize hu : stopKeypad (s.setAc { s.ac with standby := true, changed := false }) = u
  have huli : u.uli = s.uli := by simp [← hu]
  unfold suspendComposer cancel
  split
  · simp only [moveTo_uli, enter_uli]
    split <;> simp [huli]
  · simp [huli]

/-- SUSPEND empties the table, whatever else it does (R39, R63, R78, R98). -/
theorem takeSuspend_emptied {s : State} (hawake : s.ac.standby = false) (hb : s.BuffersOk) :
    (takeSuspend s).dli = (emptyTable s).dli ∧ (takeSuspend s).ubp.mem = s.ubp.mem ∧
    (takeSuspend s).uli = { (emptyTable s).uli with attn := (takeSuspend s).uli.attn } ∧ s.JobsEmptied (takeSuspend s) := by
  have hb' : (emptyTable s).BuffersOk := (JobsFrom.emptyTable s).buffers hb
  obtain ⟨hdli, hmem, huli, hfrom, hstay⟩ := suspendLock_emptied hb' rfl
  obtain ⟨-, hubp, hdli', huli'⟩ := enterStandby_same (suspendLock (emptyTable s))
  obtain ⟨hleft, hkept⟩ := emptyTable_jobsEmptied s
  rw [takeSuspend_awake hawake]
  refine ⟨hdli'.trans hdli, by rw [hubp, hmem]; rfl, by rw [huli', huli], fun k hk => ?_, fun j hj hj' => ?_⟩
  · rw [hubp] at hk
    exact hleft k (hfrom k hk)
  · obtain ⟨k, hk, hbuf, hunit, hstate⟩ := hkept j hj hj'
    refine ⟨k, ?_, hbuf, hunit, hstate⟩
    rw [hubp]
    refine hstay k hk ?_
    rcases hj' with h | ⟨h, -⟩ <;> simp [Job.ciphering, hstate, h]

theorem Access.restingPlace_presentation (a : Access) : a.restingPlace.presentation = a.presentation := by cases a <;> rfl

theorem Access.restingPlace_of_not_composing {s : State} (h : s.composing = false) :
    s.ac.access.restingPlace = s.ac.access := by
  revert h
  unfold State.composing
  cases s.ac.access <;> simp [Access.restingPlace]

/-- A composition of a READY composer is given up with its sub-state; any other leaves the sub-state (R98). -/
theorem enterStandby_cases (s : State) :
    ((s.ecp.ready = true ∧ s.composing = true) ∧ enterStandby s = darken (moveTo s.ac.access.restingPlace
      (stopKeypad (s.setAc { s.ac with standby := true, changed := false })))) ∨
    (¬ (s.ecp.ready = true ∧ s.composing = true) ∧ enterStandby s = darken (clearComposition
      (stopKeypad (s.setAc { s.ac with standby := true, changed := false })))) := by
  by_cases h : s.ecp.ready = true ∧ s.composing = true
  · exact .inl ⟨h, by rw [enterStandby, suspendComposer, if_pos]; rfl; exact h⟩
  · exact .inr ⟨h, by rw [enterStandby, suspendComposer, if_neg]; exact h⟩

/-- The keypad, the composer and the indicator in STANDBY (R98, R159). -/
theorem enterStandby_dark (s : State) :
    (enterStandby s).kps = { scanning := false, keys := Kps.allUp, group := none, hold := none, due := [], fifo := [] } ∧
    (enterStandby s).ecp = {
      ready := s.ecp.ready, adminTable := (enterStandby s).ecp.adminTable, stack := [],
      overlong := false, copy := none, command := none, timer := none } ∧
    (enterStandby s).ind.slot = none ∧ (enterStandby s).ind.pendingVerdict = none ∧ (enterStandby s).ind.rest = none ∧
    (enterStandby s).uli.attn.tableEmptied = s.uli.attn.tableEmptied := by
  rcases enterStandby_cases s with ⟨-, h⟩ | ⟨-, h⟩ <;> rw [h]
  · refine ⟨by simp [stopKeypad], by simp, by simp [darken], by simp [darken], by simp [darken], ?_⟩
    simp only [darken_frame, moveTo_uli, enter_uli]
    split <;> simp
  · simp [darken, stopKeypad]

/-- The AC in STANDBY (R98): the presentation stays, and what UNLOCKED holds with it. -/
theorem enterStandby_ac {s : State} (hpresented : s.ac.presentation = s.ac.access.presentation) :
    (enterStandby s).ac.standby = true ∧ (enterStandby s).ac.changed = false ∧
    (enterStandby s).ac.held = s.ac.held ∧ (enterStandby s).ac.scope = s.ac.scope ∧
    (enterStandby s).ac.lossSeen = s.ac.lossSeen ∧ (enterStandby s).ac.presentation = s.ac.presentation ∧
    (s.ac.access.unlocked = true → (enterStandby s).ce = s.ce ∧ (enterStandby s).ac.sessionSlot = s.ac.sessionSlot) ∧
    ((s.ac.access.unlocked = false → s.ac.idle = none) → (enterStandby s).ac.idle = s.ac.idle) ∧
    (s.ecp.ready = true → (enterStandby s).ac.access = s.ac.access.restingPlace) ∧
    (s.ecp.ready = false → (enterStandby s).ac.access = s.ac.access) := by
  have hresting := Access.restingPlace_presentation s.ac.access
  rcases enterStandby_cases s with ⟨⟨hready, -⟩, h⟩ | ⟨hnot, h⟩ <;> rw [h]
  · refine ⟨by simp, by simp [hresting, hpresented], by simp, by simp, by simp, by simp [hresting, hpresented],
      fun hunlocked => by simp [Access.restingPlace_unlocked, hunlocked], fun hidle => ?_, by simp, by simp [hready]⟩
    cases hunlocked : s.ac.access.unlocked
    · simp [Access.restingPlace_unlocked, hunlocked, hidle hunlocked]
    · simp [Access.restingPlace_unlocked, hunlocked]
  · refine ⟨by simp, by simp, by simp, by simp, by simp, by simp, by simp, by simp, fun hready => ?_, by simp⟩
    rw [Access.restingPlace_of_not_composing (by simpa [hready] using hnot)]
    simp

/-- The lock by policy moves the AC as the lock event does, and leaves what no state of the AC holds. -/
theorem suspendLock_ac (s : State) : (suspendLock s).ac.held = s.ac.held ∧ (suspendLock s).ac.scope = s.ac.scope ∧
    (suspendLock s).ac.lossSeen = s.ac.lossSeen ∧ (suspendLock s).ecp.ready = s.ecp.ready ∧
    (suspendLock s).uli.attn.tableEmptied = s.uli.attn.tableEmptied := by
  unfold suspendLock
  split
  next h =>
    obtain ⟨hac, -, -, hattn⟩ := lockEvent_unlocked .standby h.2
    refine ⟨by simp [hac], by simp [hac], by simp [hac], ?_, ?_⟩
    · rw [lockEvent_eq, if_pos h.2]
      simp [State.lockedTable]
    · rw [hattn, moveTo_uli, enter_uli]
      split <;> rfl
  · exact ⟨rfl, rfl, rfl, rfl, rfl⟩

theorem suspendLock_of_unlocked {s : State} (h : (s.ks.dev.fields.lockOnStandby && s.ac.access.unlocked) = false) :
    suspendLock s = s := by
  rw [suspendLock, if_neg]
  simpa using h

theorem suspendLock_withdrawn {s : State} (h : (s.ks.dev.fields.lockOnStandby && s.ac.access.unlocked) = true)
    (hpresented : s.PresentationOk) (htxns : s.txns = []) : (suspendLock s).Withdrawn := by
  have hlock : s.ks.dev.fields.lockOnStandby = true ∧ s.ac.access.unlocked = true := by simpa using h
  rw [suspendLock, if_pos hlock]
  exact lockEvent_withdrawn .standby (by simp [State.TagsOk, htxns]) (by simp [State.ActiveOk, htxns]) hpresented hlock.2

/-- Settles O31: the table is emptied as `emptyTable` does it; the lock by policy and STANDBY follow where the part is
AWAKE. -/
theorem suspendEntersStandby : Obligations.SuspendEntersStandby := by
  refine ⟨fun s lock hrun hawake hlink hpresented hb hlock => ?_, fun s hrun hstandby hlink => ?_⟩
  · obtain ⟨hdli, hmem, huli, hjobs⟩ := takeSuspend_emptied hawake hb
    have htxns := takeSuspend_noRecords s
    have hempty : (takeSuspend s).uli.link = [] := by rw [huli]; exact hlink
    have htake := takeSuspend_awake hawake
    have hpresented' : (suspendLock (emptyTable s)).PresentationOk :=
      (control_walk.suspendLock (emptyTable s)).presentation hpresented
    obtain ⟨hheld, hscope, hloss, hready, htable⟩ := suspendLock_ac (emptyTable s)
    obtain ⟨hstandby, hchanged, hheld', hscope', hloss', hpresentation, hunlocked, hidle, hresting, hstill⟩ :=
      enterStandby_ac hpresented'.1
    obtain ⟨hkps, hecp, hslot, hpending, hrest, htable'⟩ := enterStandby_dark (suspendLock (emptyTable s))
    have hkept : lock = false → suspendLock (emptyTable s) = emptyTable s := fun h =>
      suspendLock_of_unlocked (hlock.symm.trans h)
    have hw : lock = true → (takeSuspend s).Withdrawn := fun h => by
      rw [htake]
      exact enterStandby_withdrawn (suspendLock_withdrawn (s := emptyTable s) (hlock.symm.trans h) hpresented rfl)
    rw [← htake] at hstandby hchanged hheld' hscope' hloss' hpresentation hunlocked hidle hresting hstill
    rw [← htake] at hkps hecp hslot hpending hrest htable'
    obtain ⟨attn, huli⟩ : ∃ a, (takeSuspend s).uli = { (emptyTable s).uli with attn := a } := ⟨_, huli⟩
    obtain ⟨admin, hecp⟩ : ∃ a, (takeSuspend s).ecp = {
        ready := (suspendLock (emptyTable s)).ecp.ready, adminTable := a, stack := [],
        overlong := false, copy := none, command := none, timer := none } := ⟨_, hecp⟩
    refine ⟨_, exec_suspend_alone hrun hempty, by simp [hstandby], by simp [hchanged], settle_noRecords htxns,
      by simp [huli, emptyTable_uli], by simp [huli, emptyTable_uli],
      settle_output_emptied htxns (by simp [huli, emptyTable_uli]) (by simp [huli, emptyTable_uli]),
      by simp [huli, emptyTable_uli], by simp [hmem], hjobs.settle htxns,
      fun hr => ((emptyTable_linkEmptied hb hr).of_dli hdli).settle htxns, ?_, by simp [hkps], by simp [hkps], by simp [hkps],
      by simp [hecp], by simp [hecp], by simp [hecp], by simp [hecp], by simp [hecp, hready], by simp [hheld', hheld],
      by simp [hscope', hscope], by simp [hloss', hloss], by simp [hslot], by simp [hpending], by simp [hrest],
      fun h => ?_, fun h hopen => ?_, fun h hoff => ?_, fun h hr => ?_, fun h hr => ?_⟩
    · rw [settle_attn, htable', htable]
      rfl
    · exact ⟨by simp [(hw h).access], by simp [(hw h).key], by simp [(hw h).atr], by simp [(hw h).attn]⟩
    · rw [hkept h] at hunlocked hpresentation
      obtain ⟨hce, hsession⟩ := hunlocked hopen
      exact ⟨by simp [hce], by simp [hpresentation], by simp [hsession]⟩
    · rw [hkept h] at hidle
      simpa using hidle hoff
    · rw [hkept h] at hresting
      simpa using hresting hr
    · rw [hkept h] at hstill
      simpa using hstill hr
  · have htake := takeSuspend_standby hstandby
    have hempty : (takeSuspend s).uli.link = [] := by rw [htake]; exact hlink
    refine ⟨_, exec_suspend_alone hrun hempty, ?_⟩
    rw [htake]
    exact ⟨settle_noRecords rfl, by simp [emptyTable_uli], by simp [emptyTable_uli], settle_output_emptied rfl rfl rfl,
      by simp [emptyTable_uli], by simp [emptyTable_uli], by rw [settle_mem]; rfl, (emptyTable_jobsEmptied s).settle rfl,
      fun hb hr => (emptyTable_linkEmptied hb hr).settle rfl, by simp, by simp, by simp, by simp, by simp, by simp, by simp,
      by simp, by simp, by simp, by simp, by simp, by simp⟩

end Sys2Proof.Machine


/-! PROOF. Records sent whole on the upstream link (R14, R25, R28, R30, R32, R36, R37, R55): COMPLETE, DATA_WANTED, READ_DATA
and the data-wait expiry. -/

namespace Sys2Proof.Machine

open Sys2Proof

/-! ## COMPLETE (R28, R36, R37) -/

/-- The state that sends a COMPLETE for `x`, its record gone and the output free. -/
def State.completed (s : State) (x : Txn) : State :=
  freeOutput (dropTxn x.tag (sendUp (.complete (s.completeOf x)) (if x.kind = .state then stateSent s else s)))

theorem exec_completeSent {s : State} {tag : Fin 16} {x : Txn} (hrun : s.power = .running)
    (houtput : s.uli.output = .complete tag) (hx : s.txn? tag = some x) :
    exec .completeSent s = .next (settle (s.completed x)) := by
  have htag := State.tag_of_txn? hx
  simp [exec, execCompleteSent, State.whenRunning, hrun, completeSent, houtput, hx, State.completed, htag]

theorem State.completed_uli (s : State) (x : Txn) : (s.completed x).uli = { s.uli with
    attn := if x.kind = .state then Attn.none else s.uli.attn,
    sent := .complete (s.completeOf x) :: s.uli.sent, output := .free } := by
  unfold State.completed
  split <;> rfl

theorem State.completed_txns (s : State) (x : Txn) :
    (s.completed x).txns = s.txns.filter (fun z => z.tag ≠ x.tag) := by
  have htable : (if x.kind = .state then stateSent s else s).txns = s.txns := by split <;> rfl
  have hdrop (l : List Txn) : l.filter (fun z => z.tag != x.tag) = l.filter (fun z => z.tag ≠ x.tag) :=
    List.filter_congr fun z _ => by rw [Bool.eq_iff_iff]; simp
  rw [← hdrop, ← htable]
  rfl

/-- The percent of a STATE answer is 100 exactly while the sweep is IDLE (R16). -/
theorem reportedPercent_spec (w : Swu) (usable : Option Nat) :
    (reportedPercent w usable = 100 ↔ w.state = .idle) ∧ reportedPercent w usable ≤ 100 ∧
    (∀ u, w.state ≠ .idle → usable = some u → reportedPercent w usable = min 99 (roundedPercent (w.cursor.getD 0) u)) ∧
    (w.state ≠ .idle → usable = none → reportedPercent w usable = min 99 (w.lastPercent.getD 0)) := by
  unfold reportedPercent
  cases hstate : w.state with
  | idle => simp
  | _ => cases usable <;> simp <;> omega

/-- The record is formed by the blocks at the sending, its transaction leaves the table, and the closure grants the
output. -/
theorem completeSent_spec : Obligations.CompleteSent := by
  intro s tag x o hrun houtput hx houtcome
  have htag := State.tag_of_txn? hx
  have huli := s.completed_uli x
  have hlast : x.kind = .state → (s.completed x).swu.lastPercent = some (reportedPercent s.swu s.dli.usable) := fun h => by
    simp [State.completed, h, stateSent]
  refine ⟨_, s.completeOf x, exec_completeSent hrun houtput hx, by simp [huli], rfl, by simp [State.completeOf, houtcome], rfl,
    fun cause h => by simp [State.completeOf, h, failureDetail], fun h => ?_, fun h => ?_, fun h => ?_,
    fun hsize hstate => ?_, by simp [huli], ?_, ?_, settle_inOrder (by simp [huli])⟩
  · unfold State.completeOf failureDetail
    dsimp only
    split
    next c hc => exact absurd hc (h c)
    · rfl
  · simp only [State.completeOf, State.payload, h, State.sizeAnswer]
    cases s.atr.volume <;> rfl
  · obtain ⟨hidle, hbound, husable, habsent⟩ := reportedPercent_spec s.swu s.dli.usable
    refine ⟨s.stateAnswer, by simp [State.completeOf, State.payload, h], ?_, hidle, hbound, husable, habsent,
      by simp [hlast h]; rfl, rfl, rfl, rfl, rfl, rfl, rfl, rfl, rfl, by simp [State.stateAnswer], rfl⟩
    simp only [State.stateAnswer]
    cases s.ac.access <;> rfl
  · unfold State.completeOf State.payload
    dsimp only
    split
    · contradiction
    · contradiction
    · rfl
  · have htags (l : List Txn) : l.map Txn.tag = (l.map Txn.fixedPart).map Txn.tag := by
      rw [List.map_map]
      rfl
    rw [htags, settle_fixedPart, ← htags, State.completed_txns, htag, List.filter_map]
    rfl
  · rw [settle_fixedPart, State.completed_txns, htag]

end Sys2Proof.Machine

namespace Sys2Proof

/-- Settles O34. -/
theorem completeSent : Obligations.CompleteSent := Machine.completeSent_spec

end Sys2Proof


/-! PROOF. What an event leaves of the records: the record of its transaction moved on (R23, R24, R25, R26), every other as it
was. -/

namespace Sys2Proof.Machine

open Sys2Proof

/-! ## The records of other transactions -/

theorem State.OthersKept.refl (s : State) (tag : Fin 16) : s.OthersKept s tag := fun x hx _ => ⟨x, hx, rfl, rfl, rfl, rfl⟩

theorem State.OthersKept.trans {s t u : State} {tag : Fin 16} (h1 : s.OthersKept t tag) (h2 : t.OthersKept u tag) :
    s.OthersKept u tag := by
  intro x hx hne
  obtain ⟨y, hy, htag, hfailure, hphase, hdone⟩ := h1 x hx hne
  obtain ⟨z, hz, htag', hfailure', hphase', hdone'⟩ := h2 y hy (by rwa [htag])
  exact ⟨z, hz, htag'.trans htag, hfailure'.trans hfailure, hphase'.trans hphase, hdone'.trans hdone⟩

/-- Marks, next units and jobs held alone change in the table. -/
theorem State.OthersKept.of_unmarked {s t : State} (h : t.txns.map Txn.unmarkedPart = s.txns.map Txn.unmarkedPart)
    (tag : Fin 16) : s.OthersKept t tag := by
  intro x hx _
  have hmem : x.unmarkedPart ∈ t.txns.map Txn.unmarkedPart := h ▸ List.mem_map_of_mem hx
  obtain ⟨y, hy, hyx⟩ := List.mem_map.1 hmem
  simp only [Txn.unmarkedPart, Txn.fixedPart, Txn.mk.injEq] at hyx
  obtain ⟨htag, -, -, -, -, -, -, -, hdone, hfailure, hphase, -, -⟩ := hyx
  exact ⟨y, hy, htag, hfailure, hphase, hdone⟩

theorem map_unmarked_of_fixedPart {l m : List Txn} (h : m.map Txn.fixedPart = l.map Txn.fixedPart) :
    m.map Txn.unmarkedPart = l.map Txn.unmarkedPart := by
  have hpart (l : List Txn) : l.map Txn.unmarkedPart = (l.map Txn.fixedPart).map (fun x => { x with flushMark := none }) := by
    rw [List.map_map]
    rfl
  rw [hpart, hpart, h]

theorem State.OthersKept.of_fixedPart {s t : State} (h : t.txns.map Txn.fixedPart = s.txns.map Txn.fixedPart) (tag : Fin 16) :
    s.OthersKept t tag := .of_unmarked (map_unmarked_of_fixedPart h) tag

theorem State.OthersKept.of_same {s t : State} (h : t.txns = s.txns) (tag : Fin 16) : s.OthersKept t tag :=
  .of_fixedPart (by rw [h]) tag

theorem State.OthersKept.of_updTxn {s t : State} {tag : Fin 16} {f : Txn → Txn} (h : t.txns = (updTxn tag f s).txns) :
    s.OthersKept t tag := by
  intro x hx hne
  refine ⟨x, ?_, rfl, rfl, rfl, rfl⟩
  rw [h, updTxn_txns, List.mem_map]
  exact ⟨x, hx, by rw [if_neg hne]⟩

theorem State.OthersKept.settle {s t : State} {tag : Fin 16} (h : s.OthersKept t tag) : s.OthersKept (settle t) tag :=
  h.trans (.of_fixedPart (settle_fixedPart t) tag)

theorem State.OthersKept.failTxn (tag : Fin 16) (f : Failure) (s : State) : s.OthersKept (failTxn tag f s) tag := by
  rcases failTxn_cases tag f s with ⟨x, hx, hactive, hfresh⟩ | hsame
  · exact .of_updTxn (failTxn_table hx hactive hfresh f)
  · rw [hsame]
    exact .refl s tag

/-! ## The record of a tag -/

theorem txn?_of_unmarked {s t : State} (h : t.txns.map Txn.unmarkedPart = s.txns.map Txn.unmarkedPart) {tag : Fin 16} {x : Txn}
    (hx : s.txn? tag = some x) : ∃ y, t.txn? tag = some y ∧ y.unmarkedPart = x.unmarkedPart := by
  have hfind (l : List Txn) : (l.find? (fun x => x.tag == tag)).map Txn.unmarkedPart =
      (l.map Txn.unmarkedPart).find? (fun x => x.tag == tag) := by
    rw [List.find?_map]
    rfl
  have hsame : (t.txn? tag).map Txn.unmarkedPart = (s.txn? tag).map Txn.unmarkedPart := by
    rw [State.txn?, State.txn?, hfind, hfind, h]
  rw [hx] at hsame
  exact Option.map_eq_some_iff.1 hsame

/-- The fields that the end of a page write or a buffer given to it leaves (R47, R75). -/
theorem Txn.fields_of_unmarkedPart {x y : Txn} (h : y.unmarkedPart = x.unmarkedPart) :
    y.tag = x.tag ∧ y.kind = x.kind ∧ y.requested = x.requested ∧ y.transfer = x.transfer ∧ y.done = x.done ∧
      y.failure = x.failure ∧ y.phase = x.phase ∧ y.outcome = x.outcome := by
  simp only [Txn.unmarkedPart, Txn.fixedPart, Txn.mk.injEq] at h
  obtain ⟨htag, hkind, -, -, hrequested, htransfer, -, -, hdone, hfailure, hphase, -, houtcome⟩ := h
  exact ⟨htag, hkind, hrequested, htransfer, hdone, hfailure, hphase, houtcome⟩

theorem addDone_txn? (t : Fin 16) (k : Nat) {s : State} {x : Txn} (hx : s.txn? t = some x) :
    (addDone t k s).txn? t = some { x with done := x.done + k } := by
  rw [addDone, updTxn_txn? t (f := fun x => { x with done := x.done + k }) (fun _ => rfl), hx]
  rfl

theorem setDone_txn? {t : Fin 16} {s : State} {x : Txn} (hx : s.txn? t = some x) :
    (setDone t s).txn? t = some { x with phase := .done, outcome := some x.finalOutcome } := by
  rw [setDone, updTxn_txn? t (f := fun x => { x with phase := .done, outcome := some x.finalOutcome }) (fun _ => rfl), hx]
  rfl

/-- A record after an event of its work, where it waits on what `waits` says (R23, R26). -/
def Txn.progressed (waits : Bool) (x : Txn) : Txn :=
  if (x.phase = .active ∧ x.transfer = some x.done) ∨ (x.phase = .draining ∧ waits = false)
  then { x with phase := .done, outcome := some x.finalOutcome } else x

theorem progress_txn? {t : Fin 16} {s : State} {x : Txn} (hx : s.txn? t = some x) :
    (progress t s).txn? t = some (x.progressed (s.stillWaits t)) := by
  have hdone := setDone_txn? hx
  unfold progress Txn.progressed
  rw [hx]
  dsimp only
  cases hphase : x.phase with
  | active => by_cases h : x.transfer = some x.done <;> simp [h, hdone, hx]
  | draining => cases h : s.stillWaits t <;> simp [hdone, hx]
  | done => simp [hx]

theorem State.OthersKept.progress (tag : Fin 16) (s : State) : s.OthersKept (progress tag s) tag := by
  have hdone : s.OthersKept (setDone tag s) tag := .of_updTxn rfl
  unfold Machine.progress
  split
  · exact .refl s tag
  · split
    · split
      · exact hdone
      · exact .refl s tag
    · split
      · exact .refl s tag
      · exact hdone
    · exact .refl s tag

theorem State.OthersKept.addDone (tag : Fin 16) (k : Nat) (s : State) : s.OthersKept (addDone tag k s) tag := .of_updTxn rfl

/-- An event of its work leaves the terms, the failure and the count of a record. -/
theorem Txn.progressed_fields (waits : Bool) (x : Txn) : (x.progressed waits).done = x.done ∧
    (x.progressed waits).failure = x.failure ∧ (x.progressed waits).tag = x.tag := by
  unfold Txn.progressed
  split <;> exact ⟨rfl, rfl, rfl⟩

/-- An ACTIVE record with every sector done completes (R26). -/
theorem Txn.progressed_active {x : Txn} (hactive : x.phase = .active) (hfresh : x.failure = none) (waits : Bool) :
    (x.transfer = some x.done → (x.progressed waits).phase = .done ∧
      (x.progressed waits).outcome = some (if x.transfer = x.requested then .good else .short)) ∧
    (x.transfer ≠ some x.done → x.progressed waits = x) := by
  refine ⟨fun h => ?_, fun h => ?_⟩
  · rw [Txn.progressed, if_pos (.inl ⟨hactive, h⟩)]
    exact ⟨rfl, by simp [Txn.finalOutcome, hfresh]⟩
  · rw [Txn.progressed, if_neg (by simp [hactive, h])]

/-- A DRAINING record completes with its recorded failure when it waits on nothing (R23). -/
theorem Txn.progressed_draining {x : Txn} (hdraining : x.phase = .draining) {f : Failure} (hf : x.failure = some f)
    {waits : Bool} {p : Prop} (h : waits = true ↔ p) : (x.progressed waits).MovesOn p f.outcome := by
  refine ⟨fun hp => ?_, fun hp => ?_⟩
  · rw [Txn.progressed, if_neg (by simp [hdraining, h.2 hp])]
    exact hdraining
  · have hw : waits = false := by rw [← Bool.not_eq_true, h]; exact hp
    rw [Txn.progressed, if_pos (.inr ⟨hdraining, hw⟩)]
    exact ⟨rfl, by simp [Txn.finalOutcome, hf]⟩

/-- A failed record has no sector of it left to complete it: an event of its work leaves it as its failure has. -/
theorem Txn.progressed_failed {x : Txn} {f : Failure} {n : Nat} {waits : Bool} :
    (x.failed f n waits).progressed waits = x.failed f n waits := by
  cases waits <;> simp [Txn.progressed, Txn.failed]

/-- What follows an event leaves the record as it moved on. -/
theorem Txn.MovesOn.of_fixedPart {x y : Txn} {p : Prop} {o : Result} (h : x.MovesOn p o) (hyx : y.fixedPart = x.fixedPart) :
    y.MovesOn p o := by
  obtain ⟨-, -, -, -, -, -, -, -, hphase, -, houtcome⟩ := Txn.fields_of_fixedPart hyx
  simpa [Txn.MovesOn, hphase, houtcome] using h

/-- A failure and what follows it (R23, R24): the record stands failed, moved on by the work it keeps. -/
theorem settle_failTxn_txn? {t : Fin 16} {s : State} {x : Txn} (hx : s.txn? t = some x) (hactive : x.phase = .active)
    (hfresh : x.failure = none) (f : Failure) :
    ∃ y, (settle (failTxn t f s)).txn? t = some y ∧ y.failure = some f ∧ y.done = x.done ∧
      y.MovesOn (s.KeepsWork t) f.outcome := by
  obtain ⟨y, hy, hyx⟩ := settle_txn?_some (failTxn_txn? hx hactive hfresh f)
  obtain ⟨-, -, -, -, -, -, hdone, hfailure, -, -, -⟩ := Txn.fields_of_fixedPart hyx
  exact ⟨y, hy, hfailure, hdone, (Txn.failed_movesOn f _ (State.stillWaits_iff s t) x).of_fixedPart hyx⟩

end Sys2Proof.Machine


/-! PROOF. Delivery runs (R25, R29, R54, R55): which jobs the closure of an event lets deliver, and what the records sent of a
run do. -/

namespace Sys2Proof.Machine

open Sys2Proof

/-! ## The jobs that enter DELIVERING (R54) -/

/-- Each job of `t` in DELIVERING holds a buffer of a job of `s` in DELIVERING. -/
def DeliversFrom (s t : State) : Prop :=
  ∀ k ∈ t.ubp.jobs, k.state = .delivering → ∃ j ∈ s.ubp.jobs, j.buf = k.buf ∧ j.state = .delivering

theorem DeliversFrom.refl (s : State) : DeliversFrom s s := fun k hk hstate => ⟨k, hk, rfl, hstate⟩

theorem DeliversFrom.of_map {s t : State} {f : Job → Job} (hjobs : t.ubp.jobs = s.ubp.jobs.map f)
    (hf : ∀ j, (f j).buf = j.buf ∧ ((f j).state = .delivering → j.state = .delivering)) : DeliversFrom s t := by
  intro k hk hstate
  obtain ⟨j, hj, rfl⟩ := List.mem_map.1 (hjobs ▸ hk)
  exact ⟨j, hj, (hf j).1.symm, (hf j).2 hstate⟩

theorem DeliversFrom.of_same {s t : State} (hjobs : t.ubp.jobs = s.ubp.jobs) : DeliversFrom s t := by
  intro k hk hstate
  exact ⟨k, hjobs ▸ hk, rfl, hstate⟩

theorem JobState.taken_delivering {x : JobState} (h : x.taken = .delivering) : x = .delivering := by
  cases x <;> simp_all [JobState.taken]

theorem cipherTake_jobs (s : State) : (cipherTake s).ubp.jobs = s.ubp.jobs ∨
    ∃ j, s.nextCipher = some j ∧ (∀ k ∈ s.ubp.jobs, k.ciphering = false) ∧ s.ce.key.isSome = true ∧
      (cipherTake s).ubp.jobs = s.ubp.jobs.map (fun k => if k.buf = j.buf then { k with state := k.state.taken } else k) := by
  unfold cipherTake
  split
  · exact .inl rfl
  next h =>
    split
    · exact .inl rfl
    next j hj =>
      obtain ⟨hkey, hidle⟩ := not_or.1 h
      exact .inr ⟨j, hj, by simpa using hidle, by simpa [Option.isSome_iff_ne_none] using hkey, rfl⟩

theorem Job.started_state (b : Fin 8) (x : Txn) (u : Nat) :
    (Job.started b x u).state = .dataQueue ∨ (Job.started b x u).state = .mediaRead := by
  unfold Job.started
  dsimp only
  split <;> simp

theorem deliversFrom_preparing : Preparing DeliversFrom where
  refl := .refl
  trans h1 h2 k hk hstate := by
    obtain ⟨j, hj, hbuf, hstate'⟩ := h2 k hk hstate
    obtain ⟨i, hi, hbuf', hstate''⟩ := h1 j hj hstate'
    exact ⟨i, hi, hbuf'.trans hbuf, hstate''⟩
  startJob b x s hb _ k hk hstate := by
    rw [startJob_jobs (State.freeBuffer_spec hb), List.mem_append, List.mem_singleton] at hk
    rcases hk with hk | rfl
    · exact ⟨k, hk, rfl, hstate⟩
    · rcases Job.started_state b x (x.nextUnit.getD 0) with h | h <;> simp [h] at hstate
  dataWaits s := .of_map (dataWaits_jobs s) fun j => by split <;> simp
  releaseHold s := .of_same (by simp)
  issue d r s _ _ := by
    obtain ⟨f, hf, hstays⟩ := issue_jobs d r s
    refine .of_map hf fun j => ?_
    obtain ⟨hbuf, -, -, -, -, -, hstate, -, -⟩ := (hstays j).fields
    exact ⟨hbuf, fun h => hstate ▸ h⟩
  cipherTake s := by
    rcases cipherTake_jobs s with h | ⟨j, -, -, -, h⟩
    · exact .of_same h
    · refine .of_map h fun k => ?_
      split
      · exact ⟨rfl, JobState.taken_delivering⟩
      · exact ⟨rfl, id⟩

/-- The grant to a delivery run lets its job deliver (R55). -/
theorem grant_jobs (s : State) : (grant s).ubp.jobs = s.ubp.jobs ∨ ∃ t j, s.deliverable t = some j ∧
    (grant s).ubp.jobs = s.ubp.jobs.map (fun k => if k.buf = j.buf then { k with state := .delivering } else k) := by
  unfold grant startRun
  dsimp only
  split
  · exact .inl rfl
  · split
    next t _ =>
      split
      next j hj => exact .inr ⟨t, j, hj, rfl⟩
      next => exact .inl rfl
    next => exact .inl rfl

/-- The grant lets the lowest unit of its transaction deliver (R54). -/
theorem grant_deliversLowest {s : State} (hb : s.BuffersOk) : s.DeliversLowest (grant s) := by
  intro k hk hstate hnew i hi hwith
  obtain ⟨howner, habandoned, -⟩ := hwith
  rcases grant_jobs s with hsame | ⟨t, j, hj, hmap⟩
  · exact absurd hstate (hnew k (hsame ▸ hk) rfl)
  · obtain ⟨hmem, hof, -, hlowest⟩ := State.deliverable_spec hj
    have hkeep (a : Job) (x : JobState) : (if a.buf = j.buf then { a with state := x } else a).unit = a.unit ∧
        (if a.buf = j.buf then { a with state := x } else a).owner = a.owner ∧
        (if a.buf = j.buf then { a with state := x } else a).abandoned = a.abandoned := by
      split <;> exact ⟨rfl, rfl, rfl⟩
    rw [hmap, List.mem_map] at hk hi
    obtain ⟨k', hk', rfl⟩ := hk
    obtain ⟨i', hi', rfl⟩ := hi
    obtain rfl : k' = j := by
      by_contra hne
      have hbuf : k'.buf ≠ j.buf := fun hbuf => hne (hb.eq_of_buf hk' hmem hbuf)
      rw [if_neg hbuf] at hstate hnew
      exact hnew k' hk' rfl hstate
    rw [(hkeep i' _).2.1, (hkeep k' _).2.1] at howner
    rw [(hkeep i' _).2.2] at habandoned
    rw [(hkeep i' _).1, (hkeep k' _).1]
    obtain ⟨htag, -⟩ : k'.owner = t ∧ k'.abandoned = false := by simpa [Job.isOf] using hof
    exact hlowest i' hi' (by simp [Job.isOf, howner, htag, habandoned])

theorem beforeGrant_buffersOk {s : State} (h : s.BuffersOk) : (beforeGrant s).BuffersOk :=
  (follows_closing.beforeGrant s).buffers h

/-- What follows an event lets a job deliver only on the lowest unit of its transaction (R54). -/
theorem settle_deliversLowest {s : State} (hb : s.BuffersOk) : s.DeliversLowest (settle s) := by
  intro k hk hstate hnew i hi hwith
  rw [settle_eq_grant, (judge_frame _).2.2.2.2.1] at hk hi
  refine grant_deliversLowest (beforeGrant_buffersOk hb) k hk hstate (fun j hj hbuf hdelivering => ?_) i hi hwith
  obtain ⟨j', hj', hbuf', hdelivering'⟩ := deliversFrom_preparing.beforeGrant s j hj hdelivering
  exact hnew j' hj' (hbuf'.trans hbuf) hdelivering'

theorem State.DeliversLowest.before {r s t : State} (h : s.DeliversLowest t) (hfrom : DeliversFrom r s) : r.DeliversLowest t :=
  fun k hk hstate hnew => h k hk hstate fun j hj hbuf hdelivering => by
    obtain ⟨j', hj', hbuf', hdelivering'⟩ := hfrom j hj hdelivering
    exact hnew j' hj' (hbuf'.trans hbuf) hdelivering'

/-! ## The states of the jobs in one buffer (R48, R49) -/

/-- The states are ones that the closure of an event does not lead out of (R51, R55, R58). -/
structure JobStates (P : JobState → Prop) : Prop where
  waits : P .dataQueue → P .dataWait
  taken : ∀ x, P x → P x.taken
  delivers : P .deliverWait → P .delivering

/-- The jobs in the buffer `b` are in these states, those too that may start in it. -/
structure State.HoldsIn (s : State) (b : Fin 8) (P : JobState → Prop) : Prop where
  bound : (P .dataQueue ∧ P .mediaRead) ∨ ∃ k ∈ s.ubp.jobs, k.buf = b
  states : ∀ k ∈ s.ubp.jobs, k.buf = b → P k.state

theorem State.HoldsIn.of_map {s t : State} {b : Fin 8} {P : JobState → Prop} {f : Job → Job} (h : s.HoldsIn b P)
    (hjobs : t.ubp.jobs = s.ubp.jobs.map f)
    (hf : ∀ j ∈ s.ubp.jobs, (f j).buf = j.buf ∧ (j.buf = b → P j.state → P (f j).state)) : t.HoldsIn b P where
  bound := h.bound.imp id fun ⟨k, hk, hbuf⟩ =>
    ⟨f k, hjobs ▸ List.mem_map_of_mem hk, (hf k hk).1.trans hbuf⟩
  states k hk hbuf := by
    obtain ⟨j, hj, rfl⟩ := List.mem_map.1 (hjobs ▸ hk)
    obtain ⟨hbuf', hstate⟩ := hf j hj
    have hjb : j.buf = b := hbuf'.symm.trans hbuf
    exact hstate hjb (h.states j hj hjb)

theorem State.HoldsIn.of_same {s t : State} {b : Fin 8} {P : JobState → Prop} (h : s.HoldsIn b P)
    (hjobs : t.ubp.jobs = s.ubp.jobs) : t.HoldsIn b P := ⟨by rw [hjobs]; exact h.bound, by rw [hjobs]; exact h.states⟩

theorem State.nextCipher_queued {s : State} {j : Job} (h : s.nextCipher = some j) : j ∈ s.ubp.jobs ∧ j.queued = true := by
  obtain ⟨x, -, hx⟩ := List.exists_of_findSome?_eq_some h
  obtain ⟨hmem, -⟩ := lowestJob_spec hx
  obtain ⟨hmem, -⟩ := List.mem_filter.1 hmem
  exact List.mem_filter.1 hmem

theorem holdsIn_closing (b : Fin 8) {P : JobState → Prop} (hP : JobStates P) :
    Closing (fun s t => s.HoldsIn b P → t.HoldsIn b P) where
  refl _ := id
  trans h1 h2 := h2 ∘ h1
  startJob b' x s hb' _ h := by
    have hjobs := startJob_jobs (State.freeBuffer_spec hb') x (x.nextUnit.getD 0)
    refine ⟨h.bound.imp id fun ⟨k, hk, hbuf⟩ => ⟨k, by rw [hjobs]; exact List.mem_append_left _ hk, hbuf⟩, fun k hk hbuf => ?_⟩
    rw [hjobs, List.mem_append, List.mem_singleton] at hk
    rcases hk with hk | rfl
    · exact h.states k hk hbuf
    · rcases h.bound with ⟨hqueue, hread⟩ | ⟨k, hk, hkb⟩
      · rcases Job.started_state b' x (x.nextUnit.getD 0) with h | h <;> simpa only [h]
      · exact absurd (hkb.trans hbuf.symm) (State.freeBuffer_spec hb' k hk)
  dataWaits s h := h.of_map (dataWaits_jobs s) fun j _ => by
    split
    next hmay =>
      refine ⟨rfl, fun _ hj => hP.waits ?_⟩
      rwa [((mayWait_iff _ _).1 hmay).1] at hj
    next => exact ⟨rfl, fun _ => id⟩
  releaseHold s h := h.of_same (by simp)
  issue d r s _ _ h := by
    obtain ⟨f, hf, hstays⟩ := issue_jobs d r s
    refine h.of_map hf fun j _ => ?_
    obtain ⟨hbuf, -, -, -, -, -, hstate, -, -⟩ := (hstays j).fields
    exact ⟨hbuf, fun _ hj => by rwa [hstate]⟩
  cipherTake s h := by
    rcases cipherTake_jobs s with hsame | ⟨j, hj, -, -, hmap⟩
    · exact h.of_same hsame
    · refine h.of_map hmap fun k _ => ?_
      split
      · exact ⟨rfl, fun _ => hP.taken _⟩
      · exact ⟨rfl, fun _ => id⟩
  grant s h := by
    rcases grant_jobs s with hsame | ⟨t, j, hj, hmap⟩
    · exact h.of_same hsame
    · obtain ⟨hmem, -, hstate, -⟩ := State.deliverable_spec hj
      refine h.of_map hmap fun k _ => ?_
      split
      next hbuf =>
        refine ⟨rfl, fun hkb _ => hP.delivers ?_⟩
        rw [← hstate]
        exact h.states j hmem (hbuf.symm.trans hkb)
      next => exact ⟨rfl, fun _ => id⟩
  judge s h := h.of_same (by simp)

theorem settle_holdsIn {s : State} {b : Fin 8} {P : JobState → Prop} (hP : JobStates P) (h : s.HoldsIn b P) :
    (settle s).HoldsIn b P := (holdsIn_closing b hP).settle s h

/-- A job that has just started waits for its data or its page. -/
def JobState.Starting (x : JobState) : Prop := x = .dataQueue ∨ x = .dataWait ∨ x = .mediaRead

/-- A buffer freed by an event holds after it no job but one that has just started. -/
theorem settle_startingIn {s : State} {b : Fin 8} (h : ∀ k ∈ s.ubp.jobs, k.buf ≠ b) :
    ∀ k ∈ (settle s).ubp.jobs, k.buf = b → k.state.Starting := by
  have hstates : JobStates JobState.Starting :=
    ⟨fun _ => .inr (.inl rfl), fun x hx => by rcases hx with rfl | rfl | rfl <;> simp [JobState.Starting, JobState.taken],
      fun hx => by simp [JobState.Starting] at hx⟩
  exact (settle_holdsIn hstates ⟨.inl ⟨.inl rfl, .inr (.inr rfl)⟩, fun k hk hbuf => absurd hbuf (h k hk)⟩).states

/-! ## The transaction whose run is granted (R29) -/

theorem State.readyItem_delivery {s : State} {x : Txn} {t : Fin 16} (h : s.readyItem x = some (.delivery t)) :
    x.tag = t ∧ x.phase = .active := by
  have htag := State.readyItem_holder h
  refine ⟨by simpa [Output.holder, eq_comm] using htag, ?_⟩
  unfold State.readyItem at h
  split at h
  · cases h
  · cases h
  · assumption

/-- A delivery run is granted for an ACTIVE record. -/
theorem State.nextOutput_delivery {s : State} {t : Fin 16} (h : s.nextOutput = .delivery t) :
    ∃ x ∈ s.txns, x.tag = t ∧ x.phase = .active := by
  unfold State.nextOutput at h
  split at h
  · cases h
  · cases hfound : s.txns.findSome? s.readyItem with
    | none => simp [hfound] at h
    | some o =>
      obtain ⟨x, hx, hitem⟩ := List.exists_of_findSome?_eq_some hfound
      obtain rfl : o = .delivery t := by simpa [hfound] using h
      exact ⟨x, hx, State.readyItem_delivery hitem⟩

/-- An output that an event leaves free is granted to a delivery run only for an ACTIVE record. -/
theorem settle_output_delivery {s : State} (hfree : s.uli.output = .free) {t : Fin 16}
    (h : (settle s).uli.output = .delivery t) : ∃ x ∈ s.txns, x.tag = t ∧ x.phase = .active := by
  have houtput : (grant (beforeGrant s)).uli.output = (beforeGrant s).nextOutput := by
    rw [grant, if_neg (by simpa using hfree)]
    simp
  rw [settle_eq_grant, (judge_frame _).2.1, houtput] at h
  obtain ⟨y, hy, htag, hactive⟩ := State.nextOutput_delivery h
  obtain ⟨x, hx, hxy⟩ := mem_of_fixedPart (follows_closing.beforeGrant s).records.symm hy
  obtain ⟨htag', -, -, -, -, -, -, -, hphase, -, -⟩ := Txn.fields_of_fixedPart hxy
  exact ⟨x, hx, htag'.trans htag, hphase.trans hactive⟩

/-! ## The intake of a failed record (R24) -/

theorem disposeWork_intakes (x : Txn) (s : State) : (disposeWork x s).uli.intakes =
    if x.isUserTransfer then s.uli.intakes.filter (fun i => i.tag != x.tag) else s.uli.intakes := by
  unfold disposeWork
  split
  next hflush => simp [Txn.isUserTransfer, hflush]
  next =>
    split
    · unfold withdrawWanted
      split <;> simp [freeOutput, closeIntake]
    · rfl

/-- A failure closes the intake of its transaction, a READ or WRITE on the user volume (R24). -/
theorem failTxn_intakes {t : Fin 16} {s : State} {x : Txn} (hx : s.txn? t = some x) (hactive : x.phase = .active)
    (hfresh : x.failure = none) (f : Failure) : (failTxn t f s).uli.intakes =
      if x.isUserTransfer then s.uli.intakes.filter (fun i => i.tag != t) else s.uli.intakes := by
  have htag := State.tag_of_txn? hx
  rw [failTxn_of_active hx hactive hfresh]
  split <;> simp [setDone, disposeWork_intakes, htag]

theorem intake?_of_filter {s : State} {t : Fin 16} (h : s.uli.intakes.filter (fun i => i.tag != t) = s.uli.intakes) :
    s.intake? t = none := by
  rw [State.intake?, ← h, List.find?_eq_none]
  intro i hi
  simpa using (List.mem_filter.1 hi).2

/-! ## DATA_WANTED and the data-wait expiry (R30, R32) -/

theorem dataWantedSent_opens {s : State} {tag : Fin 16} {j : Job} (hrun : s.power = .running)
    (houtput : s.uli.output = .dataWanted tag) (hj : s.waitingJob tag = some j) (hnone : s.intake? tag = none) :
    ∃ t, exec .dataWantedSent s = .next t ∧
      t.uli.sent = .dataWanted tag (8 * j.unit + j.first.val) j.count :: s.uli.sent ∧
      t.intake? tag = some { tag := tag, owed := j.count, next := j.first, timer := some 50 } ∧ t.GrantedInOrder := by
  refine ⟨settle (freeOutput ((sendUp (.dataWanted tag (8 * j.unit + j.first.val) j.count) s).setUli
    { (sendUp (.dataWanted tag (8 * j.unit + j.first.val) j.count) s).uli with
      intakes := s.uli.intakes ++ [{ tag := tag, owed := j.count, next := j.first, timer := some 50 }] })), ?_, ?_, ?_,
    settle_inOrder rfl⟩
  · simp [exec, execDataWantedSent, State.whenRunning, hrun, dataWantedSent, houtput, hj, sendUp]
  · simp [freeOutput, sendUp]
  · have hnone : s.uli.intakes.find? (fun i => i.tag == tag) = none := hnone
    simp [State.intake?, freeOutput, List.find?_append, hnone]

theorem dataWaitExpiry_fails {s : State} {tag : Fin 16} {i : Intake} {x : Txn} (hrun : s.power = .running)
    (hi : s.intake? tag = some i) (hdue : i.timer = some 0) (hx : s.txn? tag = some x) (hactive : x.phase = .active)
    (hfresh : x.failure = none) :
    ∃ t y, exec (.dataWaitExpiry tag) s = .next t ∧ t.intake? tag = none ∧ s.OthersKept t tag ∧
      t.txn? tag = some y ∧ y.failure = some .dataTimeout ∧ y.done = x.done ∧ y.MovesOn (s.KeepsWork tag) .dataTimeout := by
  obtain ⟨y, hy, hfailure, hdone, hmoves⟩ := settle_failTxn_txn? (s := closeIntake tag s) (t := tag) (x := x) hx hactive
    hfresh .dataTimeout
  refine ⟨settle (failTxn tag .dataTimeout (closeIntake tag s)), y, ?_, ?_, ?_, hy, hfailure, hdone, hmoves⟩
  · simp [exec, execDataWaitExpiry, State.whenRunning, hrun, dataWaitExpired, hi, hdue, Timer.due]
  · have hclosed : (closeIntake tag s).uli.intakes.filter (fun i => i.tag != tag) = (closeIntake tag s).uli.intakes := by
      simp [closeIntake, List.filter_filter]
    rw [settle_intake?]
    refine intake?_of_filter ?_
    rw [failTxn_intakes (s := closeIntake tag s) hx hactive hfresh]
    split <;> simp only [hclosed]
  · exact ((State.OthersKept.of_same (t := closeIntake tag s) rfl tag).trans (.failTxn tag _ _)).settle

/-- Settles O35: an intake opens with its DATA_WANTED, and its expiry is a failure. -/
theorem intakeOpensAndExpires : Obligations.IntakeOpensAndExpires := by
  intro s tag hrun
  refine ⟨fun j houtput hj hnone => dataWantedSent_opens hrun houtput hj hnone,
    fun i x hi hdue hx hactive hfresh => dataWaitExpiry_fails hrun hi hdue hx hactive hfresh, fun i n hi hn => ?_⟩
  simp [exec, execDataWaitExpiry, State.whenRunning, hrun, dataWaitExpired, hi, hn, Timer.due]

end Sys2Proof.Machine


/-! PROOF. The READ_DATA records of the overlay and of delivery runs (R13, R14, R25, R29, R55). -/

namespace Sys2Proof.Machine

open Sys2Proof

/-! ## The overlay (R13, R14) -/

/-- The state that has sent a record of READ_DATA of a transaction and counted its sector (R25). -/
def State.counted (s : State) (t : Fin 16) (r : UpRecord) : State := addDone t 1 (sendUp r s)

@[simp] theorem State.counted_uli (s : State) (t : Fin 16) (r : UpRecord) :
    (s.counted t r).uli = { s.uli with sent := r :: s.uli.sent } := rfl

@[simp] theorem State.counted_same (s : State) (t : Fin 16) (r : UpRecord) : (s.counted t r).ubp = s.ubp ∧
    (s.counted t r).dli = s.dli ∧ (s.counted t r).ind = s.ind ∧ (s.counted t r).ac = s.ac := ⟨rfl, rfl, rfl, rfl⟩

theorem State.counted_txn? {s : State} {t : Fin 16} {x : Txn} (hx : s.txn? t = some x) (r : UpRecord) :
    (s.counted t r).txn? t = some { x with done := x.done + 1 } :=
  addDone_txn? t 1 (s := sendUp r s) hx

theorem State.OthersKept.counted (s : State) (t : Fin 16) (r : UpRecord) : s.OthersKept (s.counted t r) t :=
  (State.OthersKept.of_same (t := sendUp r s) rfl t).trans (.addDone t 1 _)

theorem exec_overlayReadDataSent {s : State} {tag : Fin 16} {x : Txn} {lba m : Nat} (hrun : s.power = .running)
    (houtput : s.uli.output = .overlay tag) (hx : s.txn? tag = some x) (hlba : x.lba = some lba)
    (htransfer : x.transfer = some m) :
    exec .overlayReadDataSent s = .next (
      if x.phase = .active ∧ x.done + 1 < m
      then s.counted tag (.readData tag (lba + x.done) (overlaySector (lba + x.done)))
      else settle (progress tag (freeOutput
        (s.counted tag (.readData tag (lba + x.done) (overlaySector (lba + x.done))))))) := by
  simp only [exec, execOverlayReadDataSent, State.whenRunning, hrun, if_true, overlaySent, houtput, hx, Txn.first, hlba, Txn.m,
    htransfer, Option.getD_some]
  rfl

/-- Settles O37: the run goes on, or ends with the progress of its transaction and the grant that follows. -/
theorem overlayReadDataSent : Obligations.OverlayReadDataSent := by
  intro s tag x lba m hrun houtput hx hlba htransfer
  obtain ⟨u, hu⟩ : ∃ u, u = s.counted tag (.readData tag (lba + x.done) (overlaySector (lba + x.done))) := ⟨_, rfl⟩
  have hexec := exec_overlayReadDataSent hrun houtput hx hlba htransfer
  have hxu : u.txn? tag = some { x with done := x.done + 1 } := by rw [hu]; exact State.counted_txn? hx _
  have hothers : s.OthersKept u tag := by rw [hu]; exact .counted s tag _
  have hsent : u.uli = { s.uli with
      sent := .readData tag (lba + x.done) (overlaySector (lba + x.done)) :: s.uli.sent } := by rw [hu]; rfl
  rw [← hu] at hexec
  by_cases hon : x.phase = .active ∧ x.done + 1 < m
  · rw [if_pos hon] at hexec
    refine ⟨u, _, hexec, by rw [hsent]; rfl, hxu, rfl, rfl, hothers, fun _ _ => ⟨by rw [hsent]; exact houtput, hon.1⟩,
      fun h => ?_, fun _ _ h => ?_, fun f h => ?_⟩
    · exact absurd hon (by rcases h with h | h <;> simp [h])
    · omega
    · simp [hon.1] at h
  · rw [if_neg hon] at hexec
    have hxp := progress_txn? (s := freeOutput u) (t := tag) hxu
    obtain ⟨y, hy, hyx⟩ := settle_txn?_some hxp
    obtain ⟨hcount, hfailed, -⟩ := Txn.progressed_fields ((freeOutput u).stillWaits tag) { x with done := x.done + 1 }
    obtain ⟨-, -, -, -, -, -, hdone, hfailure, hphase, -, houtcome⟩ := Txn.fields_of_fixedPart hyx
    have hfree : (progress tag (freeOutput u)).uli.output = .free := by simp [freeOutput]
    refine ⟨_, y, hexec, by simp [freeOutput, hsent, overlaySector], hy, hdone.trans hcount, hfailure.trans hfailed,
      ((hothers.trans (.of_same (t := freeOutput u) rfl tag)).trans (.progress tag _)).settle,
      fun hactive hless => absurd ⟨hactive, hless⟩ hon, fun _ => settle_inOrder hfree, fun hactive hfresh hm => ?_,
      fun f hdraining hf => ?_⟩
    · obtain ⟨hcomplete, -⟩ := Txn.progressed_active (x := { x with done := x.done + 1 }) hactive hfresh
        ((freeOutput u).stillWaits tag)
      obtain ⟨hp, ho⟩ := hcomplete (by simp [htransfer, hm])
      refine ⟨hphase.trans hp, houtcome.trans (ho.trans ?_)⟩
      simp only [htransfer, eq_comm]
    · refine (Txn.progressed_draining (x := { x with done := x.done + 1 }) hdraining hf ?_).of_fixedPart hyx
      rw [State.stillWaits_iff, hu]
      exact Iff.rfl

/-! ## Delivery runs (R25, R55) -/

/-- The record of READ_DATA that a delivery run sends next (R55). -/
def State.runRecord (s : State) (t : Fin 16) (j : Job) : UpRecord :=
  .readData t (8 * j.unit + (j.first.val + j.sent)) (bufferSector j.buf (j.first.val + j.sent) s)

/-- The run of `j` over: its job ended, the output free, and ACTIVITY requested for a unit moved (R55, R157). -/
def State.runOver (s : State) (t : Fin 16) (j : Job) : State :=
  if j.count ≤ j.sent + 1 then activityRequest (freeOutput (endJob j (s.counted t (s.runRecord t j))))
  else freeOutput (endJob j (s.counted t (s.runRecord t j)))

theorem exec_readDataSent {s : State} {tag : Fin 16} {j : Job} {x : Txn} (hrun : s.power = .running)
    (houtput : s.uli.output = .delivery tag) (hj : s.deliveringJob tag = some j) (hx : s.txn? tag = some x) :
    exec .readDataSent s = .next (
      if j.count ≤ j.sent + 1 ∨ x.phase ≠ .active then settle (progress tag (s.runOver tag j))
      else updJob j.buf (fun y => { y with sent := y.sent + 1 }) (s.counted tag (s.runRecord tag j))) := by
  have hactive : s.isActive tag = (x.phase == .active) := by simp [State.isActive, hx]
  simp only [exec, execReadDataSent, State.whenRunning, hrun, if_true, readDataSent, houtput, hj, hactive]
  unfold State.runOver
  by_cases hlast : j.count ≤ j.sent + 1
  · simp [hlast]
    rfl
  · by_cases hphase : x.phase = .active <;> simp [hlast, hphase] <;> rfl

/-- The end of a run (R25, R55): the sector counted, the job gone, the output free. -/
theorem State.runOver_spec {s : State} (t : Fin 16) (j : Job) : (s.runOver t j).uli = { s.uli with
      sent := s.runRecord t j :: s.uli.sent, output := .free } ∧
    (s.runOver t j).dli = s.dli ∧ (s.runOver t j).ubp.jobs = s.ubp.jobs.filter (fun k => k.buf != j.buf) ∧
    (s.runOver t j).txns.map Txn.fixedPart = (s.counted t (s.runRecord t j)).txns.map Txn.fixedPart := by
  have hend := endJob_fixedPart j (s.counted t (s.runRecord t j))
  have hjobs := endJob_jobs j (s.counted t (s.runRecord t j))
  unfold State.runOver
  split <;> refine ⟨?_, ?_, ?_, ?_⟩ <;> simp [freeOutput, hend, hjobs]

/-- What a run that is over waits on is what its transaction waits on less the job and the output (R23). -/
theorem State.runOver_keepsWork (s : State) (t u : Fin 16) (j : Job) :
    (s.runOver t j).KeepsWork u ↔ ((s.lessBuffer j.buf).lessOutput).KeepsWork u := by
  obtain ⟨huli, hdli, hjobs, -⟩ := s.runOver_spec t j
  unfold State.KeepsWork
  rw [huli, hdli, hjobs]
  exact Iff.rfl

/-- A unit moved requests ACTIVITY, which an empty slot shows where the rest has ended (R157). -/
theorem State.runOver_activity {s : State} (t : Fin 16) (j : Job) (hlast : j.count ≤ j.sent + 1) (hslot : s.ind.slot = none)
    (hrest : s.ind.rest = none) (hawake : s.ac.standby = false) : (s.runOver t j).ind.slot = some .activity := by
  rw [State.runOver, if_pos hlast, activityRequest, if_neg]
  · simp
  · simp [freeOutput, hslot, hrest, hawake]

/-- A run goes on with its job's next sector (R55). -/
theorem deliveringJob_runOn {s : State} {t : Fin 16} {j : Job} (h : s.deliveringJob t = some j) :
    (updJob j.buf (fun y => { y with sent := y.sent + 1 }) s).deliveringJob t = some { j with sent := j.sent + 1 } := by
  unfold State.deliveringJob
  rw [updJob_jobs, List.find?_map]
  have hsame : ((fun k : Job => k.isOf t && k.state == .delivering) ∘
      fun k => if k.buf = j.buf then { k with sent := k.sent + 1 } else k) = fun k => k.isOf t && k.state == .delivering := by
    funext k
    simp only [Function.comp_apply]
    split <;> rfl
  rw [hsame, show s.ubp.jobs.find? (fun k => k.isOf t && k.state == .delivering) = some j from h]
  simp

/-- The run of an ACTIVE READ goes on (R55). -/
theorem runOn_deliversLowest (s : State) (tag : Fin 16) (j : Job) :
    s.DeliversLowest (updJob j.buf (fun y => { y with sent := y.sent + 1 }) (s.counted tag (s.runRecord tag j))) := by
  intro k hk hstate hnew
  have hfrom : DeliversFrom s (updJob j.buf (fun y => { y with sent := y.sent + 1 }) (s.counted tag (s.runRecord tag j))) :=
    .of_map (updJob_jobs _ _ _) fun k => by split <;> simp
  obtain ⟨i, hi, hbuf, hdelivering⟩ := hfrom k hk hstate
  exact absurd hdelivering (hnew i hi hbuf)

/-- A record of a delivery run counts its sector, and at the end of the run its transaction moves on and the output is
granted. -/
theorem readDataSent_spec : Obligations.ReadDataSent := by
  intro s tag j x hrun htags houtput hj hx
  have hexec := exec_readDataSent hrun houtput hj hx
  have hxu := State.counted_txn? hx (s.runRecord tag j)
  by_cases hover : j.count ≤ j.sent + 1 ∨ x.phase ≠ .active
  · rw [if_pos hover] at hexec
    obtain ⟨huli, -, hjobs, hparts⟩ := s.runOver_spec tag j
    obtain ⟨w, hw, hwx⟩ := txn?_of_fixedPart hparts hxu
    obtain ⟨htag, -, -, -, hrequested, htransfer, hcount, hfailed, hphase, -, houtcome⟩ := Txn.fields_of_fixedPart hwx
    have hwp := progress_txn? hw
    obtain ⟨hcount', hfailed', -⟩ := Txn.progressed_fields ((s.runOver tag j).stillWaits tag) w
    obtain ⟨y, hy, hyw⟩ := settle_txn?_some hwp
    obtain ⟨-, -, -, -, -, -, hdone', hfailure', hphase', -, houtcome'⟩ := Txn.fields_of_fixedPart hyw
    have hgone : ∀ k ∈ (progress tag (s.runOver tag j)).ubp.jobs, k.buf ≠ j.buf := by
      simp only [progress_frame, hjobs, List.mem_filter, bne_iff_ne]
      exact fun k hk => hk.2
    have hstarting := settle_startingIn hgone
    have hended : ∀ k ∈ (settle (progress tag (s.runOver tag j))).ubp.jobs, k.buf = j.buf → k.state ≠ .delivering :=
      fun k hk hbuf => by rcases hstarting k hk hbuf with h | h | h <;> simp [h]
    have hothers : s.OthersKept (settle (progress tag (s.runOver tag j))) tag :=
      (((State.OthersKept.counted s tag _).trans (.of_fixedPart hparts tag)).trans (.progress tag _)).settle
    have hfree : (progress tag (s.runOver tag j)).uli.output = .free := by simp [huli]
    refine ⟨_, y, hexec, by simp [huli]; rfl, hy, by rw [hdone', hcount', hcount], by rw [hfailure', hfailed', hfailed],
      hothers, fun hless hactive => ?_, fun hlast => ⟨hended, fun hslot hrest hawake => ?_, fun hactive hfresh hall => ?_,
      fun hactive hfresh hsome => ?_⟩, fun _ => settle_inOrder hfree, fun hb => ?_, fun f hdraining hf => ⟨hended, ?_, ?_⟩⟩
    · rcases hover with hover | hover
      · omega
      · exact absurd hactive hover
    · simp [State.runOver_activity tag j hlast hslot hrest hawake]
    · obtain ⟨hcomplete, -⟩ := Txn.progressed_active (x := w) (hphase.trans hactive) (hfailed.trans hfresh)
        ((s.runOver tag j).stillWaits tag)
      obtain ⟨hp, ho⟩ := hcomplete (by rw [htransfer, hcount]; exact hall)
      exact ⟨hphase'.trans hp, houtcome'.trans (ho.trans (by rw [htransfer, hrequested]))⟩
    · obtain ⟨-, hstill⟩ := Txn.progressed_active (x := w) (hphase.trans hactive) (hfailed.trans hfresh)
        ((s.runOver tag j).stillWaits tag)
      rw [hstill (by rw [htransfer, hcount]; exact hsome)] at hphase' houtcome'
      exact ⟨hphase'.trans (hphase.trans hactive), houtcome'.trans houtcome⟩
    · have hb' : (progress tag (s.runOver tag j)).BuffersOk := by
        rw [State.BuffersOk, (progress_frame tag _).2.2.2.1, hjobs]
        exact hb.sublist (List.filter_sublist.map _)
      refine (settle_deliversLowest hb').before fun k hk hstate => ⟨k, ?_, rfl, hstate⟩
      rw [(progress_frame tag _).2.2.2.1, hjobs] at hk
      exact (List.mem_filter.1 hk).1
    · intro hgranted
      obtain ⟨z, hz, hztag, hzactive⟩ := settle_output_delivery hfree hgranted
      have hterms : Terms s (progress tag (s.runOver tag j)) :=
        (((Terms.of_same (s := s) (t := sendUp (s.runRecord tag j) s) rfl).trans (.addDone tag 1 _)).trans (.of_fixedPart hparts)).trans
          (.progress tag _)
      have hzw := State.txn?_of_mem (hterms.tags htags) hz
      rw [hztag, hwp, Option.some.injEq] at hzw
      rw [← hzw, Txn.progressed] at hzactive
      split at hzactive
      · cases hzactive
      · simp [hphase, hdraining] at hzactive
    · refine (Txn.progressed_draining (x := w) (hphase.trans hdraining) (hfailed.trans hf) ?_).of_fixedPart hyw
      rw [State.stillWaits_iff, State.runOver_keepsWork]
  · rw [if_neg hover] at hexec
    obtain ⟨hless, hactive⟩ := not_or.1 hover
    have hactive : x.phase = .active := not_not.1 hactive
    refine ⟨_, _, hexec, by simp; rfl, hxu, rfl, rfl,
      (State.OthersKept.counted s tag (s.runRecord tag j)).trans (.of_same (by simp) tag), fun _ _ => ⟨by simpa using houtput,
      deliveringJob_runOn (s := s.counted tag (s.runRecord tag j)) hj, hactive⟩, fun h => absurd h hless,
      fun h => absurd h hover, fun _ => runOn_deliversLowest s tag j, fun f h => by simp [hactive] at h⟩

end Sys2Proof.Machine

namespace Sys2Proof

/-- Settles O36. -/
theorem readDataSent : Obligations.ReadDataSent := Machine.readDataSent_spec

end Sys2Proof


/-! PROOF. Completions of page operations (R23, R48, R53, R61, R69): the job, its transaction and every other. -/

namespace Sys2Proof.Machine

open Sys2Proof

/-! ## The owner takes the completion (R69, R173) -/

theorem exec_completion_slot {s : State} {d : Byte} {op : DOp} {o : Owner} (hrun : s.power = .running)
    (hslot : s.InSlot d op o) (status : Byte) (rest : List Byte) :
    exec (completionOf op.code d status rest) s = .next (settle
      (ownerTakes op o (completionOk op op.code status rest) false rest (s.lessSlot d))) := by
  obtain ⟨hd, hfound⟩ := hslot
  have hcode : 1 ≤ op.code.toNat ∧ op.code.toNat ≤ 4 := by cases op <;> simp [DOp.code]
  rw [exec_completionOf hcode.1 hcode.2, State.whenPowered, if_neg (by simp [hrun]), takeCompletion_of_slot hd hfound]
  rfl

/-- A COMPLETION that names no occupied slot changes nothing (R173). -/
theorem exec_completion_dropped {s : State} {d : Byte} (h : 3 < d.toNat ∨ ∀ x ∈ s.dli.slots, x.dtag ≠ Fin.ofNat 4 d.toNat)
    {op : Byte} (hlo : 1 ≤ op.toNat) (hhi : op.toNat ≤ 4) (status : Byte) (rest : List Byte) :
    exec (completionOf op d status rest) s = .next s := by
  have hsame : takeCompletion op d status rest s = s := by
    unfold takeCompletion
    rcases h with h | h
    · rw [if_pos h]
    · have hnone : s.dli.slots.find? (fun x => x.dtag == Fin.ofNat 4 d.toNat) = none := by
        rw [List.find?_eq_none]
        simpa using h
      rw [hnone]
      split <;> rfl
  rw [exec_completionOf hlo hhi, State.whenPowered, hsame]
  split <;> rfl

theorem completionOk_of_status {op : DOp} {status : Byte} (h : status ≠ 0) (opByte : Byte) (rest : List Byte) :
    completionOk op opByte status rest = false := by
  have h : status ≠ 0#8 := h
  simp [completionOk, h]

/-! ## The failure of a job's transaction (R23, R69) -/

/-- A failed record is not ACTIVE. -/
theorem Txn.MovesOn.not_active {y : Txn} {p : Prop} {o : Result} (h : y.MovesOn p o) : y.phase ≠ .active := by
  by_cases hp : p
  · simp [h.1 hp]
  · simp [(h.2 hp).1]

/-- A job's operation has failed: MEDIA_FAULT reaches its transaction, which moves on (R69). -/
def mediaFailed (t : Fin 16) (s : State) : State := progress t (failTxn t .mediaFault s)

theorem State.OthersKept.mediaFailed (t : Fin 16) (s : State) : s.OthersKept (mediaFailed t s) t :=
  (State.OthersKept.failTxn t _ s).trans (.progress t _)

/-- An ACTIVE transaction fails MEDIA_FAULT and moves on by the work that it keeps. -/
theorem mediaFailed_active {t : Fin 16} {s : State} {x : Txn} (hx : s.txn? t = some x) (hactive : x.phase = .active)
    (hfresh : x.failure = none) : ∃ y, (mediaFailed t s).txn? t = some y ∧ y.failure = some .mediaFault ∧
      y.done = x.done ∧ y.MovesOn (s.KeepsWork t) .mediaFault := by
  have hfailed := failTxn_txn? hx hactive hfresh .mediaFault
  have hwaits : (failTxn t .mediaFault s).stillWaits t = s.stillWaits t := by
    rw [Bool.eq_iff_iff, State.stillWaits_iff, State.stillWaits_iff, failTxn_keepsWork]
  have hmoved := progress_txn? hfailed
  rw [hwaits, Txn.progressed_failed] at hmoved
  exact ⟨_, hmoved, rfl, rfl, Txn.failed_movesOn .mediaFault _ (State.stillWaits_iff s t) x⟩

/-- A DRAINING transaction keeps its first failure, and completes with it as the last work it waits on ends. -/
theorem mediaFailed_draining {t : Fin 16} {s : State} {x : Txn} (hx : s.txn? t = some x) (hdraining : x.phase = .draining)
    {f : Failure} (hf : x.failure = some f) : ∃ y, (mediaFailed t s).txn? t = some y ∧ y.failure = some f ∧
      y.done = x.done ∧ y.MovesOn (s.KeepsWork t) f.outcome := by
  have hsame : failTxn t .mediaFault s = s := failTxn_of_inactive (fun z hz => by
    cases hx.symm.trans hz
    exact .inl (by simp [hdraining])) _
  obtain ⟨hcount, hfailed, -⟩ := Txn.progressed_fields (s.stillWaits t) x
  rw [mediaFailed, hsame]
  exact ⟨_, progress_txn? hx, hfailed.trans hf, hcount, Txn.progressed_draining hdraining hf (State.stillWaits_iff s t)⟩

/-! ## The SYNCs that a page write's end lets go (R75, R76) -/

/-- From `s` to `t` requests are added, and ERROR completions of what is not issued; the link is otherwise as it was. -/
def AsksMore (s t : State) : Prop :=
  (∀ r ∈ s.dli.requests, r ∈ t.dli.requests) ∧ (∃ l, t.dli.errors = s.dli.errors ++ l ∧ ∀ e ∈ l, e.issued = false) ∧
  t.dli.media = s.dli.media ∧ t.dli.slots = s.dli.slots

theorem AsksMore.of_same {s t : State} (h : t.dli = s.dli) : AsksMore s t := by
  unfold AsksMore
  rw [h]
  exact ⟨fun _ => id, ⟨[], by simp, by simp⟩, rfl, rfl⟩

theorem AsksMore.refl (s : State) : AsksMore s s := .of_same rfl

theorem AsksMore.trans {s t u : State} (h1 : AsksMore s t) (h2 : AsksMore t u) : AsksMore s u := by
  obtain ⟨hr, ⟨l, hl, hissued⟩, hm, hz⟩ := h1
  obtain ⟨hr', ⟨l', hl', hissued'⟩, hm', hz'⟩ := h2
  refine ⟨fun r h => hr' r (hr r h), ⟨l ++ l', by rw [hl', hl, List.append_assoc], fun e he => ?_⟩, hm'.trans hm, hz'.trans hz⟩
  exact (List.mem_append.1 he).elim (hissued e) (hissued' e)

theorem AsksMore.makeRequest (op : DOp) (o : Owner) (s : State) : AsksMore s (makeRequest op o s) := by
  unfold AsksMore
  rw [makeRequest_dli]
  split
  · exact ⟨fun r h => List.mem_append_left _ h, ⟨[], by simp, by simp⟩, rfl, rfl⟩
  · exact ⟨fun r h => h, ⟨_, rfl, by simp⟩, rfl, rfl⟩

theorem AsksMore.syncIfUnmarked (t : Fin 16) (s : State) : AsksMore s (syncIfUnmarked t s) := by
  unfold Machine.syncIfUnmarked
  split
  · split
    · exact .makeRequest _ _ s
    · exact .refl s
  · exact .refl s

theorem AsksMore.foldl_sync (l : List (Fin 16)) (s : State) :
    AsksMore s (l.foldl (fun acc t => Machine.syncIfUnmarked t acc) s) := by
  induction l generalizing s with
  | nil => exact .refl s
  | cons t l ih => exact (AsksMore.syncIfUnmarked t s).trans (ih _)

theorem AsksMore.leaveMarks (b : Fin 8) (s : State) : AsksMore s (leaveMarks b s) := by
  have hmarks : AsksMore s (s.setTxns (s.txns.map fun x =>
      { x with flushMark := x.flushMark.map (fun m => m.filter (fun c => c != b)) })) := .of_same rfl
  exact hmarks.trans (.foldl_sync _ _)

/-- The FLUSH has asked for its SYNC, or has the ERROR completion of it where the media is not OK (R66, R76). -/
def State.SyncAsked (t : State) (f : Fin 16) : Prop :=
  (t.dli.media = .ok → t.Asked .sync (.flush f)) ∧
  (t.dli.media ≠ .ok → { op := .sync, owner := .flush f, issued := false } ∈ t.dli.errors)

theorem State.SyncAsked.more {s t : State} {f : Fin 16} (h : s.SyncAsked f) (hmore : AsksMore s t) : t.SyncAsked f := by
  obtain ⟨hr, ⟨l, hl, -⟩, hm, hz⟩ := hmore
  rw [State.SyncAsked, hm]
  refine ⟨fun hok => (h.1 hok).imp (fun ⟨r, hmem, hop⟩ => ⟨r, hr r hmem, hop⟩) fun hslot => by rwa [hz], fun hne => ?_⟩
  rw [hl]
  exact List.mem_append_left _ (h.2 hne)

theorem requestSync_asked (f : Fin 16) (s : State) : (requestSync f s).SyncAsked f := by
  unfold State.SyncAsked State.Asked requestSync
  rw [makeRequest_dli]
  split
  next h =>
    have hok : s.dli.media = .ok := by simpa [State.admissible] using h
    exact ⟨fun _ => .inl ⟨_, List.mem_append_right _ List.mem_cons_self, rfl, rfl⟩, fun hne => absurd hok hne⟩
  next h =>
    have hne : s.dli.media ≠ .ok := by simpa [State.admissible] using h
    exact ⟨fun hok => absurd hok hne, fun _ => List.mem_append_right _ List.mem_cons_self⟩

/-- A fold over FLUSHes asks for the SYNC of each whose mark is empty. -/
theorem foldl_sync_asked {l : List (Fin 16)} {f : Fin 16} (hf : f ∈ l) {s : State} {x : Txn} (hx : s.txn? f = some x)
    (hkind : x.kind = .flush) (hactive : x.phase = .active) (hmark : x.flushMark = some []) :
    (l.foldl (fun acc t => syncIfUnmarked t acc) s).SyncAsked f := by
  induction l generalizing s with
  | nil => simp at hf
  | cons t l ih =>
    rw [List.foldl_cons]
    rcases List.mem_cons.1 hf with rfl | hf
    · have hasks : syncIfUnmarked f s = requestSync f s := by simp [syncIfUnmarked, hx, hkind, hactive, hmark]
      rw [hasks]
      exact (requestSync_asked f s).more (.foldl_sync l _)
    · exact ih hf (by simpa [State.txn?] using hx)

/-- The end of a page write asks for the SYNC of each ACTIVE FLUSH whose mark held it alone (R75, R76). -/
theorem leaveMarks_asked {s : State} (htags : s.TagsOk) {b : Fin 8} {z : Txn} (hz : z ∈ s.txns) (hkind : z.kind = .flush)
    (hactive : z.phase = .active) {m : List (Fin 8)} (hmark : z.flushMark = some m) (hb : b ∈ m) (hall : ∀ c ∈ m, c = b) :
    (leaveMarks b s).SyncAsked z.tag := by
  have hempty : m.filter (fun c => c != b) = [] := by
    rw [List.filter_eq_nil_iff]
    exact fun c hc => by simp [hall c hc]
  have hfound : (s.setTxns (s.txns.map fun x =>
      { x with flushMark := x.flushMark.map (fun m => m.filter (fun c => c != b)) })).txn? z.tag =
      some { z with flushMark := z.flushMark.map (fun m => m.filter (fun c => c != b)) } := by
    have hz' : s.txns.find? (fun x => x.tag == z.tag) = some z := State.txn?_of_mem htags hz
    change List.find? (fun x : Txn => x.tag == z.tag) (List.map _ s.txns) = _
    rw [List.find?_map]
    simp only [Function.comp_def, hz']
    rfl
  refine foldl_sync_asked ?_ hfound hkind hactive (by simp [hmark, hempty])
  exact List.mem_map.2 ⟨z, List.mem_filter.2 ⟨hz, by simpa [Txn.marks, hmark] using hb⟩, rfl⟩

/-- No mark holds a page write that has ended (R75). -/
theorem leaveMarks_marks (b : Fin 8) (s : State) : ∀ z ∈ (leaveMarks b s).txns, z.marks b = false := by
  intro z hz
  rw [leaveMarks_txns, List.mem_map] at hz
  obtain ⟨x, -, rfl⟩ := hz
  cases x.flushMark <;> simp [Txn.marks]

/-! ## A job gone (R42, R61, R75) -/

/-- The job has ended with its page operation; a page write has left every flush mark (R75). -/
def State.jobGone (op : DOp) (j : Job) (s : State) : State :=
  match op with
  | .pageWrite _ => leaveMarks j.buf (endJob j s)
  | _ => endJob j s

theorem State.jobGone_spec (op : DOp) (j : Job) (s : State) :
    (s.jobGone op j).uli = s.uli ∧ (s.jobGone op j).ubp = { s.ubp with jobs := s.ubp.jobs.filter (fun k => k.buf != j.buf) } ∧
    (s.jobGone op j).ind = s.ind ∧ (s.jobGone op j).ac = s.ac ∧
    (s.jobGone op j).txns.map Txn.unmarkedPart = s.txns.map Txn.unmarkedPart ∧ AsksMore s (s.jobGone op j) := by
  have hubp : (endJob j s).ubp = { s.ubp with jobs := s.ubp.jobs.filter (fun k => k.buf != j.buf) } := by
    unfold endJob
    split <;> simp [dropJob]
  have hparts := map_unmarked_of_fixedPart (endJob_fixedPart j s)
  have hended : AsksMore s (endJob j s) := .of_same (by simp)
  unfold State.jobGone
  split
  · exact ⟨by simp, by simp [hubp], by simp, by simp, (leaveMarks_unmarked _ _).trans hparts, hended.trans (.leaveMarks _ _)⟩
  · exact ⟨by simp, hubp, by simp, by simp, hparts, hended⟩

theorem State.jobGone_keepsWork (op : DOp) (j : Job) (s : State) (t : Fin 16) :
    (s.jobGone op j).KeepsWork t ↔ (s.lessBuffer j.buf).KeepsWork t := by
  obtain ⟨huli, hubp, -, -, -, -, ⟨l, hl, hissued⟩, -, hslots⟩ := s.jobGone_spec op j
  have herrors : (∃ e ∈ (s.jobGone op j).dli.errors, e.owner = .flush t ∧ e.issued = true) ↔
      ∃ e ∈ s.dli.errors, e.owner = .flush t ∧ e.issued = true := by
    rw [hl]
    refine ⟨fun ⟨e, he, h⟩ => ⟨e, ?_, h⟩, fun ⟨e, he, h⟩ => ⟨e, List.mem_append_left _ he, h⟩⟩
    exact (List.mem_append.1 he).resolve_right fun hnew => by simp [hissued e hnew] at h
  unfold State.KeepsWork
  rw [huli, hubp, hslots, herrors]
  exact Iff.rfl

theorem State.jobGone_freed (op : DOp) (j : Job) (s : State) : ∀ k ∈ (s.jobGone op j).ubp.jobs, k.buf ≠ j.buf := by
  rw [(s.jobGone_spec op j).2.1]
  intro k hk
  simpa using (List.mem_filter.1 hk).2

/-- No mark holds the page write of a job gone (R75). -/
theorem State.jobGone_marks (p : Nat) (j : Job) (s : State) : ∀ z ∈ (s.jobGone (.pageWrite p) j).txns, z.marks j.buf = false :=
  leaveMarks_marks j.buf (endJob j s)

theorem State.jobGone_syncAsked {s : State} (htags : s.TagsOk) (p : Nat) (j : Job) {z : Txn} (hz : z ∈ s.txns)
    (hkind : z.kind = .flush) (hactive : z.phase = .active) {m : List (Fin 8)} (hmark : z.flushMark = some m) (hb : j.buf ∈ m)
    (hall : ∀ c ∈ m, c = j.buf) : (s.jobGone (.pageWrite p) j).SyncAsked z.tag := by
  obtain ⟨z', hz', hparts⟩ := mem_of_fixedPart (endJob_fixedPart j s) hz
  obtain ⟨htag, hkind', -, -, -, -, -, -, hphase, hmark', -⟩ := Txn.fields_of_fixedPart hparts
  rw [← htag]
  exact leaveMarks_asked ((Terms.endJob j s).tags htags) hz' (hkind'.trans hkind) (hphase.trans hactive) (hmark'.trans hmark) hb hall

/-- A page operation that has failed ends its job and fails its transaction (R61, R69). -/
theorem jobCompletion_failed {s : State} {b : Fin 8} {j : Job} (hj : s.job? b = some j) (hkept : j.abandoned = false) {op : DOp}
    {p : Nat} (hop : op = .pageRead p ∨ op = .pageWrite p) (page : List Byte) :
    jobCompletion b op false page s = mediaFailed j.owner (s.jobGone op j) := by
  rcases hop with rfl | rfl <;> simp [jobCompletion, hj, hkept, readEnd, writeEnd, State.jobGone, mediaFailed]

/-- The page operation of an abandoned job ends it alone (R61). -/
theorem jobCompletion_abandoned {s : State} {b : Fin 8} {j : Job} (hj : s.job? b = some j) (habandoned : j.abandoned = true)
    (op : DOp) (ok : Bool) (page : List Byte) :
    jobCompletion b op ok page s = (if ok then placePage b page s else s).jobGone op j := by
  simp only [jobCompletion, hj, habandoned, if_true]
  cases op <;> simp [endAbandoned, State.jobGone, endJob, habandoned]

/-! ## The failure of a page operation (R23, R61, R69) -/

/-- The state after a failed page operation of the job `j`: its job gone, its transaction failed. -/
def State.opFailed (op : DOp) (j : Job) (s : State) : State := mediaFailed j.owner (s.jobGone op j)

theorem State.OthersKept.opFailed (op : DOp) (j : Job) (s : State) : s.OthersKept (s.opFailed op j) j.owner :=
  (State.OthersKept.of_unmarked (s.jobGone_spec op j).2.2.2.2.1 _).trans (.mediaFailed _ _)

/-- A record after an event and what follows it. -/
theorem settle_txn?_movesOn {s : State} {t : Fin 16} {y : Txn} (hy : s.txn? t = some y) {p : Prop} {o : Result}
    (hmoves : y.MovesOn p o) : ∃ w, (settle s).txn? t = some w ∧ w.failure = y.failure ∧ w.done = y.done ∧ w.MovesOn p o := by
  obtain ⟨w, hw, hwy⟩ := settle_txn?_some hy
  obtain ⟨-, -, -, -, -, -, hdone, hfailure, -, -, -⟩ := Txn.fields_of_fixedPart hwy
  exact ⟨w, hw, hfailure, hdone, hmoves.of_fixedPart hwy⟩

theorem settle_opFailed_active {op : DOp} {j : Job} {s : State} {x : Txn} (hx : s.txn? j.owner = some x)
    (hactive : x.phase = .active) (hfresh : x.failure = none) : ∃ y, (settle (s.opFailed op j)).txn? j.owner = some y ∧
      y.failure = some .mediaFault ∧ y.done = x.done ∧ y.MovesOn ((s.lessBuffer j.buf).KeepsWork j.owner) .mediaFault := by
  obtain ⟨z, hz, hzx⟩ := txn?_of_unmarked (s.jobGone_spec op j).2.2.2.2.1 hx
  obtain ⟨-, -, -, -, hdone, hfailure, hphase, -⟩ := Txn.fields_of_unmarkedPart hzx
  obtain ⟨w, hw, hwfailure, hwdone, hwmoves⟩ := mediaFailed_active hz (hphase.trans hactive) (hfailure.trans hfresh)
  obtain ⟨y, hy, hyfailure, hydone, hymoves⟩ := settle_txn?_movesOn hw hwmoves
  rw [s.jobGone_keepsWork] at hymoves
  exact ⟨y, hy, hyfailure.trans hwfailure, hydone.trans (hwdone.trans hdone), hymoves⟩

theorem settle_opFailed_draining {op : DOp} {j : Job} {s : State} {x : Txn} (hx : s.txn? j.owner = some x)
    (hdraining : x.phase = .draining) {f : Failure} (hf : x.failure = some f) :
    ∃ y, (settle (s.opFailed op j)).txn? j.owner = some y ∧ y.failure = some f ∧ y.done = x.done ∧
      y.MovesOn ((s.lessBuffer j.buf).KeepsWork j.owner) f.outcome := by
  obtain ⟨z, hz, hzx⟩ := txn?_of_unmarked (s.jobGone_spec op j).2.2.2.2.1 hx
  obtain ⟨-, -, -, -, hdone, hfailure, hphase, -⟩ := Txn.fields_of_unmarkedPart hzx
  obtain ⟨w, hw, hwfailure, hwdone, hwmoves⟩ := mediaFailed_draining hz (hphase.trans hdraining) (hfailure.trans hf)
  obtain ⟨y, hy, hyfailure, hydone, hymoves⟩ := settle_txn?_movesOn hw hwmoves
  rw [s.jobGone_keepsWork] at hymoves
  exact ⟨y, hy, hyfailure.trans hwfailure, hydone.trans (hwdone.trans hdone), hymoves⟩

theorem State.opFailed_same (op : DOp) (j : Job) (s : State) : (s.opFailed op j).ubp.mem = s.ubp.mem ∧
    (s.opFailed op j).ind = s.ind := by
  obtain ⟨-, hubp, hind, -, -, -⟩ := s.jobGone_spec op j
  have hmem : (failTxn j.owner .mediaFault (s.jobGone op j)).ubp.mem = (s.jobGone op j).ubp.mem :=
    (failTxn_touches j.owner .mediaFault (s.jobGone op j)) .memory (by decide)
  exact ⟨by simp [State.opFailed, mediaFailed, hmem, hubp], by simp [State.opFailed, mediaFailed, hind]⟩

theorem JobsFrom.mem {s t : State} (h : JobsFrom s t) {k : Job} (hk : k ∈ t.ubp.jobs) :
    ∃ j ∈ s.ubp.jobs, k.buf = j.buf ∧ k.unit = j.unit ∧ k.owner = j.owner := by
  obtain ⟨f, hf, ht⟩ := h
  obtain ⟨j, hj, hjk⟩ := List.mem_filterMap.1 (ht ▸ hk)
  exact ⟨j, hj, hf j k hjk⟩

theorem State.opFailed_freed (op : DOp) (j : Job) (s : State) : ∀ k ∈ (s.opFailed op j).ubp.jobs, k.buf ≠ j.buf := by
  have hfrom : JobsFrom (s.jobGone op j) (s.opFailed op j) :=
    (JobsFrom.failTxn j.owner .mediaFault (s.jobGone op j)).same_right (by simp [State.opFailed, mediaFailed])
  intro k hk
  obtain ⟨i, hi, hbuf, -⟩ := hfrom.mem hk
  rw [hbuf]
  exact s.jobGone_freed op j i hi

theorem Terms.opFailed (op : DOp) (j : Job) (s : State) : Terms s (s.opFailed op j) :=
  ((Terms.of_unmarked (s.jobGone_spec op j).2.2.2.2.1).trans (.failTxn j.owner .mediaFault _)).trans (.progress j.owner _)

/-- A free buffer is not given to a transaction that is not ACTIVE (R46). -/
theorem settle_free_notGiven {s : State} {b : Fin 8} (hfree : ∀ k ∈ s.ubp.jobs, k.buf ≠ b) (htags : s.TagsOk) {t : Fin 16} {y : Txn}
    (hy : (settle s).txn? t = some y) (hne : y.phase ≠ .active) : ∀ k ∈ (settle s).ubp.jobs, k.buf = b → k.owner ≠ t := by
  intro k hk hbuf howner
  rcases (settle_follows s).of_job hk with ⟨i, hi, hik⟩ | hstarted
  · exact hfree i hi (hik.fields.1.symm.trans hbuf)
  · obtain ⟨x, hx, htag, -, hactive⟩ := hstarted.owner
    obtain ⟨w, hw, hwx⟩ := settle_txn?_some (State.txn?_of_mem htags hx)
    obtain ⟨-, -, -, -, -, -, -, -, hphase, -, -⟩ := Txn.fields_of_fixedPart hwx
    rw [htag.trans howner, hy, Option.some.injEq] at hw
    exact hne (hw ▸ hphase.trans hactive)

/-! ## What a failure leaves of marks and of the SYNCs asked for (R75, R76) -/

theorem failTxn_marks {b : Fin 8} {s : State} (h : ∀ z ∈ s.txns, z.marks b = false) (t : Fin 16) (f : Failure) :
    ∀ z ∈ (failTxn t f s).txns, z.marks b = false := by
  rcases failTxn_cases t f s with ⟨x, hx, hactive, hfresh⟩ | hsame
  · rw [failTxn_table hx hactive hfresh, updTxn_txns]
    intro z hz
    obtain ⟨y, hy, rfl⟩ := List.mem_map.1 hz
    split
    · rfl
    · exact h y hy
  · rwa [hsame]

theorem progress_marks {b : Fin 8} {s : State} (h : ∀ z ∈ s.txns, z.marks b = false) (t : Fin 16) :
    ∀ z ∈ (progress t s).txns, z.marks b = false := by
  have hdone : ∀ z ∈ (setDone t s).txns, z.marks b = false := by
    rw [setDone, updTxn_txns]
    intro z hz
    obtain ⟨y, hy, rfl⟩ := List.mem_map.1 hz
    split
    · exact h y hy
    · exact h y hy
  unfold progress
  split
  · exact h
  · split
    · split
      · exact hdone
      · exact h
    · split
      · exact h
      · exact hdone
    · exact h

theorem settle_marks {b : Fin 8} {s : State} (h : ∀ z ∈ s.txns, z.marks b = false) : ∀ z ∈ (settle s).txns, z.marks b = false := by
  intro z hz
  obtain ⟨y, hy, hyz⟩ := mem_of_fixedPart (settle_fixedPart s).symm hz
  obtain ⟨-, -, -, -, -, -, -, -, -, hmark, -⟩ := Txn.fields_of_fixedPart hyz
  have hy := h y hy
  unfold Txn.marks at hy ⊢
  rwa [hmark] at hy

theorem State.opFailed_marks (p : Nat) (j : Job) (s : State) : ∀ z ∈ (s.opFailed (.pageWrite p) j).txns, z.marks j.buf = false :=
  progress_marks (failTxn_marks (s.jobGone_marks p j) _ _) _

/-- A failure of a READ or WRITE withdraws no SYNC (R77). -/
theorem State.SyncAsked.failTxn {s : State} {f t : Fin 16} {x : Txn} (h : s.SyncAsked f) (hx : s.txn? t = some x)
    (hkind : x.kind ≠ .flush) (o : Failure) : (failTxn t o s).SyncAsked f := by
  rcases failTxn_cases t o s with ⟨x', hx', hactive, hfresh⟩ | hsame
  · obtain rfl : x' = x := Option.some.inj (hx'.symm.trans hx)
    have hdli := failTxn_dli hx hactive hfresh o
    rw [if_neg hkind] at hdli
    unfold State.SyncAsked State.Asked
    rw [hdli]
    split
    · refine ⟨fun hok => (h.1 hok).imp (fun ⟨r, hr, hop, howner⟩ =>
        ⟨r, List.mem_filter.2 ⟨hr, by rw [howner]; rfl⟩, hop, howner⟩) id, fun hne => List.mem_filter.2 ⟨h.2 hne, rfl⟩⟩
    · exact h
  · rwa [hsame]

theorem settle_media (s : State) : (settle s).dli.media = s.dli.media := by
  have h := congrArg Dli.media (settle_mediaPart s)
  exact h

theorem failTxn_media (t : Fin 16) (f : Failure) (s : State) : (failTxn t f s).dli.media = s.dli.media := by
  have h := congrArg Dli.media (failTxn_mediaPart t f s)
  exact h

theorem State.SyncAsked.settle {s : State} {f : Fin 16} (h : s.SyncAsked f) : (settle s).SyncAsked f := by
  obtain ⟨l, hl, -⟩ := (settle_follows s).errors
  unfold State.SyncAsked
  rw [settle_media]
  refine ⟨fun hok => settle_asked (h.1 hok), fun hne => ?_⟩
  rw [hl]
  exact List.mem_append_left _ (h.2 hne)

theorem State.opFailed_syncAsked {s : State} {p : Nat} {j : Job} {f : Fin 16} (h : (s.jobGone (.pageWrite p) j).SyncAsked f)
    {x : Txn} (hx : s.txn? j.owner = some x) (hkind : x.kind ≠ .flush) : (s.opFailed (.pageWrite p) j).SyncAsked f := by
  obtain ⟨z, hz, hzx⟩ := txn?_of_unmarked (s.jobGone_spec (.pageWrite p) j).2.2.2.2.1 hx
  obtain ⟨-, hkind', -⟩ := Txn.fields_of_unmarkedPart hzx
  have hfailed := h.failTxn hz (by rwa [hkind']) .mediaFault
  unfold State.SyncAsked State.Asked at hfailed ⊢
  simpa [State.opFailed, mediaFailed] using hfailed

/-- The SYNCs asked for at the end of a page write stay so in what follows it. -/
theorem State.SyncsAsked.of_asked {s t u : State} {b : Fin 8} (htxns : t.txns = s.txns) (hmedia : u.dli.media = s.dli.media)
    (h : ∀ z ∈ t.txns, z.kind = .flush → z.phase = .active → ∀ m, z.flushMark = some m → b ∈ m → (∀ c ∈ m, c = b) →
      u.SyncAsked z.tag) : s.SyncsAsked u b := by
  intro z hz hkind hactive m hmark hb hall
  have hasked := h z (htxns ▸ hz) hkind hactive m hmark hb hall
  rwa [State.SyncAsked, hmedia] at hasked

/-! ## The end of an abandoned job (R61) -/

/-- The end of an abandoned job frees its buffer and touches no record but in its mark. -/
theorem settle_jobGone_endsAbandoned {s u : State} (htxns : u.txns = s.txns) (hind : u.ind = s.ind) (op : DOp) (j : Job) :
    s.EndsAbandoned (settle (u.jobGone op j)) j.buf := by
  obtain ⟨-, -, hind', -, hparts, -⟩ := u.jobGone_spec op j
  refine ⟨fun k hk hbuf => ?_, ?_, by simp [hind', hind], by simp [hind', hind]⟩
  · rcases (settle_follows _).of_job hk with ⟨i, hi, hik⟩ | hstarted
    · exact absurd (hik.fields.1.symm.trans hbuf) (u.jobGone_freed op j i hi)
    · exact hstarted.fresh.1
  · rw [map_unmarked_of_fixedPart (settle_fixedPart _), hparts, htxns]

theorem State.EndsAbandoned.records {s t : State} {b : Fin 8} (h : s.EndsAbandoned t b) :
    t.txns.map (fun x => (x.tag, x.failure, x.phase, x.done)) = s.txns.map (fun x => (x.tag, x.failure, x.phase, x.done)) := by
  have hpart (l : List Txn) : l.map (fun x => (x.tag, x.failure, x.phase, x.done)) =
      (l.map Txn.unmarkedPart).map (fun x => (x.tag, x.failure, x.phase, x.done)) := by
    rw [List.map_map]
    rfl
  rw [hpart t.txns, hpart s.txns, h.2.1]

theorem settle_jobGone_mem (op : DOp) (j : Job) (s : State) : (settle (s.jobGone op j)).ubp.mem = s.ubp.mem := by
  simp [(s.jobGone_spec op j).2.1]

/-- The SYNCs that the end of an abandoned job's page write lets go are asked for (R75, R76). -/
theorem settle_jobGone_syncsAsked {s u : State} (htxns : u.txns = s.txns) (hmedia : u.dli.media = s.dli.media) (htags : s.TagsOk)
    (p : Nat) (j : Job) : s.SyncsAsked (settle (u.jobGone (.pageWrite p) j)) j.buf := by
  have htags' : u.TagsOk := by rwa [State.TagsOk, htxns]
  refine .of_asked htxns ((settle_media _).trans ((u.jobGone_spec (.pageWrite p) j).2.2.2.2.2.2.2.1.trans hmedia)) ?_
  exact fun z hz hkind hactive m hmark hb hall => (State.jobGone_syncAsked htags' p j hz hkind hactive hmark hb hall).settle

theorem settle_opFailed_syncsAsked {s u : State} (htxns : u.txns = s.txns) (hmedia : u.dli.media = s.dli.media) (htags : s.TagsOk)
    (p : Nat) {j : Job} {x : Txn} (hx : s.txn? j.owner = some x) (hkind : x.kind ≠ .flush) :
    s.SyncsAsked (settle (u.opFailed (.pageWrite p) j)) j.buf := by
  have htags' : u.TagsOk := by rwa [State.TagsOk, htxns]
  have hx' : u.txn? j.owner = some x := by rwa [State.txn?, htxns]
  have hkeeps : (u.opFailed (.pageWrite p) j).dli.media = (u.jobGone (.pageWrite p) j).dli.media := by
    simp only [State.opFailed, mediaFailed, progress_frame, failTxn_media]
  refine .of_asked htxns (((settle_media _).trans hkeeps).trans ((u.jobGone_spec (.pageWrite p) j).2.2.2.2.2.2.2.1.trans hmedia)) ?_
  exact fun z hz hflush hactive m hmark hb hall =>
    (State.opFailed_syncAsked (State.jobGone_syncAsked htags' p j hz hflush hactive hmark hb hall) hx' hkind).settle

/-! ## PAGE_READ_COMPLETION (R48) -/

theorem placePage_mem {b : Fin 8} {page : List Byte} (h : page.length = 4096) (s : State) (a : Nat) :
    Memory.read (placePage b page s).ubp.mem a =
      if 4096 * b.val ≤ a ∧ a < 4096 * b.val + 4096 then page.getD (a - 4096 * b.val) 0 else Memory.read s.ubp.mem a := by
  rw [placePage, if_pos h]
  have hread := Memory.read_store s.ubp.mem (4096 * b.val) page a
  rw [h] at hread
  exact hread

/-- A page read in its buffer waits for its decipherment, or is taken for it (R48, R50). -/
theorem settle_decryptWait {s : State} {b : Fin 8} {j : Job} (hj : s.job? b = some j) :
    ∃ k, (settle (updJob b (fun y => { y with state := .decryptWait, pageOp := .absent }) s)).job? b = some k ∧
      k.unit = j.unit ∧ k.owner = j.owner ∧ (k.state = .decryptWait ∨ k.state = .decrypting) := by
  have hbuf := State.buf_of_job? hj
  have hj' : (updJob b (fun y => { y with state := .decryptWait, pageOp := .absent }) s).job? b =
      some { j with state := .decryptWait, pageOp := .absent } := by
    rw [updJob_job? (f := fun y => { y with state := .decryptWait, pageOp := .absent }) (fun _ => rfl), hj]
    rfl
  obtain ⟨k, hk, hjk⟩ := (settle_follows _).job? hj'
  obtain ⟨-, howner, hunit, -⟩ := hjk.fields
  refine ⟨k, hk, hunit, howner, ?_⟩
  have hstates : JobStates (fun x => x = .decryptWait ∨ x = .decrypting) :=
    ⟨by simp, fun x hx => by rcases hx with rfl | rfl <;> simp [JobState.taken], by simp⟩
  have hholds := settle_holdsIn (s := updJob b (fun y => { y with state := .decryptWait, pageOp := .absent }) s) (b := b) hstates
    ⟨.inr ⟨_, State.mem_of_job? hj', hbuf⟩, fun k hk hkb => ?_⟩
  · exact hholds.states k (State.mem_of_job? hk) (State.buf_of_job? hk)
  · rw [updJob_jobs] at hk
    obtain ⟨i, -, rfl⟩ := List.mem_map.1 hk
    split
    · exact .inl rfl
    next hne => rw [if_neg hne] at hkb; exact absurd hkb hne

/-- Settles O38, by the result and by whether the job is abandoned. -/
theorem pageReadCompletion_spec : Obligations.PageReadCompletion := by
  intro s d hrun
  refine ⟨fun p b j hslot hj hkept => ⟨fun page hlength => ?_, fun status rest x hstatus hx hactive hfresh htags => ?_⟩,
    fun p b j hslot hj habandoned status rest => ?_, fun hdropped status rest => ?_⟩
  · have hexec := exec_completion_slot hrun hslot 0 page
    have hok : completionOk (.pageRead p) (DOp.pageRead p).code 0 page = true := by
      simp [completionOk, completionRest, DOp.code, hlength]
    have hj' : (s.lessSlot d).job? b = some j := hj
    have hend : ownerTakes (.pageRead p) (.job b) true false page (s.lessSlot d) =
        updJob b (fun y => { y with state := .decryptWait, pageOp := .absent }) (placePage b page (s.lessSlot d)) := by
      simp [ownerTakes, jobCompletion, hj', hkept, readEnd, State.buf_of_job? hj]
    rw [hok, hend] at hexec
    have hjobs : (placePage b page (s.lessSlot d)).job? b = some j := by rw [State.job?, placePage_jobs]; exact hj
    obtain ⟨k, hk, hunit, howner, hstate⟩ := settle_decryptWait hjobs
    refine ⟨_, k, hexec, fun a => ?_, hk, hunit, howner, hstate⟩
    rw [settle_mem]
    exact placePage_mem hlength (s.lessSlot d) a
  · have hexec := exec_completion_slot hrun hslot status rest
    have hj' : (s.lessSlot d).job? b = some j := hj
    have hbuf := State.buf_of_job? hj
    have hend : ownerTakes (.pageRead p) (.job b) false false rest (s.lessSlot d) = (s.lessSlot d).opFailed (.pageRead p) j :=
      jobCompletion_failed hj' hkept (.inl rfl) rest
    rw [completionOk_of_status hstatus, hend] at hexec
    obtain ⟨y, hy, hfailure, hdone, hmoves⟩ := settle_opFailed_active (op := .pageRead p) (s := s.lessSlot d) (j := j) hx hactive hfresh
    rw [hbuf] at hmoves
    refine ⟨_, y, hexec, hy, hfailure, hdone, hmoves.not_active, hmoves, ?_,
      ((State.OthersKept.of_same (t := s.lessSlot d) rfl _).trans (.opFailed _ j _)).settle, ?_⟩
    · rw [settle_mem, ((s.lessSlot d).opFailed_same _ j).1]
      rfl
    · have hfreed := State.opFailed_freed (.pageRead p) j (s.lessSlot d)
      rw [hbuf] at hfreed
      exact settle_free_notGiven hfreed ((Terms.opFailed (.pageRead p) j (s.lessSlot d)).tags htags) hy hmoves.not_active
  · have hexec := exec_completion_slot hrun hslot status rest
    have hj' : (s.lessSlot d).job? b = some j := hj
    have hends := jobCompletion_abandoned hj' habandoned (.pageRead p) (completionOk (.pageRead p) (DOp.pageRead p).code status rest) rest
    obtain ⟨u, hu⟩ : ∃ u, u = if completionOk (.pageRead p) (DOp.pageRead p).code status rest
        then placePage b rest (s.lessSlot d) else s.lessSlot d := ⟨_, rfl⟩
    rw [← hu] at hends
    have hsame : u.txns = s.txns ∧ u.ind = s.ind := by
      rw [hu]
      split
      · exact ⟨by simp [State.lessSlot], by simp [State.lessSlot]⟩
      · exact ⟨rfl, rfl⟩
    have hended := settle_jobGone_endsAbandoned hsame.1 hsame.2 (.pageRead p) j
    rw [State.buf_of_job? hj] at hended
    refine ⟨_, hexec.trans (congrArg _ (congrArg settle hends)), hended, hended.1, hended.records⟩
  · exact ⟨exec_completion_dropped hdropped (op := 1) (by decide) (by decide) status rest,
      exec_completion_dropped hdropped (op := 2) (by decide) (by decide) status rest,
      exec_completion_dropped hdropped (op := 4) (by decide) (by decide) status rest,
      exec_completion_dropped hdropped (op := 3) (by decide) (by decide) status rest⟩

end Sys2Proof.Machine

namespace Sys2Proof

/-- Settles O38. -/
theorem pageReadCompletion : Obligations.PageReadCompletion := Machine.pageReadCompletion_spec

end Sys2Proof


/-! PROOF. The sweep's windows (R141 to R148): what becomes of the result of a DISCARD, and of a completion given ERROR. -/

namespace Sys2Proof.Machine

open Sys2Proof

/-! ## A window made due (R141, R147) -/

/-- What follows an event leaves the sweep as it was where its DISCARD or its write is outstanding, but for a DISCARD issued. -/
theorem settle_swu_out {s : State} (h : s.swu.discardOut = true ∨ s.swu.writeOut = true) :
    (settle s).swu.cursor = s.swu.cursor ∧ (settle s).swu.since = s.swu.since ∧
    (settle s).swu.discardOut = s.swu.discardOut ∧ (settle s).swu.writeOut = s.swu.writeOut ∧ (settle s).ks = s.ks := by
  obtain ⟨hswu, hks⟩ := (settle_sweep s).out h
  rcases hswu with hswu | hswu <;> simp [hswu, hks]

theorem requestWindow_asked {c u : Nat} {s : State} (hok : s.dli.media = .ok) (husable : s.dli.usable = some u) (hc : c < u) :
    (requestWindow c u s).Asked (.discard c (min 256 (u - c))) .sweep := by
  have hadmissible : (s.setSwu { s.swu with state := .issuing, discardOut := true }).admissible
      (.discard c (windowCount c u)) = true := by
    simp only [State.admissible, State.setSwu_fields, hok, husable, windowCount, Option.getD_some, Bool.and_eq_true, beq_self_eq_true,
      decide_eq_true_eq, true_and]
    omega
  refine .inl ⟨{ op := .discard c (windowCount c u), owner := .sweep }, ?_, rfl, rfl⟩
  rw [requestWindow, makeRequest, if_pos hadmissible]
  simp

theorem requestCursor_spec (cursor : Option Nat) (skipped : Bool) (s : State) :
    (requestCursor cursor skipped s).swu = { s.swu with state := .waiting, since := 0, writeOut := true } ∧
    { bySweep := true, body := .dev { DevUpdate.none with
        cursor := some cursor, degraded := if skipped then some true else none } } ∈ (requestCursor cursor skipped s).ks.queue := by
  unfold requestCursor
  obtain ⟨-, -, -, hqueue⟩ := ksRequest_ks
    { bySweep := true, body := .dev { DevUpdate.none with
        cursor := some cursor, degraded := if skipped then some true else none } }
    (s.setSwu { s.swu with state := .waiting, since := 0, writeOut := true })
  rw [hqueue]
  exact ⟨by simp, List.mem_append_right _ List.mem_cons_self⟩

/-- The sweep may make a window due: its cursor is `c`, U is `u`, and nothing holds it back (R141). -/
structure State.MayMakeDue (s : State) (c u : Nat) : Prop where
  discardOut : s.swu.discardOut = false
  writeOut : s.swu.writeOut = false
  hold : s.swu.hold = false
  media : s.dli.media = .ok
  usable : s.dli.usable = some u
  cursor : s.swu.cursor = some c

theorem State.MayMakeDue.makeDue {s : State} {c u : Nat} (h : s.MayMakeDue c u) : makeDue s =
    if c < u then requestWindow c u s else requestCursor none false (s.setSwu { s.swu with cursor := some u }) := by
  simp [Machine.makeDue, h.discardOut, h.writeOut, h.hold, h.media, h.usable, h.cursor]

theorem State.MayMakeDue.window {s : State} {c u : Nat} (h : s.MayMakeDue c u) (hc : c < u) :
    (Machine.makeDue s).swu = { s.swu with state := .issuing, discardOut := true } ∧ (Machine.makeDue s).ks = s.ks ∧
    (Machine.makeDue s).Asked (.discard c (min 256 (u - c))) .sweep := by
  rw [h.makeDue, if_pos hc]
  exact ⟨by simp [requestWindow], by simp [requestWindow], requestWindow_asked h.media h.usable hc⟩

/-- Where nothing holds the sweep back, a window made due is asked for, or the pass completes. -/
theorem State.MayMakeDue.windowDue {s : State} {c u : Nat} (h : s.MayMakeDue c u) : (settle (Machine.makeDue s)).WindowDue c u ∧
    (c < u → (settle (Machine.makeDue s)).swu.since = s.swu.since ∧ (settle (Machine.makeDue s)).ks = s.ks) := by
  by_cases hc : c < u
  · obtain ⟨hswu, hks, hasked⟩ := h.window hc
    obtain ⟨hcursor, hsince, hout, -, hks'⟩ := settle_swu_out (s := Machine.makeDue s) (by simp [hswu])
    refine ⟨⟨fun _ => ⟨by rw [hcursor, hswu]; exact h.cursor, by rw [hout, hswu], settle_asked hasked⟩, fun hle => ?_⟩, fun _ => ?_⟩
    · omega
    · exact ⟨by rw [hsince, hswu], hks'.trans hks⟩
  · refine ⟨⟨fun hlt => absurd hlt hc, fun _ => ?_⟩, fun hlt => absurd hlt hc⟩
    rw [h.makeDue, if_neg hc]
    obtain ⟨hswu, hqueue⟩ := requestCursor_spec none false (s.setSwu { s.swu with cursor := some u })
    obtain ⟨hcursor, -, -, hwrite, -⟩ := settle_swu_out
      (s := requestCursor none false (s.setSwu { s.swu with cursor := some u })) (by simp [hswu])
    exact ⟨by rw [hcursor, hswu]; rfl, by rw [hwrite, hswu], settle_queue hqueue⟩

/-! ## The sweep held back (R141, R142) -/

/-- The sweep is PAUSED while the media is not OK or the erase hold is set (R141). -/
theorem makeDue_paused {s : State} (hdiscard : s.swu.discardOut = false) (hwrite : s.swu.writeOut = false)
    (h : s.dli.media ≠ .ok ∨ s.swu.hold = true) : makeDue s = s.setSwu { s.swu with state := .paused } := by
  rw [makeDue, if_neg (by simp [hdiscard, hwrite]), if_pos h.symm]

/-- No buffer is given where no transaction is on the user volume (R46). -/
theorem allocate_of_noUser {s : State} (h : ∀ x ∈ s.txns, x.volume ≠ .user) (n : Nat) : allocate n s = s := by
  have hnone : s.txns.find? s.eligible = none := by
    rw [List.find?_eq_none]
    intro x hx hwants
    obtain ⟨-, hvolume, -⟩ := (s.eligible_iff x).1 hwants
    exact h x hx hvolume
  cases n with
  | zero => rfl
  | succ n =>
    rw [allocate, hnone]
    split <;> simp_all

/-- From `s` to `t`, where the media is not OK, no request is placed and none issued (R66). -/
def AsksNothing (s t : State) : Prop :=
  s.dli.media ≠ .ok → t.dli.media ≠ .ok ∧ t.dli.requests = s.dli.requests ∧ t.dli.slots = s.dli.slots

theorem AsksNothing.startJob (b : Fin 8) (x : Txn) (u : Nat) (s : State) : AsksNothing s (startJob b x u s) := by
  intro hne
  rw [startJob_dli]
  split
  · exact ⟨hne, rfl, rfl⟩
  · have hrefused : s.admissible (.pageRead u) = false := by simp [State.admissible, hne]
    rw [makeRequest_dli, if_neg (by simp [hrefused])]
    exact ⟨hne, rfl, rfl⟩

theorem AsksNothing.allocate (n : Nat) (s : State) : AsksNothing s (allocate n s) := by
  induction n generalizing s with
  | zero => exact fun h => ⟨h, rfl, rfl⟩
  | succ n ih =>
    unfold Machine.allocate
    split
    next b x _ _ =>
      intro hne
      obtain ⟨hne', hrequests, hslots⟩ := AsksNothing.startJob b x (x.nextUnit.getD 0) s hne
      obtain ⟨hne'', hrequests', hslots'⟩ := ih (Machine.startJob b x (x.nextUnit.getD 0) s) hne'
      exact ⟨hne'', hrequests'.trans hrequests, hslots'.trans hslots⟩
    · exact fun h => ⟨h, rfl, rfl⟩

/-- What comes after the sweep is let go on in the closure of an event. -/
def afterHold (s : State) : State := judge (grant (cipherTake (issueAll 4 s)))

theorem settle_eq_afterHold (s : State) : settle s = afterHold (releaseHold (dataWaits (allocate 8 s))) := rfl

theorem Closing.afterHold {R : State → State → Prop} (w : Closing R) (s : State) : R s (Machine.afterHold s) :=
  w.trans (w.trans (w.trans (w.issueAll 4 s) (w.cipherTake _)) (w.grant _)) (w.judge _)

theorem releaseHold_due {s : State} (hissuing : s.swu.state = .issuing) (hdiscard : s.swu.discardOut = false)
    (hwrite : s.swu.writeOut = false) (hops : s.userOps = 0) : releaseHold s = makeDue s :=
  if_pos ⟨hissuing, hdiscard, hwrite, hops⟩

/-- A new pass held back by no user operation makes its first window due (R142). -/
theorem settle_releases {s : State} {c u : Nat} (hdue : s.MayMakeDue c u) (hissuing : s.swu.state = .issuing) (hops : s.userOps = 0)
    (huser : ∀ x ∈ s.txns, x.volume ≠ .user) (hc : c < u) : (settle s).swu.cursor = some c ∧ (settle s).swu.discardOut = true ∧
      (settle s).Asked (.discard c (min 256 (u - c))) .sweep := by
  have hdue' : (dataWaits s).MayMakeDue c u := ⟨hdue.discardOut, hdue.writeOut, hdue.hold, hdue.media, hdue.usable, hdue.cursor⟩
  obtain ⟨hswu, -, hasked⟩ := hdue'.window hc
  rw [settle_eq_afterHold, allocate_of_noUser huser, releaseHold_due (s := dataWaits s) hissuing hdue.discardOut hdue.writeOut hops]
  obtain ⟨hkept, -⟩ := (sweepKept_closing.afterHold (makeDue (dataWaits s))).out (by simp [hswu])
  refine ⟨?_, ?_, (follows_closing.afterHold (makeDue (dataWaits s))).asked _ _ hasked⟩
  · rcases hkept with hkept | hkept <;> rw [hkept, hswu] <;> exact hdue.cursor
  · rcases hkept with hkept | hkept <;> rw [hkept, hswu]

/-- A new pass that nothing else holds back is PAUSED where the media is not OK (R141, R142). -/
theorem settle_pauses {s : State} (hdiscard : s.swu.discardOut = false) (hwrite : s.swu.writeOut = false)
    (hissuing : s.swu.state = .issuing) (hops : s.userOps = 0) (hne : s.dli.media ≠ .ok) :
    (settle s).swu = { s.swu with state := .paused } ∧ (settle s).ks = s.ks := by
  obtain ⟨hne', hrequests, hslots⟩ := AsksNothing.allocate 8 s hne
  obtain ⟨u, hu⟩ : ∃ u, u = dataWaits (allocate 8 s) := ⟨_, rfl⟩
  have hswu : u.swu = s.swu := by rw [hu]; simp
  have hks : u.ks = s.ks := by rw [hu]; simp
  have hops' : u.userOps = 0 := by rw [hu]; simpa [State.userOps, dataWaits, hrequests, hslots] using hops
  have hmedia : u.dli.media ≠ .ok := by rw [hu]; exact hne'
  have hreleased : releaseHold u = u.setSwu { u.swu with state := .paused } := by
    rw [releaseHold_due (by rw [hswu]; exact hissuing) (by rw [hswu]; exact hdiscard) (by rw [hswu]; exact hwrite) hops']
    exact makeDue_paused (by rw [hswu]; exact hdiscard) (by rw [hswu]; exact hwrite) (.inl hmedia)
  rw [settle_eq_afterHold, ← hu, hreleased]
  obtain ⟨hkept, hks'⟩ := (sweepKept_closing.afterHold (u.setSwu { u.swu with state := .paused })).still (by simp)
  exact ⟨by rw [hkept, ← hswu]; rfl, hks'.trans hks⟩

/-- The cursor lies below U, where there are both. -/
def State.CursorBelow (s : State) : Prop := ∀ b u, s.swu.cursor = some b → s.dli.usable = some u → b < u

/-- From `s` to `t` the windows since the last persist stay, while the cursor lies below U. -/
def SinceKept (s t : State) : Prop := s.CursorBelow → t.CursorBelow ∧ t.swu.since = s.swu.since

theorem SinceKept.of_same {s t : State} (hmedia : t.dli.mediaPart = s.dli.mediaPart) (hcursor : t.swu.cursor = s.swu.cursor)
    (hsince : t.swu.since = s.swu.since) : SinceKept s t := by
  have husable : t.dli.usable = s.dli.usable := by
    have h := congrArg Dli.usable hmedia
    exact h
  exact fun h => ⟨by rwa [State.CursorBelow, hcursor, husable], hsince⟩

theorem SinceKept.makeDue (s : State) : SinceKept s (makeDue s) := by
  intro h
  refine SinceKept.of_same (by simp) ?_ ?_ h <;>
  · unfold Machine.makeDue
    split
    · rfl
    · split
      · rfl
      · split
        next u c husable hcursor =>
          rw [if_pos (h c u hcursor husable)]
          simp [requestWindow]
        next => rfl

/-- An operation issued moves only the state of the sweep (R143). -/
theorem issue_swu (d : Fin 4) (r : DReq) (s : State) : (issue d r s).swu = { s.swu with state := (issue d r s).swu.state } := by
  unfold issue tellIssued
  split <;> rfl

theorem sinceKept_closing : Closing SinceKept where
  refl s := .of_same rfl rfl rfl
  trans h1 h2 h := by
    obtain ⟨hbelow, hsince⟩ := h1 h
    obtain ⟨hbelow', hsince'⟩ := h2 hbelow
    exact ⟨hbelow', hsince'.trans hsince⟩
  startJob b x s _ _ := .of_same (by simp) (by simp) (by simp)
  dataWaits s := .of_same (by simp) (by simp) (by simp)
  releaseHold s := by
    unfold Machine.releaseHold
    split
    · exact .makeDue s
    · exact .of_same rfl rfl rfl
  issue d r s _ _ := .of_same (by simp) (by rw [issue_swu]) (by rw [issue_swu])
  cipherTake s := .of_same (by simp) (by simp) (by simp)
  grant s := .of_same (by simp) (by simp) (by simp)
  judge s := .of_same (by simp) (by simp) (by simp)

/-! ## The result of an earlier pass (R142, R148) -/

/-- The result of a DISCARD of an earlier pass is dropped, whatever it is (R148). -/
theorem windowResult_dropped {s : State} (h : s.swu.dropResult = true) (r : WindowResult) (n : Nat) :
    windowResult r n s = s.setSwu { s.swu with discardOut := false, dropResult := false } := by
  simp [windowResult, h]

theorem settle_resultDropped {s u : State} (hwrite : s.swu.writeOut = false)
    (hswu : u.swu = { s.swu with discardOut := false, dropResult := false }) (hks : u.ks = s.ks) (htxns : u.txns = s.txns)
    (hmedia : u.dli.media = s.dli.media) (husable : u.dli.usable = s.dli.usable) (hops : u.userOps ≤ s.userOps) :
    s.ResultDropped (settle u) where
  kept := by simp [hswu]
  since h := by
    have hbelow : u.CursorBelow := fun b n hb hn => h b n (by simpa [hswu] using hb) (by rwa [husable] at hn)
    rw [(sinceKept_closing.settle u hbelow).2, hswu]
  nothing hne := by
    obtain ⟨hswu', hks'⟩ := (settle_sweep u).still (by rwa [hswu])
    exact ⟨hswu'.trans hswu, hks'.trans hks⟩
  due b n hissuing hhold hcursor husable' hb hok hnone huser :=
    settle_releases ⟨by rw [hswu], by rw [hswu]; exact hwrite, by rw [hswu]; exact hhold, hmedia.trans hok, husable.trans husable',
      by rw [hswu]; exact hcursor⟩ (by rw [hswu]; exact hissuing) (by omega) (by rwa [htxns]) hb
  paused hissuing hne hnone := by
    obtain ⟨hswu', hks'⟩ := settle_pauses (s := u) (by rw [hswu]) (by rw [hswu]; exact hwrite) (by rw [hswu]; exact hissuing) (by omega)
      (by rwa [hmedia])
    exact ⟨by rw [hswu', hswu], hks'.trans hks⟩

/-! ## DISCARD_COMPLETION (R144, R145, R146) -/

theorem exec_discard {s : State} {d : Byte} {c n : Nat} (hrun : s.power = .running) (hslot : s.InSlot d (.discard c n) .sweep)
    (status : Byte) (rest : List Byte) : exec (.discardCompletion d status rest) s = .next (settle
      (windowResult (if completionOk (.discard c n) 3 status rest then .ok else .error) n (s.lessSlot d))) :=
  exec_completion_slot hrun hslot status rest

/-- What follows a window discarded or skipped: the write of the cursor, or NONE at the end of the pass (R145, R146). -/
theorem settle_requestCursor (cursor : Option Nat) (skipped : Bool) (s : State) :
    (settle (requestCursor cursor skipped s)).swu.cursor = s.swu.cursor ∧
    (settle (requestCursor cursor skipped s)).swu.retry = s.swu.retry ∧
    (settle (requestCursor cursor skipped s)).swu.since = 0 ∧
    (settle (requestCursor cursor skipped s)).swu.writeOut = true ∧
    (settle (requestCursor cursor skipped s)).swu.discardOut = s.swu.discardOut ∧
    { bySweep := true, body := .dev { DevUpdate.none with
        cursor := some cursor, degraded := if skipped then some true else none } } ∈
      (settle (requestCursor cursor skipped s)).ks.queue := by
  obtain ⟨hswu, hqueue⟩ := requestCursor_spec cursor skipped s
  obtain ⟨hcursor, hsince, hout, hwrite, -⟩ := settle_swu_out (s := requestCursor cursor skipped s) (by simp [hswu])
  rw [hcursor, hsince, hout, hwrite, settle_retry, hswu]
  exact ⟨rfl, rfl, rfl, rfl, rfl, settle_queue hqueue⟩

/-- The sweep as a window of `n` pages discarded leaves it, where it may go on (R144). -/
def State.advanced (s : State) (d : Byte) (c n since : Nat) : State :=
  (s.lessSlot d).setSwu { s.swu with discardOut := false, cursor := some (c + n), retry := false, since := since }

theorem windowResult_ok {s : State} {d : Byte} {c n : Nat} (hcursor : s.swu.cursor = some c) (hdrop : s.swu.dropResult = false) :
    windowResult .ok n (s.lessSlot d) = afterAdvance (c + n) false (s.advanced d c n (s.swu.since + 1)) := by
  simp [windowResult, State.lessSlot, hcursor, hdrop, State.advanced]

theorem windowResult_skip {s : State} {d : Byte} {c n : Nat} (hcursor : s.swu.cursor = some c) (hdrop : s.swu.dropResult = false)
    (hretry : s.swu.retry = true) :
    windowResult .error n (s.lessSlot d) = afterAdvance (c + n) true (s.advanced d c n 16) := by
  simp [windowResult, State.lessSlot, hcursor, hdrop, hretry, State.advanced]

theorem windowResult_retry {s : State} {d : Byte} {n : Nat} (hdrop : s.swu.dropResult = false) (hretry : s.swu.retry = false) :
    windowResult .error n (s.lessSlot d) =
      makeDue ((s.lessSlot d).setSwu { s.swu with discardOut := false, retry := true }) := by
  simp [windowResult, State.lessSlot, hdrop, hretry]

theorem afterAdvance_eq {s : State} {u : Nat} (husable : s.dli.usable = some u) (c : Nat) (skipped : Bool) :
    afterAdvance c skipped s = if u ≤ c then requestCursor none skipped s
      else if 16 ≤ s.swu.since then requestCursor (some c) skipped s else makeDue s := by
  simp [afterAdvance, husable]

theorem discardCompletion_ok {s : State} {d : Byte} {c n u : Nat} (hrun : s.power = .running)
    (hslot : s.InSlot d (.discard c n) .sweep) (hcursor : s.swu.cursor = some c) (husable : s.dli.usable = some u)
    (hok : s.dli.media = .ok) (hdrop : s.swu.dropResult = false) (hhold : s.swu.hold = false) (hwrite : s.swu.writeOut = false) :
    ∃ t, exec (.discardCompletion d 0 []) s = .next t ∧ t.swu.cursor = some (c + n) ∧ t.swu.retry = false ∧
      (c + n < u → s.swu.since + 1 < 16 → t.swu.since = s.swu.since + 1 ∧ t.swu.writeOut = false ∧
        t.swu.discardOut = true ∧ t.Asked (.discard (c + n) (min 256 (u - (c + n)))) .sweep) ∧
      (c + n < u → 16 ≤ s.swu.since + 1 → t.swu.since = 0 ∧ t.swu.writeOut = true ∧ t.swu.discardOut = false ∧
        { bySweep := true, body := .dev { DevUpdate.none with cursor := some (some (c + n)) } } ∈ t.ks.queue) ∧
      (u ≤ c + n → t.swu.writeOut = true ∧ t.swu.discardOut = false ∧
        { bySweep := true, body := .dev { DevUpdate.none with cursor := some none } } ∈ t.ks.queue) := by
  have hexec := exec_discard hrun hslot 0 []
  rw [if_pos (by simp [completionOk, completionRest, DOp.code]), windowResult_ok hcursor hdrop,
    afterAdvance_eq (s := s.advanced d c n (s.swu.since + 1)) husable] at hexec
  refine ⟨_, hexec, ?_⟩
  by_cases hend : u ≤ c + n
  · rw [if_pos hend]
    obtain ⟨hcursor', hretry', -, hwrite', hout', hqueue⟩ := settle_requestCursor none false (s.advanced d c n (s.swu.since + 1))
    exact ⟨hcursor', hretry', fun h => by omega, fun h => by omega, fun _ => ⟨hwrite', hout', hqueue⟩⟩
  rw [if_neg hend]
  by_cases hpersist : 16 ≤ s.swu.since + 1
  · rw [if_pos (show 16 ≤ (s.advanced d c n (s.swu.since + 1)).swu.since from hpersist)]
    obtain ⟨hcursor', hretry', hsince', hwrite', hout', hqueue⟩ :=
      settle_requestCursor (some (c + n)) false (s.advanced d c n (s.swu.since + 1))
    exact ⟨hcursor', hretry', fun _ h => by omega, fun _ _ => ⟨hsince', hwrite', hout', hqueue⟩, fun h => by omega⟩
  · rw [if_neg (show ¬ 16 ≤ (s.advanced d c n (s.swu.since + 1)).swu.since from hpersist)]
    have hdue : (s.advanced d c n (s.swu.since + 1)).MayMakeDue (c + n) u := ⟨rfl, hwrite, hhold, hok, husable, rfl⟩
    obtain ⟨hswu, -, hasked⟩ := hdue.window (by omega)
    obtain ⟨hcursor', hsince', hout', hwrite', -⟩ := settle_swu_out
      (s := makeDue (s.advanced d c n (s.swu.since + 1))) (by simp [hswu])
    refine ⟨by rw [hcursor', hswu]; rfl, by rw [settle_retry, hswu]; rfl, fun _ _ => ⟨by rw [hsince', hswu]; rfl, ?_,
      by rw [hout', hswu], settle_asked hasked⟩, fun _ h => by omega, fun h => by omega⟩
    rw [hwrite', hswu]
    exact hwrite

theorem discardCompletion_error {s : State} {d : Byte} {c n u : Nat} (hrun : s.power = .running)
    (hslot : s.InSlot d (.discard c n) .sweep) (hcursor : s.swu.cursor = some c) (husable : s.dli.usable = some u)
    (hok : s.dli.media = .ok) (hc : c < u) (hdrop : s.swu.dropResult = false) (hhold : s.swu.hold = false)
    (hwrite : s.swu.writeOut = false) {status : Byte} (hstatus : status ≠ 0) (rest : List Byte) :
    ∃ t, exec (.discardCompletion d status rest) s = .next t ∧
      (s.swu.retry = false → t.swu.cursor = some c ∧ t.swu.retry = true ∧ t.swu.since = s.swu.since ∧
        t.Asked (.discard c (min 256 (u - c))) .sweep) ∧
      (s.swu.retry = true → t.swu.cursor = some (c + n) ∧ t.swu.retry = false ∧ t.swu.since = 0 ∧
        t.swu.writeOut = true ∧
        { bySweep := true, body := .dev { DevUpdate.none with
            cursor := some (if u ≤ c + n then none else some (c + n)), degraded := some true } } ∈ t.ks.queue) := by
  have hexec := exec_discard hrun hslot status rest
  rw [completionOk_of_status hstatus, if_neg (by simp)] at hexec
  refine ⟨_, hexec, fun hretry => ?_, fun hretry => ?_⟩
  · rw [windowResult_retry hdrop hretry]
    have hdue : ((s.lessSlot d).setSwu { s.swu with discardOut := false, retry := true }).MayMakeDue c u :=
      ⟨rfl, hwrite, hhold, hok, husable, hcursor⟩
    obtain ⟨hswu, -, hasked⟩ := hdue.window hc
    obtain ⟨hcursor', hsince', -⟩ := settle_swu_out
      (s := makeDue ((s.lessSlot d).setSwu { s.swu with discardOut := false, retry := true })) (by simp [hswu])
    exact ⟨by rw [hcursor', hswu]; exact hcursor, by rw [settle_retry, hswu]; rfl, by rw [hsince', hswu]; rfl, settle_asked hasked⟩
  · rw [windowResult_skip hcursor hdrop hretry, afterAdvance_eq (s := s.advanced d c n 16) husable]
    have hpersist : 16 ≤ (s.advanced d c n 16).swu.since := Nat.le_refl 16
    rw [if_pos hpersist]
    split
    · obtain ⟨hcursor', hretry', hsince', hwrite', -, hqueue⟩ := settle_requestCursor none true (s.advanced d c n 16)
      exact ⟨hcursor', hretry', hsince', hwrite', hqueue⟩
    · obtain ⟨hcursor', hretry', hsince', hwrite', -, hqueue⟩ := settle_requestCursor (some (c + n)) true (s.advanced d c n 16)
      exact ⟨hcursor', hretry', hsince', hwrite', hqueue⟩

theorem userOps_lessSlot (s : State) (d : Byte) : (s.lessSlot d).userOps ≤ s.userOps :=
  Nat.add_le_add_left (List.filter_sublist.filter _).length_le _

/-- Each result moves the sweep as its table gives, and one of an earlier pass moves nothing. -/
theorem discardCompletion_spec : Obligations.DiscardCompletion := by
  refine ⟨fun s d c n u hrun hslot hcursor husable hok hc hdrop hhold hwrite =>
    ⟨discardCompletion_ok hrun hslot hcursor husable hok hdrop hhold hwrite,
      fun status rest hstatus => discardCompletion_error hrun hslot hcursor husable hok hc hdrop hhold hwrite hstatus rest⟩,
    fun s d c n hrun hslot hdrop hwrite status rest => ⟨_, exec_discard hrun hslot status rest, ?_⟩⟩
  rw [windowResult_dropped (s := s.lessSlot d) hdrop]
  exact settle_resultDropped hwrite rfl rfl rfl rfl rfl (userOps_lessSlot s d)

end Sys2Proof.Machine

namespace Sys2Proof

/-- Settles O41. -/
theorem discardCompletion : Obligations.DiscardCompletion := Machine.discardCompletion_spec

end Sys2Proof


/-! PROOF. The ERROR completions that the DLI gives (R73): each is taken by its owner. -/

namespace Sys2Proof.Machine

open Sys2Proof

theorem exec_errorCompletionTaken {s : State} {o : Owner} {e : PendingError} (hrun : s.power = .running)
    (he : s.dli.errors.find? (fun e => e.owner == o) = some e) :
    exec (.errorCompletionTaken o) s = .next (settle (ownerTakes e.op o false true [] (s.lessError e))) := by
  simp only [exec, execErrorCompletionTaken, State.whenPowered, if_neg (show ¬ s.power = .off by simp [hrun]), takeError, he]
  rfl

/-- An ERROR completion of a job is nothing that a transaction waits on. -/
theorem lessError_keepsWork {s : State} {e : PendingError} {b : Fin 8} (he : e.owner = .job b) (t : Fin 16) :
    ((s.lessError e).lessBuffer b).KeepsWork t ↔ (s.lessBuffer b).KeepsWork t := by
  have herrors : (∃ e' ∈ s.dli.errors.erase e, e'.owner = .flush t ∧ e'.issued = true) ↔
      ∃ e' ∈ s.dli.errors, e'.owner = .flush t ∧ e'.issued = true := by
    refine ⟨fun ⟨e', he', h⟩ => ⟨e', List.mem_of_mem_erase he', h⟩, fun ⟨e', he', h⟩ => ⟨e', ?_, h⟩⟩
    refine (List.mem_erase_of_ne ?_).2 he'
    rintro rfl
    simp [he] at h
  unfold State.KeepsWork
  exact or_congr Iff.rfl (or_congr Iff.rfl (or_congr herrors Iff.rfl))

/-- The transaction of a job whose operation is completed ERROR fails, and those whose mark held it ask for their SYNC. -/
theorem errorTaken_job {s : State} {o : Owner} {e : PendingError} (hrun : s.power = .running)
    (he : s.dli.errors.find? (fun e => e.owner == o) = some e) {b : Fin 8} {j : Job} {x : Txn} {p : Nat} (ho : o = .job b)
    (hop : e.op = .pageRead p ∨ e.op = .pageWrite p) (hj : s.job? b = some j) (hkept : j.abandoned = false)
    (hx : s.txn? j.owner = some x) (hactive : x.phase = .active) (hfresh : x.failure = none) :
    ∃ t y, exec (.errorCompletionTaken o) s = .next t ∧ t.txn? j.owner = some y ∧
      y.failure = some .mediaFault ∧ y.done = x.done ∧ y.phase ≠ .active ∧ t.ind.slot = s.ind.slot ∧
      s.OthersKept t j.owner ∧
      (s.TagsOk → y.MovesOn ((s.lessBuffer b).KeepsWork j.owner) .mediaFault ∧
        (e.op = .pageWrite p → (∀ z ∈ t.txns, z.marks b = false) ∧ (x.kind ≠ .flush → s.SyncsAsked t b))) := by
  subst ho
  have howner : e.owner = .job b := by simpa using List.find?_some he
  have hbuf := State.buf_of_job? hj
  have hexec := exec_errorCompletionTaken hrun he
  have hend : ownerTakes e.op (.job b) false true [] (s.lessError e) = (s.lessError e).opFailed e.op j :=
    jobCompletion_failed (s := s.lessError e) hj hkept hop []
  rw [hend] at hexec
  obtain ⟨y, hy, hfailure, hdone, hmoves⟩ := settle_opFailed_active (op := e.op) (s := s.lessError e) hx hactive hfresh
  rw [hbuf, lessError_keepsWork howner] at hmoves
  refine ⟨_, y, hexec, hy, hfailure, hdone, hmoves.not_active, ?_,
    ((State.OthersKept.of_same (t := s.lessError e) rfl _).trans (.opFailed _ j _)).settle, fun htags => ⟨hmoves, fun hwrite => ?_⟩⟩
  · rw [settle_slot, ((s.lessError e).opFailed_same _ j).2]
    rfl
  · rw [hwrite, ← hbuf]
    exact ⟨settle_marks (State.opFailed_marks p j _), settle_opFailed_syncsAsked (u := s.lessError e) rfl rfl htags p hx⟩

theorem errorTaken_draining {s : State} {o : Owner} {e : PendingError} (hrun : s.power = .running)
    (he : s.dli.errors.find? (fun e => e.owner == o) = some e) {b : Fin 8} {j : Job} {x : Txn} {p : Nat} {f : Failure}
    (ho : o = .job b) (hop : e.op = .pageRead p ∨ e.op = .pageWrite p) (hj : s.job? b = some j) (hkept : j.abandoned = false)
    (hx : s.txn? j.owner = some x) (hdraining : x.phase = .draining) (hf : x.failure = some f) :
    ∃ t y, exec (.errorCompletionTaken o) s = .next t ∧ t.txn? j.owner = some y ∧ y.failure = some f ∧
      y.done = x.done ∧ y.MovesOn ((s.lessBuffer b).KeepsWork j.owner) f.outcome ∧ s.OthersKept t j.owner := by
  subst ho
  have howner : e.owner = .job b := by simpa using List.find?_some he
  have hexec := exec_errorCompletionTaken hrun he
  have hend : ownerTakes e.op (.job b) false true [] (s.lessError e) = (s.lessError e).opFailed e.op j :=
    jobCompletion_failed (s := s.lessError e) hj hkept hop []
  rw [hend] at hexec
  obtain ⟨y, hy, hfailure, hdone, hmoves⟩ := settle_opFailed_draining (op := e.op) (s := s.lessError e) hx hdraining hf
  rw [State.buf_of_job? hj, lessError_keepsWork howner] at hmoves
  exact ⟨_, y, hexec, hy, hfailure, hdone, hmoves,
    ((State.OthersKept.of_same (t := s.lessError e) rfl _).trans (.opFailed _ j _)).settle⟩

theorem errorTaken_abandoned {s : State} {o : Owner} {e : PendingError} (hrun : s.power = .running)
    (he : s.dli.errors.find? (fun e => e.owner == o) = some e) {b : Fin 8} {j : Job} {p : Nat} (ho : o = .job b)
    (hj : s.job? b = some j) (habandoned : j.abandoned = true) :
    ∃ t, exec (.errorCompletionTaken o) s = .next t ∧ s.EndsAbandoned t b ∧ t.ubp.mem = s.ubp.mem ∧
      (e.op = .pageWrite p → (∀ z ∈ t.txns, z.marks b = false) ∧ (s.TagsOk → s.SyncsAsked t b)) := by
  subst ho
  have hexec := exec_errorCompletionTaken hrun he
  have hend : ownerTakes e.op (.job b) false true [] (s.lessError e) = (s.lessError e).jobGone e.op j :=
    jobCompletion_abandoned (s := s.lessError e) hj habandoned e.op false []
  rw [hend] at hexec
  have hbuf := State.buf_of_job? hj
  refine ⟨_, hexec, ?_⟩
  rw [← hbuf]
  refine ⟨ settle_jobGone_endsAbandoned (u := s.lessError e) rfl rfl e.op j, settle_jobGone_mem e.op j _, fun hwrite => ?_⟩
  rw [hwrite]
  exact ⟨settle_marks (State.jobGone_marks p j _), fun htags => settle_jobGone_syncsAsked (u := s.lessError e) rfl rfl htags p j⟩

/-! ## The SYNC of a FLUSH (R76) -/

/-- A SYNC that has failed fails its FLUSH, or is the last work that a DRAINING one waits on (R23, R76). -/
theorem settle_syncFailed_active {f : Fin 16} {s : State} {x : Txn} (hx : s.txn? f = some x) (hactive : x.phase = .active)
    (hfresh : x.failure = none) : ∃ y, (settle (syncEnd f false s)).txn? f = some y ∧ y.failure = some .mediaFault ∧
      y.MovesOn (s.KeepsWork f) .mediaFault := by
  have hend : syncEnd f false s = failTxn f .mediaFault s := by simp [syncEnd, hx, hactive]
  rw [hend]
  obtain ⟨y, hy, hfailure, -, hmoves⟩ := settle_failTxn_txn? hx hactive hfresh .mediaFault
  exact ⟨y, hy, hfailure, hmoves⟩

theorem settle_syncEnd_draining {f : Fin 16} {s : State} {x : Txn} (hx : s.txn? f = some x) (hdraining : x.phase = .draining)
    {g : Failure} (hg : x.failure = some g) (ok : Bool) : ∃ y, (settle (syncEnd f ok s)).txn? f = some y ∧ y.failure = some g ∧
      y.MovesOn (s.KeepsWork f) g.outcome := by
  have hend : syncEnd f ok s = progress f s := by simp [syncEnd, hx, hdraining]
  obtain ⟨-, hfailed, -⟩ := Txn.progressed_fields (s.stillWaits f) x
  obtain ⟨y, hy, hfailure, -, hmoves⟩ := settle_txn?_movesOn (progress_txn? hx)
    (Txn.progressed_draining hdraining hg (State.stillWaits_iff s f))
  rw [hend]
  exact ⟨y, hy, hfailure.trans (hfailed.trans hg), hmoves⟩

/-! ## The sweep (R144, R147) -/

/-- LOST leaves the sweep where it was, and makes its window due again (R144). -/
theorem windowResult_lost {s : State} (h : s.swu.dropResult = false) (n : Nat) :
    windowResult .lost n s = makeDue (s.setSwu { s.swu with discardOut := false }) := by
  simp [windowResult, h]

theorem errorTaken_sweep {s : State} {e : PendingError} {c n : Nat} (hop : e.op = .discard c n) :
    ownerTakes e.op .sweep false true [] (s.lessError e) = windowResult .lost n (s.lessError e) := by
  rw [hop]
  rfl

theorem makeDue_retry (s : State) : (makeDue s).swu.retry = s.swu.retry := by
  unfold makeDue
  split
  · rfl
  · split
    · rfl
    · split
      · split <;> simp [requestWindow, requestCursor]
      · rfl

/-- Settles O42, by the kind of the owner and its phase. -/
theorem errorCompletionTaken : Obligations.ErrorCompletionTaken := by
  intro s o e hrun he
  refine ⟨fun b j x p ho hop hj hkept hx hactive hfresh => errorTaken_job hrun he ho hop hj hkept hx hactive hfresh,
    fun b j x p f ho hop hj hkept hx hdraining hf _ => errorTaken_draining hrun he ho hop hj hkept hx hdraining hf,
    fun b j p ho _ hj habandoned => errorTaken_abandoned hrun he ho hj habandoned, fun f x ho hx hactive hfresh => ?_,
    fun f x g ho hx hdraining hg => ?_, fun c n ho hop hdrop hwrite hheld => ?_,
    fun c n b u ho hop hdrop hwrite hok hhold hcursor husable => ?_, fun c n ho hop hdrop hwrite => ?_⟩ <;>
    subst ho <;> have hexec := exec_errorCompletionTaken hrun he
  · obtain ⟨y, hy, hfailure, hmoves⟩ := settle_syncFailed_active (s := s.lessError e) hx hactive hfresh
    exact ⟨_, y, hexec, hy, hfailure, hmoves.not_active, hmoves⟩
  · obtain ⟨y, hy, hfailure, hmoves⟩ := settle_syncEnd_draining (s := s.lessError e) hx hdraining hg false
    exact ⟨_, y, hexec, hy, hfailure, hmoves⟩
  · rw [errorTaken_sweep hop, windowResult_lost (s := s.lessError e) hdrop,
      makeDue_paused (s := (s.lessError e).setSwu { (s.lessError e).swu with discardOut := false }) rfl hwrite hheld] at hexec
    obtain ⟨hswu, hks⟩ := (settle_sweep (((s.lessError e).setSwu { s.swu with discardOut := false }).setSwu
      { s.swu with discardOut := false, state := .paused })).still (by simp)
    exact ⟨_, hexec, hswu, hks⟩
  · rw [errorTaken_sweep hop, windowResult_lost (s := s.lessError e) hdrop] at hexec
    have hdue : ((s.lessError e).setSwu { s.swu with discardOut := false }).MayMakeDue b u :=
      ⟨rfl, hwrite, hhold, hok, husable, hcursor⟩
    obtain ⟨hwindow, hkept⟩ := hdue.windowDue
    refine ⟨_, hexec, hwindow, ?_, hkept⟩
    rw [settle_retry, (makeDue_retry _)]
    rfl
  · rw [errorTaken_sweep hop, windowResult_dropped (s := s.lessError e) hdrop] at hexec
    exact ⟨_, hexec, settle_resultDropped hwrite rfl rfl rfl rfl rfl (Nat.le_refl _)⟩

end Sys2Proof.Machine


/-! PROOF. Who is given the buffers that an event leaves free (R46), and what the jobs are that start in them (R9, R10, R47). -/

namespace Sys2Proof.Machine

open Sys2Proof

/-! ## What follows the giving of buffers -/

/-- The relation is met by each step of the closure of an event that comes after the giving of buffers. -/
structure Serving (R : State → State → Prop) : Prop where
  refl : ∀ s, R s s
  trans : ∀ {s t u}, R s t → R t u → R s u
  dataWaits : ∀ s, R s (dataWaits s)
  releaseHold : ∀ s, R s (releaseHold s)
  issue : ∀ d r s, s.chosenRequest = some r → R s (issue d r s)
  cipherTake : ∀ s, R s (cipherTake s)
  grant : ∀ s, R s (grant s)
  judge : ∀ s, R s (judge s)

/-- The closure of an event after the giving of buffers. -/
def afterAllocate (s : State) : State := afterHold (releaseHold (dataWaits s))

theorem settle_eq_afterAllocate (s : State) : settle s = afterAllocate (allocate 8 s) := rfl

theorem Serving.issueAll {R : State → State → Prop} (w : Serving R) (n : Nat) (s : State) : R s (issueAll n s) := by
  induction n generalizing s with
  | zero => exact w.refl s
  | succ n ih =>
    unfold Machine.issueAll
    split
    next d r hd hr => exact w.trans (w.issue d r s hr) (ih _)
    · exact w.refl s

theorem Serving.afterAllocate {R : State → State → Prop} (w : Serving R) (s : State) : R s (Machine.afterAllocate s) :=
  w.trans (w.dataWaits s) (w.trans (w.releaseHold _) (w.trans (w.issueAll 4 _)
    (w.trans (w.cipherTake _) (w.trans (w.grant _) (w.judge _)))))

/-- What of a job decides who may be given a buffer. -/
def Job.claim (j : Job) : Fin 8 × Fin 16 × Nat := (j.buf, j.owner, j.unit)

/-- From `s` to `t` no buffer is given and none freed, and the table is as it was. -/
def ClaimsKept (s t : State) : Prop := t.txns = s.txns ∧ t.ubp.jobs.map Job.claim = s.ubp.jobs.map Job.claim

theorem ClaimsKept.of_map {s t : State} {f : Job → Job} (htxns : t.txns = s.txns) (hjobs : t.ubp.jobs = s.ubp.jobs.map f)
    (hf : ∀ j, (f j).claim = j.claim) : ClaimsKept s t := by
  refine ⟨htxns, ?_⟩
  rw [hjobs, List.map_map]
  exact List.map_congr_left fun j _ => hf j

theorem ClaimsKept.of_same {s t : State} (htxns : t.txns = s.txns) (hjobs : t.ubp.jobs = s.ubp.jobs) : ClaimsKept s t :=
  ⟨htxns, by rw [hjobs]⟩

theorem claimsKept_serving : Serving ClaimsKept where
  refl s := .of_same rfl rfl
  trans h1 h2 := ⟨h2.1.trans h1.1, h2.2.trans h1.2⟩
  dataWaits s := .of_map rfl (dataWaits_jobs s) fun j => by split <;> rfl
  releaseHold s := .of_same (by simp) (by simp)
  issue d r s _ := by
    obtain ⟨f, hf, hstays⟩ := issue_jobs d r s
    refine .of_map (by simp) hf fun j => ?_
    obtain ⟨hbuf, howner, hunit, -⟩ := (hstays j).fields
    simp [Job.claim, hbuf, howner, hunit]
  cipherTake s := by
    rcases cipherTake_jobs s with h | ⟨j, -, -, -, h⟩
    · exact .of_same (by simp) h
    · exact .of_map (by simp) h fun k => by split <;> rfl
  grant s := by
    rcases grant_jobs s with h | ⟨t, j, -, h⟩
    · exact .of_same (by simp) h
    · exact .of_map (by simp) h fun k => by split <;> rfl
  judge s := .of_same (by simp) (by simp)

theorem ClaimsKept.mem {s t : State} (h : ClaimsKept s t) {k : Job} (hk : k ∈ t.ubp.jobs) : ∃ j ∈ s.ubp.jobs, j.claim = k.claim :=
  List.mem_map.1 (h.2 ▸ List.mem_map_of_mem hk)

theorem ClaimsKept.symm {s t : State} (h : ClaimsKept s t) : ClaimsKept t s := ⟨h.1.symm, h.2.symm⟩

theorem ClaimsKept.wantsBuffer {s t : State} (h : ClaimsKept s t) {y : Txn} (hy : t.WantsBuffer y) : s.WantsBuffer y := by
  obtain ⟨hkind, hvolume, hactive, hfew, u, hu, hunits, hcovers⟩ := hy
  refine ⟨hkind, hvolume, hactive, hfew, u, hu, fun j hj => ?_, ?_⟩
  · obtain ⟨k, hk, hkj⟩ := h.symm.mem hj
    have hunit : k.unit = j.unit := by simpa [Job.claim] using congrArg (fun c => c.2.2) hkj
    exact hunit ▸ hunits k hk
  · rwa [State.older, h.1] at hcovers

/-! ## The oldest that wants one (R46) -/

/-- Older than `t`, no transaction wants a buffer. -/
def State.NoneWantBefore (s : State) (t : Fin 16) : Prop := ∀ y ∈ s.older t, ¬ s.WantsBuffer y

theorem mem_takeWhile_of_mem {l : List Txn} {t : Fin 16} {y z : Txn} (hy : y ∈ l.takeWhile (fun x => x.tag != t))
    (hz : z ∈ l.takeWhile (fun x => x.tag != y.tag)) : z ∈ l.takeWhile (fun x => x.tag != t) := by
  induction l with
  | nil => simp at hy
  | cons a l ih =>
    by_cases hat : a.tag = t
    · simp [hat] at hy
    · rw [List.takeWhile_cons_of_pos (by simpa using hat)] at hy ⊢
      by_cases hay : a.tag = y.tag
      · simp [hay] at hz
      · rw [List.takeWhile_cons_of_pos (by simpa using hay)] at hz
        rcases List.mem_cons.1 hz with rfl | hz
        · exact List.mem_cons_self
        · rcases List.mem_cons.1 hy with rfl | hy
          · exact absurd rfl hay
          · exact List.mem_cons_of_mem _ (ih hy hz)

/-- A change of a younger record leaves the older ones. -/
theorem older_updTxn {t tag : Fin 16} {f : Txn → Txn} (hf : ∀ x, (f x).tag = x.tag) {s : State}
    (h : ∀ y ∈ s.older t, y.tag ≠ tag) : (updTxn tag f s).older t = s.older t := by
  have hpred : ((fun x : Txn => x.tag != t) ∘ fun x => if x.tag = tag then f x else x) = fun x => x.tag != t := by
    funext x
    simp only [Function.comp_apply]
    split <;> simp [hf]
  rw [State.older, updTxn_txns, List.takeWhile_map, hpred]
  exact (List.map_congr_left fun y hy => if_neg (h y hy)).trans (List.map_id _)

theorem startJob_older {b : Fin 8} {x : Txn} {u : Nat} {s : State} {t : Fin 16} (h : ∀ y ∈ s.older t, y.tag ≠ x.tag) :
    (startJob b x u s).older t = s.older t := by
  have holder := older_updTxn (f := fun y => { y with nextUnit := some (u + 1), jobsHeld := y.jobsHeld + 1 }) (fun _ => rfl) h
  rwa [State.older, ← startJob_txns b x u s] at holder

theorem startJob_tagsOk {s : State} (h : s.TagsOk) (b : Fin 8) (x : Txn) (u : Nat) : (startJob b x u s).TagsOk :=
  (Terms.of_fixedPart (startJob_fixedPart b x u s)).tags h

/-- A buffer given to the first that wants one leaves those before it without a want. -/
theorem startJob_noneWantBefore {b : Fin 8} {x : Txn} {s : State} (htags : s.TagsOk) (hb : s.freeBuffer = some b)
    (hx : s.txns.find? s.eligible = some x) {t : Fin 16} (h : s.NoneWantBefore t) (u : Nat) :
    (startJob b x u s).NoneWantBefore t := by
  have hwants : s.WantsBuffer x := (s.eligible_iff x).1 (List.find?_some hx)
  have hne : ∀ y ∈ s.older t, y.tag ≠ x.tag := by
    intro y hy htag
    obtain rfl := htags.eq_of_tag ((List.takeWhile_sublist _).mem hy) (List.mem_of_find?_eq_some hx) htag
    exact h y hy hwants
  intro y hy hwants'
  rw [startJob_older hne] at hy
  obtain ⟨hkind, hvolume, hactive, hfew, v, hv, hunits, hcovers⟩ := hwants'
  have holder : (startJob b x u s).older y.tag = s.older y.tag :=
    startJob_older fun z hz => hne z (mem_takeWhile_of_mem hy hz)
  rw [holder] at hcovers
  refine h y hy ⟨hkind, hvolume, hactive, hfew, v, hv, fun j hj => hunits j ?_, hcovers⟩
  rw [startJob_jobs (State.freeBuffer_spec hb)]
  exact List.mem_append_left _ hj

theorem find?_noneWantBefore {s : State} {x : Txn} (hx : s.txns.find? s.eligible = some x) : s.NoneWantBefore x.tag := by
  obtain ⟨-, pre, post, htable, hpre⟩ := List.find?_eq_some_iff_append.1 hx
  intro y hy hwants
  rw [State.older, htable, List.takeWhile_append] at hy
  have hmem : y ∈ pre := by
    split at hy
    · rwa [List.takeWhile_cons_of_neg (by simp), List.append_nil] at hy
    · exact (List.takeWhile_sublist _).mem hy
  have hnot := hpre y hmem
  rw [(s.eligible_iff y).2 hwants] at hnot
  simp at hnot

theorem allocate_noneWantBefore {n : Nat} {s : State} (htags : s.TagsOk) {t : Fin 16} (h : s.NoneWantBefore t) :
    (allocate n s).NoneWantBefore t := by
  induction n generalizing s with
  | zero => exact h
  | succ n ih =>
    unfold allocate
    split
    next b x hb hx => exact ih (startJob_tagsOk htags b x _) (startJob_noneWantBefore htags hb hx h _)
    · exact h

/-- Each buffer goes to the oldest that wants one (R46). -/
theorem allocate_inOrder {n : Nat} {s : State} (htags : s.TagsOk) {k : Job} (hk : k ∈ (allocate n s).ubp.jobs) :
    k ∈ s.ubp.jobs ∨ (allocate n s).NoneWantBefore k.owner := by
  induction n generalizing s with
  | zero => exact .inl hk
  | succ n ih =>
    unfold allocate at hk ⊢
    split at hk
    next b x hb hx =>
      have htags' := startJob_tagsOk htags b x (x.nextUnit.getD 0)
      rcases ih htags' hk with hk | hk
      · rw [startJob_jobs (State.freeBuffer_spec hb), List.mem_append, List.mem_singleton] at hk
        rcases hk with hk | rfl
        · exact .inl hk
        · exact .inr (allocate_noneWantBefore htags' (startJob_noneWantBefore htags hb hx (find?_noneWantBefore hx) _))
      · exact .inr hk
    next => exact .inl hk

/-! ## No buffer stays free for one that wants it (R46) -/

/-- How many buffers are free (R42). -/
def State.freeCount (s : State) : Nat := (List.finRange 8).countP (fun b => !s.ubp.jobs.any (fun j => j.buf == b))

theorem startJob_freeCount {b : Fin 8} {s : State} (hb : s.freeBuffer = some b) (x : Txn) (u : Nat) :
    (startJob b x u s).freeCount < s.freeCount := by
  have hfree := State.freeBuffer_spec hb
  have hjobs := startJob_jobs hfree x u
  have himp : ∀ c : Fin 8, (!(startJob b x u s).ubp.jobs.any (fun j => j.buf == c)) = true →
      (!s.ubp.jobs.any (fun j => j.buf == c)) = true := by
    intro c hc
    simp only [hjobs, List.any_append, Bool.not_or, Bool.and_eq_true] at hc
    exact hc.1
  have hlost : ∃ c ∈ List.finRange 8, (!s.ubp.jobs.any (fun j => j.buf == c)) = true ∧
      (!(startJob b x u s).ubp.jobs.any (fun j => j.buf == c)) = false :=
    ⟨b, List.mem_finRange b, by simpa using hfree, by simp [hjobs, Job.started]⟩
  obtain ⟨c, hc, hwas, hnow⟩ := hlost
  rw [State.freeCount, State.freeCount, List.countP_eq_length_filter, List.countP_eq_length_filter]
  refine lt_of_le_of_ne (List.Sublist.length_le (List.monotone_filter_right _ fun c => himp c)) fun heq => ?_
  have hsame := (List.monotone_filter_right (List.finRange 8) fun c => himp c).eq_of_length heq
  have hmem : c ∈ (List.finRange 8).filter (fun b => !s.ubp.jobs.any (fun j => j.buf == b)) :=
    List.mem_filter.2 ⟨hc, hwas⟩
  rw [← hsame, List.mem_filter, hnow] at hmem
  simp at hmem

/-- While buffers are free each is given to one that wants it: none wants one that stays free. -/
theorem allocate_exhausts {n : Nat} {s : State} (hn : s.freeCount ≤ n) :
    (allocate n s).freeBuffer = none ∨ ∀ y ∈ (allocate n s).txns, ¬ (allocate n s).WantsBuffer y := by
  induction n generalizing s with
  | zero =>
    refine .inl (List.find?_eq_none.2 fun b hb hfree => ?_)
    have hnone := List.countP_eq_zero.1 (Nat.le_zero.1 hn) b hb
    exact hnone hfree
  | succ n ih =>
    unfold allocate
    split
    next b x hb hx => exact ih (by have := startJob_freeCount hb x (x.nextUnit.getD 0); omega)
    next hnone =>
      by_cases hb : s.freeBuffer = none
      · exact .inl hb
      · obtain ⟨b, hb⟩ := Option.ne_none_iff_exists'.1 hb
        refine .inr fun y hy hwants => ?_
        cases hx : s.txns.find? s.eligible with
        | none => exact List.find?_eq_none.1 hx y hy ((s.eligible_iff y).2 hwants)
        | some x => exact hnone b x hb hx

theorem State.freeCount_le (s : State) : s.freeCount ≤ 8 := by
  have h := List.countP_le_length (p := fun b : Fin 8 => !s.ubp.jobs.any (fun j => j.buf == b)) (l := List.finRange 8)
  simpa [State.freeCount] using h

/-- The buffers that an event leaves free go to the oldest that want one (R46). -/
theorem settle_buffersInOrder {s : State} (htags : s.TagsOk) : s.BuffersInOrder (settle s) := by
  have hclaims := claimsKept_serving.afterAllocate (allocate 8 s)
  rw [← settle_eq_afterAllocate] at hclaims
  refine ⟨fun k hk hnew y hy hwants => ?_, fun ⟨b, hb⟩ y hy hwants => ?_⟩
  · obtain ⟨i, hi, hik⟩ := hclaims.mem hk
    simp only [Job.claim, Prod.mk.injEq] at hik
    obtain ⟨hbuf, howner, hunit⟩ := hik
    rw [State.older, hclaims.1, ← howner] at hy
    rcases allocate_inOrder htags hi with hold | hbefore
    · exact hnew i hold ⟨hbuf, howner, hunit⟩
    · exact hbefore y hy (hclaims.wantsBuffer hwants)
  · rcases allocate_exhausts s.freeCount_le with hnone | hnone
    · obtain ⟨i, hi, hbuf⟩ := State.freeBuffer_none hnone b
      obtain ⟨k, hk, hki⟩ := hclaims.symm.mem hi
      exact hb k hk ((congrArg Prod.fst hki).trans hbuf)
    · exact hnone y (hclaims.1 ▸ hy) (hclaims.wantsBuffer hwants)

theorem State.BuffersInOrder.before {r s t : State} (h : s.BuffersInOrder t) (hfrom : JobsFrom r s) : r.BuffersInOrder t := by
  refine ⟨fun k hk hnew => h.1 k hk fun j hj hsame => ?_, h.2⟩
  obtain ⟨i, hi, hbuf, hunit, howner⟩ := hfrom.mem hj
  exact hnew i hi ⟨hbuf.symm.trans hsame.1, howner.symm.trans hsame.2.1, hunit.symm.trans hsame.2.2⟩

end Sys2Proof.Machine


/-! PROOF. The jobs that start in the buffers given in an event (R9, R10, R47, R52): their units, the split, and what is asked for. -/

namespace Sys2Proof.Machine

open Sys2Proof

/-! ## The split of a unit (R9, R10) -/

/-- The first offset, the count and the kind of a unit by the split. -/
theorem started_split {lba m : Nat} (hm : 1 ≤ m) (u : Nat) (kind : TxKind) :
    (Fin.ofNat 8 (splitFirst lba u)).val = (if u = lba / 8 then lba % 8 else 0) ∧
    (Fin.ofNat 8 (splitFirst lba u)).val + splitCount lba m u = (if u = (lba + m - 1) / 8 then (lba + m - 1) % 8 + 1 else 8) ∧
    splitKind kind lba m u = (if kind = .read then .read else if splitCount lba m u = 8 then .writeFull else .writeMerge) := by
  have hfirst : (Fin.ofNat 8 (splitFirst lba u)).val = splitFirst lba u := by
    refine Nat.mod_eq_of_lt ?_
    rw [splitFirst_eq]
    split_ifs <;> omega
  rw [hfirst]
  refine ⟨splitFirst_eq lba u, ?_, ?_⟩
  · rw [splitCount, splitLast_eq, splitFirst_eq]
    split_ifs <;> omega
  · have hcovers : splitFirst lba u = 0 ∧ splitLast lba m u = 7 ↔ splitCount lba m u = 8 := by
      rw [splitCount, splitLast_eq, splitFirst_eq]
      split_ifs <;> omega
    simp only [splitKind, hcovers]

/-! ## What stays asked of the link -/

/-- From `s` to `t` what is asked of the link stays asked, and so do the ERROR completions; the media is as it was. -/
structure LinkKept (s t : State) : Prop where
  asked : ∀ op o, s.Asked op o → t.Asked op o
  errors : ∀ e ∈ s.dli.errors, e ∈ t.dli.errors
  media : t.dli.media = s.dli.media
  usable : t.dli.usable = s.dli.usable

theorem LinkKept.of_follows {s t : State} (h : Follows s t) (hmedia : t.dli.mediaPart = s.dli.mediaPart) : LinkKept s t where
  asked := h.asked
  errors e he := by
    obtain ⟨l, hl, -⟩ := h.errors
    rw [hl]
    exact List.mem_append_left _ he
  media := by
    have h := congrArg Dli.media hmedia
    exact h
  usable := by
    have h := congrArg Dli.usable hmedia
    exact h

/-! ## The jobs started (R47) -/

/-- The page read of a job that has started is asked for, or completed ERROR where it cannot be placed (R52, R66). -/
def State.ReadAsked (s : State) (k : Job) : Prop :=
  (s.dli.media = .ok → k.unit < s.dli.usable.getD 0 → s.Asked (.pageRead k.unit) (.job k.buf)) ∧
  (s.dli.media ≠ .ok ∨ s.dli.usable.getD 0 ≤ k.unit →
    { op := .pageRead k.unit, owner := .job k.buf, issued := false } ∈ s.dli.errors)

theorem State.ReadAsked.kept {s t : State} {k : Job} (h : s.ReadAsked k) (hkept : LinkKept s t) : t.ReadAsked k := by
  unfold State.ReadAsked
  rw [hkept.media, hkept.usable]
  exact ⟨fun hok hu => hkept.asked _ _ (h.1 hok hu), fun hne => hkept.errors _ (h.2 hne)⟩

/-- A page read requested is asked for (R66). -/
theorem makeRequest_readAsked {s t : State} {b : Fin 8} {u : Nat} (hdli : t.dli = (makeRequest (.pageRead u) (.job b) s).dli)
    {k : Job} (hbuf : k.buf = b) (hunit : k.unit = u) : t.ReadAsked k := by
  have hadmissible : s.admissible (.pageRead u) = true ↔ s.dli.media = .ok ∧ u < s.dli.usable.getD 0 := by
    simp [State.admissible]
  unfold State.ReadAsked State.Asked
  rw [hdli, makeRequest_dli, hbuf, hunit]
  split
  next h =>
    obtain ⟨hok, hu⟩ := hadmissible.1 h
    exact ⟨fun _ _ => .inl ⟨_, List.mem_append_right _ List.mem_cons_self, rfl, rfl⟩,
      fun hne => absurd hok (hne.resolve_right (by simpa using hu))⟩
  next h =>
    refine ⟨fun hok hu => absurd (hadmissible.2 ⟨hok, hu⟩) h, fun _ => List.mem_append_right _ List.mem_cons_self⟩

/-- What a job that started for the record `z` is, in the state `s` (R9, R10, R47). -/
structure State.StartedFor (s : State) (z : Txn) (k : Job) : Prop where
  fresh : k.sent = 0 ∧ k.abandoned = false
  split : k.first = Fin.ofNat 8 (splitFirst z.first k.unit) ∧ k.count = splitCount z.first z.m k.unit ∧
    k.kind = splitKind z.kind z.first z.m k.unit
  unit : k.unit ≤ z.lastU
  full : k.kind = .writeFull → k.state = .dataQueue ∨ k.state = .dataWait
  read : k.kind ≠ .writeFull → k.state = .mediaRead ∧ s.ReadAsked k

/-- The buffers given from `r` to `s` for the record `z`: its jobs started, its next unit and its jobs held advanced (R47). -/
structure Gave (r : State) (z : Txn) (s : State) : Prop where
  record : ∃ w ∈ s.txns, (∀ x ∈ s.txns, x.tag = z.tag → x = w) ∧ w.fixedPart = z.fixedPart ∧
    w.nextUnit = z.nextUnit.map (· + (s.started r.ubp.jobs z.tag).length) ∧
    w.jobsHeld = z.jobsHeld + (s.started r.ubp.jobs z.tag).length
  units : ∀ i k, (s.started r.ubp.jobs z.tag)[i]? = some k → z.nextUnit = some (k.unit - i) ∧ i ≤ k.unit
  jobs : ∀ k ∈ s.started r.ubp.jobs z.tag, s.StartedFor z k
  starting : ∀ k ∈ s.ubp.jobs, (∀ j ∈ r.ubp.jobs, j.buf ≠ k.buf) → k.state.Starting

theorem State.mem_started {s : State} {kept : List Job} {t : Fin 16} {k : Job} :
    k ∈ s.started kept t ↔ k ∈ s.ubp.jobs ∧ k.owner = t ∧ ∀ j ∈ kept, j.buf ≠ k.buf := by
  simp [State.started]

/-- Nothing has started yet. -/
theorem Gave.refl {r : State} {z : Txn} (hz : z ∈ r.txns) (huniq : ∀ x ∈ r.txns, x.tag = z.tag → x = z) : Gave r z r := by
  have hnone : r.started r.ubp.jobs z.tag = [] := by
    rw [State.started, List.filter_eq_nil_iff]
    intro k hk hstarted
    simp only [Bool.and_eq_true, List.all_eq_true, bne_iff_ne] at hstarted
    exact hstarted.2 k hk rfl
  refine ⟨⟨z, hz, huniq, rfl, ?_, ?_⟩, ?_, ?_, fun k hk hfree => absurd rfl (hfree k hk)⟩
  · rw [hnone]
    cases z.nextUnit <;> rfl
  · rw [hnone]
    rfl
  · simp [hnone]
  · simp [hnone]

/-- The states of started jobs that a step leaves or takes on (R51). -/
def JobState.Stays (a b : JobState) : Prop := b = a ∨ (a = .dataQueue ∧ b = .dataWait)

theorem JobState.Starting.stays {a b : JobState} (h : a.Starting) (hab : a.Stays b) : b.Starting := by
  rcases hab with rfl | ⟨rfl, rfl⟩
  · exact h
  · exact .inr (.inl rfl)

/-- A change of the jobs one by one, the started ones but for their data wait left. -/
theorem Gave.of_map {r s t : State} {z : Txn} (h : Gave r z s) {f : Job → Job} (hjobs : t.ubp.jobs = s.ubp.jobs.map f)
    (hf : ∀ j, f j = { j with state := (f j).state, pageOp := (f j).pageOp })
    (hstate : ∀ j ∈ s.ubp.jobs, (∀ i ∈ r.ubp.jobs, i.buf ≠ j.buf) → j.state.Stays (f j).state)
    (htxns : t.txns = s.txns) (hlink : LinkKept s t) : Gave r z t := by
  have hfields (j : Job) : (f j).buf = j.buf ∧ (f j).owner = j.owner ∧ (f j).unit = j.unit ∧ (f j).first = j.first ∧
      (f j).count = j.count ∧ (f j).kind = j.kind ∧ (f j).sent = j.sent ∧ (f j).abandoned = j.abandoned := by
    rw [hf j]
    exact ⟨rfl, rfl, rfl, rfl, rfl, rfl, rfl, rfl⟩
  have hstarted : t.started r.ubp.jobs z.tag = (s.started r.ubp.jobs z.tag).map f := by
    rw [State.started, hjobs, List.filter_map, State.started]
    congr 2
    funext j
    obtain ⟨hbuf, howner, -⟩ := hfields j
    simp only [Function.comp_apply, hbuf, howner]
  have hlength : (t.started r.ubp.jobs z.tag).length = (s.started r.ubp.jobs z.tag).length := by rw [hstarted, List.length_map]
  refine ⟨by rw [htxns, hlength]; exact h.record, fun i k hk => ?_, fun k hk => ?_, fun k hk hfree => ?_⟩
  · rw [hstarted, List.getElem?_map] at hk
    obtain ⟨j, hj, rfl⟩ := Option.map_eq_some_iff.1 hk
    rw [(hfields j).2.2.1]
    exact h.units i j hj
  · rw [hstarted] at hk
    obtain ⟨j, hj, rfl⟩ := List.mem_map.1 hk
    obtain ⟨hmem, -, hfree⟩ := State.mem_started.1 hj
    obtain ⟨hbuf, -, hunit, hfirst, hcount, hkind, hsent, habandoned⟩ := hfields j
    have hjob := h.jobs j hj
    refine ⟨by rw [hsent, habandoned]; exact hjob.fresh, by rw [hfirst, hcount, hkind, hunit]; exact hjob.split,
      by rw [hunit]; exact hjob.unit, fun hfull => ?_, fun hfull => ?_⟩
    · have hold := hjob.full (hkind ▸ hfull)
      rcases hstate j hmem hfree with hsame | ⟨-, hwait⟩
      · rwa [hsame]
      · exact .inr hwait
    · obtain ⟨hread, hasked⟩ := hjob.read (hkind ▸ hfull)
      refine ⟨?_, ?_⟩
      · rcases hstate j hmem hfree with hsame | ⟨hqueue, -⟩
        · rw [hsame, hread]
        · simp [hread] at hqueue
      · have hkept := hasked.kept hlink
        unfold State.ReadAsked at hkept ⊢
        rwa [hunit, hbuf]
  · rw [hjobs] at hk
    obtain ⟨j, hj, rfl⟩ := List.mem_map.1 hk
    rw [(hfields j).1] at hfree
    exact (h.starting j hj hfree).stays (hstate j hj hfree)

theorem Gave.of_same {r s t : State} {z : Txn} (h : Gave r z s) (hjobs : t.ubp.jobs = s.ubp.jobs) (htxns : t.txns = s.txns)
    (hlink : LinkKept s t) : Gave r z t :=
  h.of_map (f := id) (by simpa using hjobs) (fun _ => rfl) (fun _ _ _ => .inl rfl) htxns hlink

/-- A job starts in a free buffer for the first that wants one (R47). -/
theorem Gave.startJob {r s : State} {z : Txn} (h : Gave r z s) {b : Fin 8} {x : Txn} (hb : s.freeBuffer = some b)
    (hrfree : ∀ j ∈ r.ubp.jobs, j.buf ≠ b) (hx : s.txns.find? s.eligible = some x) :
    Gave r z (Machine.startJob b x (x.nextUnit.getD 0) s) := by
  have hfree := State.freeBuffer_spec hb
  have hmem := List.mem_of_find?_eq_some hx
  have hlink : LinkKept s (Machine.startJob b x (x.nextUnit.getD 0) s) := .of_follows (.startJob hb hx) (by simp)
  obtain ⟨-, -, -, -, u, hu, -⟩ := (s.eligible_iff x).1 (List.find?_some hx)
  obtain ⟨hnext, hlast⟩ := Txn.nextUnit_of_next? hu
  rw [hnext, Option.getD_some] at hlink ⊢
  have hjobs := startJob_jobs hfree x u
  have htxns := startJob_txns b x u s
  rw [updTxn_txns] at htxns
  obtain ⟨w, hw, huniq, hparts, hnextw, hheld⟩ := h.record
  have hstarting : ∀ k ∈ (Machine.startJob b x u s).ubp.jobs, (∀ j ∈ r.ubp.jobs, j.buf ≠ k.buf) → k.state.Starting := by
    intro k hk hfree
    rw [hjobs, List.mem_append, List.mem_singleton] at hk
    rcases hk with hk | rfl
    · exact h.starting k hk hfree
    · rcases Job.started_state b x u with hs | hs <;> simp [hs, JobState.Starting]
  have hstarted : (Machine.startJob b x u s).started r.ubp.jobs z.tag =
      s.started r.ubp.jobs z.tag ++ if x.tag = z.tag then [.started b x u] else [] := by
    have hin : (r.ubp.jobs.all fun j => j.buf != b) = true := by simpa using hrfree
    rw [State.started, hjobs, List.filter_append]
    by_cases htag : x.tag = z.tag <;> simp [State.started, Job.started, htag, hin]
  have hkept : ∀ k ∈ s.started r.ubp.jobs z.tag, (Machine.startJob b x u s).StartedFor z k := fun k hk =>
    let hjob := h.jobs k hk
    { hjob with read := fun hfull => ⟨(hjob.read hfull).1, (hjob.read hfull).2.kept hlink⟩ }
  have hothers : ∀ y ∈ (Machine.startJob b x u s).txns, y.tag = z.tag →
      y = if w.tag = x.tag then { w with nextUnit := some (u + 1), jobsHeld := w.jobsHeld + 1 } else w := by
    intro y hy htag
    rw [htxns] at hy
    obtain ⟨y', hy', rfl⟩ := List.mem_map.1 hy
    have hsame : y' = w := huniq y' hy' (by revert htag; split <;> exact id)
    rw [hsame]
  have hwtag : w.tag = z.tag := (Txn.fields_of_fixedPart hparts).1
  have hwmem : (if w.tag = x.tag then { w with nextUnit := some (u + 1), jobsHeld := w.jobsHeld + 1 } else w) ∈
      (Machine.startJob b x u s).txns := by
    rw [htxns]
    exact List.mem_map.2 ⟨w, hw, rfl⟩
  by_cases htag : x.tag = z.tag
  · obtain rfl : x = w := huniq x hmem htag
    obtain ⟨n, hn, hun⟩ : ∃ n, z.nextUnit = some n ∧ u = n + (s.started r.ubp.jobs z.tag).length := by
      rw [hnext] at hnextw
      obtain ⟨n, hn, hsum⟩ := Option.map_eq_some_iff.1 hnextw.symm
      exact ⟨n, hn, hsum.symm⟩
    obtain ⟨-, hkind, -, hlba, -, htransfer, -, -, -, -, -⟩ := Txn.fields_of_fixedPart hparts
    have hsame : x.first = z.first ∧ x.m = z.m ∧ x.lastU = z.lastU := by
      simp [Txn.first, Txn.m, Txn.lastU, hlba, htransfer]
    rw [if_pos rfl] at hwmem hothers
    rw [if_pos htag] at hstarted
    refine ⟨⟨_, hwmem, hothers, hparts, ?_, ?_⟩, fun i k hk => ?_, fun k hk => ?_, hstarting⟩
    · rw [hstarted, hn]
      simp [hun, Nat.add_assoc]
    · rw [hstarted]
      simp [hheld, Nat.add_assoc]
    · rw [hstarted, List.getElem?_append] at hk
      split at hk
      · exact h.units i k hk
      next hlen =>
        obtain rfl : i = (s.started r.ubp.jobs z.tag).length := by
          by_contra hne
          rw [List.getElem?_eq_none (by simp; omega)] at hk
          cases hk
        rw [Nat.sub_self, List.getElem?_cons_zero, Option.some.injEq] at hk
        rw [← hk, hn]
        simp only [Job.started]
        exact ⟨by rw [hun, Nat.add_sub_cancel], by omega⟩
    · rw [hstarted, List.mem_append, List.mem_singleton] at hk
      rcases hk with hk | rfl
      · exact hkept k hk
      · obtain ⟨hfirst, hm, hlastU⟩ := hsame
        refine ⟨⟨rfl, rfl⟩, ⟨by rw [← hfirst]; rfl, by rw [← hfirst, ← hm]; rfl, by rw [← hfirst, ← hm, ← hkind]; rfl⟩,
          hlastU ▸ hlast, fun hfull => .inl (if_pos hfull), fun hfull => ⟨if_neg hfull, ?_⟩⟩
        have hdli := startJob_dli b x u s
        rw [if_neg (show ¬ splitKind x.kind x.first x.m u = .writeFull from hfull)] at hdli
        exact makeRequest_readAsked hdli rfl rfl
  · rw [if_neg htag, List.append_nil] at hstarted
    have hne : w.tag ≠ x.tag := fun heq => htag (heq.symm.trans hwtag)
    rw [if_neg hne] at hwmem hothers
    refine ⟨⟨w, hwmem, hothers, hparts, by rw [hstarted]; exact hnextw, by rw [hstarted]; exact hheld⟩, ?_, ?_, hstarting⟩
    · rw [hstarted]
      exact h.units
    · rw [hstarted]
      exact hkept

theorem Gave.closing (r : State) (z : Txn) : Closing (fun s t => Gave r z s ∧ Follows r s → Gave r z t ∧ Follows r t) where
  refl _ := id
  trans h1 h2 := h2 ∘ h1
  startJob b x s hb hx := fun ⟨h, hfollows⟩ =>
    ⟨h.startJob hb (hfollows.free (State.freeBuffer_spec hb)) hx, hfollows.trans (.startJob hb hx)⟩
  dataWaits s := fun ⟨h, hfollows⟩ => by
    have hstep := Follows.dataWaits s
    refine ⟨h.of_map (dataWaits_jobs s) (fun j => by split <;> rfl) (fun j _ _ => ?_) rfl (.of_follows hstep (by simp)),
      hfollows.trans hstep⟩
    split
    next hmay => exact .inr ⟨((mayWait_iff _ _).1 hmay).1, rfl⟩
    next => exact .inl rfl
  releaseHold s := fun ⟨h, hfollows⟩ =>
    ⟨h.of_same (by simp) (by simp) (.of_follows (.releaseHold s) (by simp)), hfollows.trans (.releaseHold s)⟩
  issue d q s _ hq := fun ⟨h, hfollows⟩ => by
    have hstep := Follows.issue d (State.chosenRequest_mem hq)
    obtain ⟨f, hf, hstays⟩ := issue_jobs d q s
    refine ⟨h.of_map hf (fun j => ?_) (fun j _ _ => ?_) (by simp) (.of_follows hstep (by simp)), hfollows.trans hstep⟩
    · have hstay := hstays j
      unfold Job.StaysAs at hstay
      generalize f j = k at hstay
      rw [← hstay]
    · exact .inl (hstays j).fields.2.2.2.2.2.2.1
  cipherTake s := fun ⟨h, hfollows⟩ => by
    have hstep := Follows.cipherTake s
    refine ⟨?_, hfollows.trans hstep⟩
    rcases cipherTake_jobs s with hsame | ⟨j, -, -, -, hmap⟩
    · exact h.of_same hsame (by simp) (.of_follows hstep (by simp))
    · refine h.of_map hmap (fun k => by split <;> rfl) (fun k hk hfree => ?_) (by simp) (.of_follows hstep (by simp))
      split
      · refine .inl ?_
        rcases h.starting k hk hfree with hs | hs | hs <;> simp [hs, JobState.taken]
      · exact .inl rfl
  grant s := fun ⟨h, hfollows⟩ => by
    have hstep := Follows.grant s
    refine ⟨?_, hfollows.trans hstep⟩
    rcases grant_jobs s with hsame | ⟨t, j, hj, hmap⟩
    · exact h.of_same hsame (by simp) (.of_follows hstep (by simp))
    · obtain ⟨hmem, -, hstate, -⟩ := State.deliverable_spec hj
      refine h.of_map hmap (fun k => by split <;> rfl) (fun k hk hfree => ?_) (by simp) (.of_follows hstep (by simp))
      split
      next hbuf =>
        rw [hbuf] at hfree
        rcases h.starting j hmem hfree with hs | hs | hs <;> simp [hs] at hstate
      next => exact .inl rfl
  judge s := fun ⟨h, hfollows⟩ =>
    ⟨h.of_same (by simp) (by simp) (.of_follows (.judge s) (by simp)), hfollows.trans (.judge s)⟩

/-- What has been given for a record started rightly. -/
theorem Gave.startedRight {r t : State} {z w : Txn} (h : Gave r z t) (hw : w.fixedPart = z.fixedPart)
    (hnext : w.nextUnit = z.nextUnit.map (· + (t.started r.ubp.jobs z.tag).length))
    (hheld : w.jobsHeld = z.jobsHeld + (t.started r.ubp.jobs z.tag).length) :
    t.StartedRight r.ubp.jobs w z.nextUnit z.jobsHeld := by
  obtain ⟨htag, hkind, -, hlba, -, htransfer, -, -, -, -, -⟩ := Txn.fields_of_fixedPart hw
  refine ⟨by rw [htag]; exact hnext, by rw [htag]; exact hheld, fun i k hk lba m hlba' hm hpos => ?_⟩
  rw [htag] at hk
  obtain ⟨hunit, hi⟩ := h.units i k hk
  have hjob := h.jobs k (List.mem_of_getElem? hk)
  have hfirst : z.first = lba := by simp [Txn.first, ← hlba, hlba']
  have hcount : z.m = m := by simp [Txn.m, ← htransfer, hm]
  obtain ⟨hfirst', hcount', hkind'⟩ := hjob.split
  rw [hfirst, hcount] at hcount' hkind'
  rw [hfirst] at hfirst'
  obtain ⟨hoffset, hsum, hsplit⟩ := started_split hpos k.unit z.kind (lba := lba)
  refine ⟨hunit, hi, hjob.fresh.1, hjob.fresh.2, ?_, ?_, ?_, hjob.full, fun hfull => ?_⟩
  · rw [hfirst']
    exact hoffset
  · rw [hfirst', hcount']
    exact hsum
  · rw [hkind', hkind, hsplit, hcount']
  · obtain ⟨hread, hasked⟩ := hjob.read hfull
    exact ⟨hread, hasked⟩

/-- The jobs that start in what follows an event are, for each record, on its next units, and of its split (R9, R10, R47). -/
theorem settle_startedRight {s : State} {z : Txn} (hz : z ∈ s.txns) (huniq : ∀ x ∈ s.txns, x.tag = z.tag → x = z) :
    ∃ w ∈ (settle s).txns, w.tag = z.tag ∧ w.fixedPart = z.fixedPart ∧ (∀ x ∈ (settle s).txns, x.tag = z.tag → x = w) ∧
      (settle s).StartedRight s.ubp.jobs w z.nextUnit z.jobsHeld := by
  obtain ⟨h, -⟩ := (Gave.closing s z).settle s ⟨.refl hz huniq, .refl s⟩
  obtain ⟨w, hw, hwuniq, hparts, hnext, hheld⟩ := h.record
  exact ⟨w, hw, (Txn.fields_of_fixedPart hparts).1, hparts, hwuniq, h.startedRight hparts hnext hheld⟩

end Sys2Proof.Machine


/-! PROOF. PAGE_WRITE_COMPLETION (R53, R61, R69, R75): the sectors counted, the marks left, the SYNCs asked for and the buffer
given on. -/

namespace Sys2Proof.Machine

open Sys2Proof

/-! ## A page write confirmed (R25, R49, R53) -/

theorem updTxn_comm {t : Fin 16} {f g : Txn → Txn} (hf : ∀ x, (f x).tag = x.tag) (hg : ∀ x, (g x).tag = x.tag)
    (h : ∀ x, f (g x) = g (f x)) (s : State) : updTxn t f (updTxn t g s) = updTxn t g (updTxn t f s) := by
  have hcomp : (fun x : Txn => if x.tag = t then f x else x) ∘ (fun x => if x.tag = t then g x else x) =
      (fun x : Txn => if x.tag = t then g x else x) ∘ fun x => if x.tag = t then f x else x := by
    funext x
    by_cases hx : x.tag = t <;> simp [hx, hf, hg, h]
  have hmaps : (s.txns.map fun x => if x.tag = t then g x else x).map (fun x => if x.tag = t then f x else x) =
      (s.txns.map fun x => if x.tag = t then f x else x).map (fun x => if x.tag = t then g x else x) := by
    rw [List.map_map, List.map_map, hcomp]
  have hstate : updTxn t f (updTxn t g s) = s.setTxns
      ((s.txns.map fun x => if x.tag = t then g x else x).map (fun x => if x.tag = t then f x else x)) := rfl
  rw [hstate, hmaps]
  rfl

/-- The count of the sectors moved stands apart from the end of the job that moved them. -/
theorem addDone_endJob {j : Job} (hkept : j.abandoned = false) (s : State) :
    addDone j.owner j.count (endJob j s) = endJob j (addDone j.owner j.count s) := by
  simp only [endJob, hkept, Bool.false_eq_true, if_false]
  exact updTxn_comm (f := fun x => { x with done := x.done + j.count }) (g := fun x => { x with jobsHeld := x.jobsHeld - 1 })
    (fun _ => rfl) (fun _ => rfl) (fun _ => rfl) (dropJob j.buf s)

/-- The state after a confirmed page write of the job `j`: its sectors counted, the job gone, ACTIVITY requested. -/
def State.confirmed (p : Nat) (j : Job) (s : State) : State :=
  activityRequest ((addDone j.owner j.count s).jobGone (.pageWrite p) j)

theorem jobCompletion_confirmed {s : State} {b : Fin 8} {j : Job} (hj : s.job? b = some j) (hkept : j.abandoned = false) (p : Nat)
    (page : List Byte) : jobCompletion b (.pageWrite p) true page s = progress j.owner (s.confirmed p j) := by
  simp only [jobCompletion, hj, hkept, Bool.false_eq_true, if_false, writeEnd, if_true, addDone_endJob hkept, State.confirmed,
    State.jobGone]

theorem State.confirmed_spec (p : Nat) (j : Job) (s : State) :
    (s.confirmed p j).uli = s.uli ∧ (s.confirmed p j).ubp = { s.ubp with jobs := s.ubp.jobs.filter (fun k => k.buf != j.buf) } ∧
    (s.confirmed p j).txns.map Txn.unmarkedPart = (addDone j.owner j.count s).txns.map Txn.unmarkedPart ∧
    (s.confirmed p j).dli = ((addDone j.owner j.count s).jobGone (.pageWrite p) j).dli := by
  obtain ⟨huli, hubp, -, -, hparts, -⟩ := (addDone j.owner j.count s).jobGone_spec (.pageWrite p) j
  unfold State.confirmed
  rw [(activityRequest_frame _).2.1, (activityRequest_frame _).2.2.1, (activityRequest_frame _).2.2.2.2.1,
    (activityRequest_frame _).2.2.2.2.2.2.1, huli, hubp]
  exact ⟨by simp, by simp, hparts, rfl⟩

/-- A confirmed page write requests ACTIVITY, which an empty slot shows where the rest has ended (R157). -/
theorem State.confirmed_activity {s : State} (p : Nat) (j : Job) (hslot : s.ind.slot = none) (hrest : s.ind.rest = none)
    (hawake : s.ac.standby = false) : (s.confirmed p j).ind.slot = some .activity := by
  obtain ⟨-, -, hind, hac, -⟩ := (addDone j.owner j.count s).jobGone_spec (.pageWrite p) j
  rw [State.confirmed, activityRequest, if_neg]
  · simp
  · rw [hind, hac]
    simp [hslot, hrest, hawake]

theorem State.confirmed_keepsWork (p : Nat) (j : Job) (s : State) (t : Fin 16) :
    (s.confirmed p j).KeepsWork t ↔ (s.lessBuffer j.buf).KeepsWork t := by
  have hgone := (addDone j.owner j.count s).jobGone_keepsWork (.pageWrite p) j t
  have hsame : (s.confirmed p j).KeepsWork t ↔ ((addDone j.owner j.count s).jobGone (.pageWrite p) j).KeepsWork t := by
    unfold State.confirmed State.KeepsWork
    rw [(activityRequest_frame _).2.1, (activityRequest_frame _).2.2.2.2.1, (activityRequest_frame _).2.2.2.2.2.2.1]
  exact hsame.trans hgone

theorem State.confirmed_txn? {s : State} {j : Job} {x : Txn} (hx : s.txn? j.owner = some x) (p : Nat) :
    ∃ w, (s.confirmed p j).txn? j.owner = some w ∧ w.requested = x.requested ∧ w.transfer = x.transfer ∧
      w.done = x.done + j.count ∧ w.failure = x.failure ∧ w.phase = x.phase ∧ w.outcome = x.outcome := by
  obtain ⟨w, hw, hwx⟩ := txn?_of_unmarked (s.confirmed_spec p j).2.2.1 (addDone_txn? j.owner j.count hx)
  obtain ⟨-, -, hrequested, htransfer, hdone, hfailure, hphase, houtcome⟩ := Txn.fields_of_unmarkedPart hwx
  exact ⟨w, hw, hrequested, htransfer, hdone, hfailure, hphase, houtcome⟩

theorem State.OthersKept.confirmed (p : Nat) (j : Job) (s : State) : s.OthersKept (s.confirmed p j) j.owner :=
  (State.OthersKept.addDone j.owner j.count s).trans (.of_unmarked (s.confirmed_spec p j).2.2.1 _)

theorem Terms.confirmed (p : Nat) (j : Job) (s : State) : Terms s (s.confirmed p j) :=
  (Terms.addDone j.owner j.count s).trans (.of_unmarked (s.confirmed_spec p j).2.2.1)

theorem State.confirmed_marks (p : Nat) (j : Job) (s : State) : ∀ z ∈ (s.confirmed p j).txns, z.marks j.buf = false := by
  unfold State.confirmed
  rw [(activityRequest_frame _).2.2.1]
  exact State.jobGone_marks p j _

/-- The SYNCs that a confirmed page write lets go are asked for (R75, R76). -/
theorem settle_confirmed_syncsAsked {s u : State} (htxns : u.txns = s.txns) (hmedia : u.dli.media = s.dli.media) (htags : s.TagsOk)
    (p : Nat) (j : Job) : s.SyncsAsked (settle (progress j.owner (u.confirmed p j))) j.buf := by
  have htags' : (addDone j.owner j.count u).TagsOk := (Terms.addDone j.owner j.count u).tags (by rwa [State.TagsOk, htxns])
  have hdli := (u.confirmed_spec p j).2.2.2
  have hmedia' : (progress j.owner (u.confirmed p j)).dli.media = s.dli.media := by
    rw [(progress_frame _ _).2.2.2.2.2.1, hdli, ((addDone j.owner j.count u).jobGone_spec (.pageWrite p) j).2.2.2.2.2.2.2.1]
    exact hmedia
  refine .of_asked htxns ((settle_media _).trans hmedia') fun z hz hkind hactive m hmark hb hall => ?_
  have hz' : (if z.tag = j.owner then { z with done := z.done + j.count } else z) ∈ (addDone j.owner j.count u).txns :=
    List.mem_map.2 ⟨z, hz, rfl⟩
  have hfields : ∀ w, w = (if z.tag = j.owner then { z with done := z.done + j.count } else z) →
      w.tag = z.tag ∧ w.kind = z.kind ∧ w.phase = z.phase ∧ w.flushMark = z.flushMark := by
    rintro w rfl
    split <;> exact ⟨rfl, rfl, rfl, rfl⟩
  obtain ⟨w, hw⟩ : ∃ w, w = (if z.tag = j.owner then { z with done := z.done + j.count } else z) := ⟨_, rfl⟩
  obtain ⟨htag, hkind', hphase, hmark'⟩ := hfields w hw
  rw [← hw] at hz'
  have hasked := State.jobGone_syncAsked htags' p j hz' (hkind'.trans hkind) (hphase.trans hactive) (hmark'.trans hmark) hb hall
  rw [htag] at hasked
  have hsame : (progress j.owner (u.confirmed p j)).SyncAsked z.tag := by
    unfold State.SyncAsked State.Asked at hasked ⊢
    rwa [(progress_frame _ _).2.2.2.2.2.1, hdli]
  exact hsame.settle

/-! ## The next unit and the jobs held (R44, R47) -/

/-- What a buffer given to a record advances. -/
def Txn.given (x : Txn) : Fin 16 × Option Nat × Nat := (x.tag, x.nextUnit, x.jobsHeld)

/-- What the end of the job `j` makes of it (R44). -/
def Txn.released (j : Job) (x : Txn) : Fin 16 × Option Nat × Nat :=
  (x.tag, x.nextUnit, if j.abandoned = false ∧ x.tag = j.owner then x.jobsHeld - 1 else x.jobsHeld)

theorem updTxn_given {t : Fin 16} {f : Txn → Txn} (hf : ∀ x, (f x).given = x.given) (s : State) :
    (updTxn t f s).txns.map Txn.given = s.txns.map Txn.given := by
  rw [updTxn_txns, List.map_map]
  refine List.map_congr_left fun x _ => ?_
  simp only [Function.comp_apply]
  split
  · exact hf x
  · rfl

theorem progress_given (t : Fin 16) (s : State) : (progress t s).txns.map Txn.given = s.txns.map Txn.given := by
  have hdone : (setDone t s).txns.map Txn.given = s.txns.map Txn.given :=
    updTxn_given (f := fun x => { x with phase := .done, outcome := some x.finalOutcome }) (fun _ => rfl) s
  unfold progress
  split
  · rfl
  · split
    · split
      · exact hdone
      · rfl
    · split
      · rfl
      · exact hdone
    · rfl

theorem State.jobGone_given (op : DOp) (j : Job) (s : State) :
    (s.jobGone op j).txns.map Txn.given = s.txns.map (Txn.released j) := by
  have hended : (endJob j s).txns.map Txn.given = s.txns.map (Txn.released j) := by
    unfold endJob
    split
    next h => simp [Txn.released, h, Txn.given, dropJob]
    next h =>
      rw [releaseHeld, updTxn_txns, List.map_map]
      refine List.map_congr_left fun x _ => ?_
      by_cases hx : x.tag = j.owner <;> simp [Txn.given, Txn.released, hx, h]
  unfold State.jobGone
  split
  · rw [leaveMarks_txns, List.map_map]
    exact hended
  · exact hended

theorem State.confirmed_given (p : Nat) (j : Job) (s : State) :
    (s.confirmed p j).txns.map Txn.given = s.txns.map (Txn.released j) := by
  have hadded : (addDone j.owner j.count s).txns.map (Txn.released j) = s.txns.map (Txn.released j) := by
    rw [addDone, updTxn_txns, List.map_map]
    refine List.map_congr_left fun x _ => ?_
    simp only [Function.comp_apply]
    split <;> rfl
  unfold State.confirmed
  rw [(activityRequest_frame _).2.2.1, State.jobGone_given, hadded]

/-- The jobs that start once a job has ended are right, with the jobs held as its end leaves them (R44, R47). -/
theorem settle_startedRight_given {s u : State} {j : Job} (htags : u.TagsOk)
    (hgiven : u.txns.map Txn.given = s.txns.map (Txn.released j)) {z : Txn} (hz : z ∈ s.txns) :
    ∃ w ∈ (settle u).txns, w.tag = z.tag ∧ (settle u).StartedRight u.ubp.jobs w z.nextUnit
      (if j.abandoned = false ∧ z.tag = j.owner then z.jobsHeld - 1 else z.jobsHeld) := by
  have hmem : z.released j ∈ u.txns.map Txn.given := hgiven ▸ List.mem_map_of_mem hz
  obtain ⟨z', hz', hsame⟩ := List.mem_map.1 hmem
  simp only [Txn.given, Txn.released, Prod.mk.injEq] at hsame
  obtain ⟨htag, hnext, hheld⟩ := hsame
  obtain ⟨w, hw, hwtag, -, -, hright⟩ := settle_startedRight hz' fun x hx h => htags.eq_of_tag hx hz' h
  rw [hnext, hheld] at hright
  exact ⟨w, hw, hwtag.trans htag, hright⟩

/-! ## PAGE_WRITE_COMPLETION -/

/-- The jobs of the state once a job's buffer is freed come from those before. -/
theorem JobsFrom.freed {s u : State} {b : Fin 8} (h : u.ubp.jobs = s.ubp.jobs.filter (fun k => k.buf != b)) : JobsFrom s u :=
  .of_filter h

theorem pageWrite_confirmed {s : State} {d : Byte} {p : Nat} {b : Fin 8} {j : Job} {x : Txn} (hrun : s.power = .running)
    (htags : s.TagsOk) (hslot : s.InSlot d (.pageWrite p) (.job b)) (hj : s.job? b = some j) (hkept : j.abandoned = false)
    (hx : s.txn? j.owner = some x) :
    ∃ t y, exec (.pageWriteCompletion d 0 []) s = .next t ∧ t.txn? j.owner = some y ∧
      y.done = x.done + j.count ∧ y.failure = x.failure ∧ t.ubp.mem = s.ubp.mem ∧ s.OthersKept t j.owner ∧
      s.BuffersInOrder t ∧
      (∀ z ∈ s.txns, ∃ w ∈ t.txns, w.tag = z.tag ∧ t.StartedRight (s.lessBuffer b).ubp.jobs w z.nextUnit
        (if z.tag = j.owner then z.jobsHeld - 1 else z.jobsHeld)) ∧
      (∀ z ∈ t.txns, z.marks b = false) ∧ s.SyncsAsked t b ∧
      (s.ind.slot = none → s.ind.rest = none → s.ac.standby = false → t.ind.slot = some .activity) ∧
      (x.phase = .active → x.failure = none → x.transfer = some (x.done + j.count) →
        y.phase = .done ∧ y.outcome = some (if x.transfer = x.requested then .good else .short)) ∧
      (x.phase = .active → x.failure = none → x.transfer ≠ some (x.done + j.count) →
        y.phase = .active ∧ y.outcome = x.outcome) ∧
      (∀ f, x.phase = .draining → x.failure = some f →
        y.MovesOn (((s.lessBuffer b).lessSlot d).KeepsWork j.owner) f.outcome) := by
  have hbuf := State.buf_of_job? hj
  have hexec := exec_completion_slot hrun hslot 0 []
  have hok : completionOk (.pageWrite p) (DOp.pageWrite p).code 0 [] = true := by simp [completionOk, completionRest, DOp.code]
  have hend : ownerTakes (.pageWrite p) (.job b) true false [] (s.lessSlot d) =
      progress j.owner ((s.lessSlot d).confirmed p j) := jobCompletion_confirmed (s := s.lessSlot d) hj hkept p []
  rw [hok, hend] at hexec
  obtain ⟨-, hubp, -, -⟩ := (s.lessSlot d).confirmed_spec p j
  obtain ⟨w, hw, hrequested, htransfer, hdone, hfailure, hphase, houtcome⟩ := State.confirmed_txn? (s := s.lessSlot d) hx p
  have hwp := progress_txn? hw
  obtain ⟨y, hy, hyw⟩ := settle_txn?_some hwp
  obtain ⟨hcount', hfailed', -⟩ := Txn.progressed_fields (((s.lessSlot d).confirmed p j).stillWaits j.owner) w
  obtain ⟨-, -, -, -, -, -, hydone, hyfailure, hyphase, -, hyoutcome⟩ := Txn.fields_of_fixedPart hyw
  have htags' : (progress j.owner ((s.lessSlot d).confirmed p j)).TagsOk :=
    ((Terms.confirmed p j (s.lessSlot d)).trans (.progress j.owner _)).tags htags
  have hjobs : (progress j.owner ((s.lessSlot d).confirmed p j)).ubp.jobs = s.ubp.jobs.filter (fun k => k.buf != j.buf) := by
    rw [(progress_frame _ _).2.2.2.1, hubp]
    rfl
  refine ⟨_, y, hexec, hy, hydone.trans (hcount'.trans hdone), hyfailure.trans (hfailed'.trans hfailure), ?_,
    ((State.OthersKept.of_same (t := s.lessSlot d) rfl _).trans
      ((State.OthersKept.confirmed p j _).trans (.progress _ _))).settle,
    (settle_buffersInOrder htags').before (.freed hjobs), fun z hz => ?_, ?_, ?_, fun hslot' hrest hawake => ?_,
    fun hactive hfresh hall => ?_, fun hactive hfresh hsome => ?_, fun f hdraining hf => ?_⟩
  · rw [settle_mem, (progress_frame _ _).2.2.2.1, hubp]
    rfl
  · have hgiven := (progress_given j.owner _).trans (State.confirmed_given p j (s.lessSlot d))
    obtain ⟨v, hv, hvtag, hright⟩ := settle_startedRight_given (s := s) htags' hgiven hz
    rw [hjobs, hbuf] at hright
    simp only [hkept, true_and] at hright
    exact ⟨v, hv, hvtag, hright⟩
  · rw [← hbuf]
    exact settle_marks (progress_marks (State.confirmed_marks p j _) _)
  · rw [← hbuf]
    exact settle_confirmed_syncsAsked (u := s.lessSlot d) rfl rfl htags p j
  · rw [settle_slot, (progress_frame _ _).2.2.2.2.2.2.2.2.2.2.2.2.1]
    exact State.confirmed_activity (s := s.lessSlot d) p j hslot' hrest hawake
  · obtain ⟨hcomplete, -⟩ := Txn.progressed_active (x := w) (hphase.trans hactive) (hfailure.trans hfresh)
      (((s.lessSlot d).confirmed p j).stillWaits j.owner)
    obtain ⟨hp, ho⟩ := hcomplete (by rw [htransfer, hdone]; exact hall)
    exact ⟨hyphase.trans hp, hyoutcome.trans (ho.trans (by rw [htransfer, hrequested]))⟩
  · obtain ⟨-, hstill⟩ := Txn.progressed_active (x := w) (hphase.trans hactive) (hfailure.trans hfresh)
      (((s.lessSlot d).confirmed p j).stillWaits j.owner)
    rw [hstill (by rw [htransfer, hdone]; exact hsome)] at hyphase hyoutcome
    exact ⟨hyphase.trans (hphase.trans hactive), hyoutcome.trans houtcome⟩
  · refine (Txn.progressed_draining (x := w) (hphase.trans hdraining) (hfailure.trans hf) ?_).of_fixedPart hyw
    rw [State.stillWaits_iff, State.confirmed_keepsWork, hbuf]
    exact Iff.rfl

theorem mediaFailed_done {t : Fin 16} {s : State} {x : Txn} (hx : s.txn? t = some x) :
    ∃ y, (mediaFailed t s).txn? t = some y ∧ y.done = x.done := by
  rcases failTxn_cases t .mediaFault s with ⟨x', hx', hactive, hfresh⟩ | hsame
  · obtain rfl : x = x' := Option.some.inj (hx.symm.trans hx')
    obtain ⟨y, hy, -, hdone, -⟩ := mediaFailed_active hx hactive hfresh
    exact ⟨y, hy, hdone⟩
  · rw [mediaFailed, hsame]
    exact ⟨_, progress_txn? hx, (Txn.progressed_fields _ x).1⟩

/-- A failed page operation counts no sector (R25). -/
theorem settle_opFailed_done {op : DOp} {j : Job} {s : State} {x : Txn} (hx : s.txn? j.owner = some x) :
    ∃ y, (settle (s.opFailed op j)).txn? j.owner = some y ∧ y.done = x.done := by
  obtain ⟨z, hz, hzx⟩ := txn?_of_unmarked (s.jobGone_spec op j).2.2.2.2.1 hx
  obtain ⟨-, -, -, -, hdone, -, -, -⟩ := Txn.fields_of_unmarkedPart hzx
  obtain ⟨w, hw, hwdone⟩ := mediaFailed_done hz
  obtain ⟨y, hy, hyw⟩ := settle_txn?_some (s := s.opFailed op j) hw
  obtain ⟨-, -, -, -, -, -, hydone, -, -, -, -⟩ := Txn.fields_of_fixedPart hyw
  exact ⟨y, hy, hydone.trans (hwdone.trans hdone)⟩

theorem pageWrite_failed {s : State} {d : Byte} {p : Nat} {b : Fin 8} {j : Job} {x : Txn} (hrun : s.power = .running)
    (htags : s.TagsOk) (hslot : s.InSlot d (.pageWrite p) (.job b)) (hj : s.job? b = some j) (hkept : j.abandoned = false)
    (hx : s.txn? j.owner = some x) {status : Byte} (hstatus : status ≠ 0) (rest : List Byte) :
    ∃ t y, exec (.pageWriteCompletion d status rest) s = .next t ∧
      t.txn? j.owner = some y ∧ y.done = x.done ∧
      (∀ f, x.phase = .draining → x.failure = some f → y.failure = some f ∧
        y.MovesOn (((s.lessBuffer b).lessSlot d).KeepsWork j.owner) f.outcome) ∧ (∀ z ∈ t.txns, z.marks b = false) ∧
      t.ind.slot = s.ind.slot ∧ (x.kind ≠ .flush → s.SyncsAsked t b) ∧
      (x.phase = .active → x.failure = none → y.failure = some .mediaFault ∧ y.phase ≠ .active ∧
        y.MovesOn (((s.lessBuffer b).lessSlot d).KeepsWork j.owner) .mediaFault) := by
  have hbuf := State.buf_of_job? hj
  have hexec := exec_completion_slot hrun hslot status rest
  have hend : ownerTakes (.pageWrite p) (.job b) false false rest (s.lessSlot d) = (s.lessSlot d).opFailed (.pageWrite p) j :=
    jobCompletion_failed (s := s.lessSlot d) hj hkept (.inr rfl) rest
  rw [completionOk_of_status hstatus, hend] at hexec
  have hmarks := settle_marks (State.opFailed_marks p j (s.lessSlot d))
  have hsyncs := settle_opFailed_syncsAsked (u := s.lessSlot d) rfl rfl htags p hx
  rw [hbuf] at hmarks hsyncs
  have hslot' : (settle ((s.lessSlot d).opFailed (.pageWrite p) j)).ind.slot = s.ind.slot := by
    rw [settle_slot, ((s.lessSlot d).opFailed_same _ j).2]
    rfl
  obtain ⟨y, hy, hdone⟩ : ∃ y, (settle ((s.lessSlot d).opFailed (.pageWrite p) j)).txn? j.owner = some y ∧ y.done = x.done :=
    settle_opFailed_done (s := s.lessSlot d) hx
  refine ⟨_, y, hexec, hy, hdone, fun f hdraining hf => ?_, hmarks, hslot', hsyncs, fun hactive hfresh => ?_⟩
  · obtain ⟨y', hy', hfailure, -, hmoves⟩ := settle_opFailed_draining (op := .pageWrite p) (s := s.lessSlot d) (j := j) hx hdraining hf
    obtain rfl : y = y' := Option.some.inj (hy.symm.trans hy')
    rw [hbuf] at hmoves
    exact ⟨hfailure, hmoves⟩
  · obtain ⟨y', hy', hfailure, -, hmoves⟩ := settle_opFailed_active (op := .pageWrite p) (s := s.lessSlot d) (j := j) hx hactive hfresh
    obtain rfl : y = y' := Option.some.inj (hy.symm.trans hy')
    rw [hbuf] at hmoves
    exact ⟨hfailure, hmoves.not_active, hmoves⟩

theorem pageWrite_abandoned {s : State} {d : Byte} {p : Nat} {b : Fin 8} {j : Job} (hrun : s.power = .running)
    (hslot : s.InSlot d (.pageWrite p) (.job b)) (hj : s.job? b = some j) (habandoned : j.abandoned = true) (status : Byte)
    (rest : List Byte) : ∃ t, exec (.pageWriteCompletion d status rest) s = .next t ∧ s.EndsAbandoned t b ∧
      t.ubp.mem = s.ubp.mem ∧ (∀ z ∈ t.txns, z.marks b = false) ∧
      (s.TagsOk → s.SyncsAsked t b ∧ s.BuffersInOrder t ∧
        ∀ z ∈ s.txns, ∃ w ∈ t.txns, w.tag = z.tag ∧
          t.StartedRight (s.lessBuffer b).ubp.jobs w z.nextUnit z.jobsHeld) := by
  have hbuf := State.buf_of_job? hj
  have hexec := exec_completion_slot hrun hslot status rest
  have hends := jobCompletion_abandoned (s := s.lessSlot d) hj habandoned (.pageWrite p)
    (completionOk (.pageWrite p) (DOp.pageWrite p).code status rest) rest
  have hplaced : (if completionOk (.pageWrite p) (DOp.pageWrite p).code status rest = true then placePage b rest (s.lessSlot d)
      else s.lessSlot d) = s.lessSlot d := by
    split
    next hok =>
      have hlength : rest.length = 0 := by
        simpa [completionOk, completionRest, DOp.code] using (Bool.and_eq_true_iff.1 hok).2
      exact placePage_of_length_ne b (by omega) _
    next => rfl
  rw [hplaced] at hends
  have hexec : exec (.pageWriteCompletion d status rest) s = .next (settle ((s.lessSlot d).jobGone (.pageWrite p) j)) :=
    hexec.trans (congrArg _ (congrArg settle hends))
  obtain ⟨-, hubp, -⟩ := (s.lessSlot d).jobGone_spec (.pageWrite p) j
  have hjobs : ((s.lessSlot d).jobGone (.pageWrite p) j).ubp.jobs = s.ubp.jobs.filter (fun k => k.buf != j.buf) := by
    rw [hubp]
    rfl
  refine ⟨_, hexec, ?_, settle_jobGone_mem _ j _, ?_, fun htags => ⟨?_, ?_, fun z hz => ?_⟩⟩
  · rw [← hbuf]
    exact settle_jobGone_endsAbandoned (u := s.lessSlot d) rfl rfl _ j
  · rw [← hbuf]
    exact settle_marks (State.jobGone_marks p j _)
  · rw [← hbuf]
    exact settle_jobGone_syncsAsked (u := s.lessSlot d) rfl rfl htags p j
  · have htags' : ((s.lessSlot d).jobGone (.pageWrite p) j).TagsOk :=
      (Terms.of_unmarked ((s.lessSlot d).jobGone_spec (.pageWrite p) j).2.2.2.2.1).tags htags
    exact (settle_buffersInOrder htags').before (.freed hjobs)
  · have htags' : ((s.lessSlot d).jobGone (.pageWrite p) j).TagsOk :=
      (Terms.of_unmarked ((s.lessSlot d).jobGone_spec (.pageWrite p) j).2.2.2.2.1).tags htags
    obtain ⟨v, hv, hvtag, hright⟩ := settle_startedRight_given (s := s) htags' (State.jobGone_given (.pageWrite p) j (s.lessSlot d)) hz
    rw [hjobs, hbuf] at hright
    simp only [habandoned, Bool.true_eq_false, false_and, if_false] at hright
    exact ⟨v, hv, hvtag, hright⟩

/-- A page write confirmed, failed, or of an abandoned job. -/
theorem pageWriteCompletion_spec : Obligations.PageWriteCompletion :=
  ⟨fun _ _ _ _ _ _ hrun htags hslot hj hkept hx => ⟨pageWrite_confirmed hrun htags hslot hj hkept hx,
    fun _ rest hstatus => pageWrite_failed hrun htags hslot hj hkept hx hstatus rest⟩,
    fun _ _ _ _ _ hrun hslot hj habandoned status rest => pageWrite_abandoned hrun hslot hj habandoned status rest⟩

end Sys2Proof.Machine

namespace Sys2Proof

/-- Settles O39. -/
theorem pageWriteCompletion : Obligations.PageWriteCompletion := Machine.pageWriteCompletion_spec

end Sys2Proof


/-! PROOF. The admission of READ and WRITE (R6, R10, R17, R20, R47). -/

namespace Sys2Proof.Machine

open Sys2Proof

/-! ## The record of a READ or WRITE (R20, R22) -/

/-- The range clamp under a highest LBA `h` (R6). -/
theorem rangeClamp_some {lba count h : Nat} (hcount : 1 ≤ count) :
    (h < lba → rangeClamp lba count (some h) = 0) ∧
    (lba ≤ h → rangeClamp lba count (some h) = (if lba + count - 1 ≤ h then count else h - lba + 1) ∧
      rangeClamp lba count (some h) ≠ 0) := by
  unfold rangeClamp
  dsimp only
  split_ifs <;> omega

theorem admitted_transfer (s : State) {k : TxKind} (hk : k = .read ∨ k = .write) (t : Fin 16) (r : Request) :
    (s.admitted k t r).kind = k ∧ (s.admitted k t r).lba = some r.lba.toNat ∧ (s.admitted k t r).requested = some r.count.toNat ∧
    (s.admitted k t r).done = 0 ∧ (s.admitted k t r).failure = none ∧ (s.admitted k t r).jobsHeld = 0 ∧
    (s.admitted k t r).volume = (if s.atr.volume = .overlay then .overlay else .user) := by
  have hclamped (x : Txn) (h : Option Nat) : (x.clamped h).kind = x.kind ∧ (x.clamped h).lba = x.lba ∧
      (x.clamped h).requested = x.requested ∧ (x.clamped h).done = x.done ∧ (x.clamped h).failure = x.failure ∧
      (x.clamped h).jobsHeld = x.jobsHeld ∧ (x.clamped h).volume = x.volume := by
    unfold Txn.clamped
    dsimp only
    split <;> exact ⟨rfl, rfl, rfl, rfl, rfl, rfl, rfl⟩
  obtain ⟨hkind, hlba, hrequested, hdone, hfailure, hheld, hvolume⟩ :=
    hclamped (Txn.atAdmission k t r s.atr.volume .good) s.atr.highest
  unfold State.admitted
  rcases hk with rfl | rfl
  · dsimp only
    split
    next hnothing => simp [Txn.atAdmission, hnothing]
    next =>
      rw [hkind, hlba, hrequested, hdone, hfailure, hheld, hvolume]
      exact ⟨rfl, rfl, rfl, rfl, rfl, rfl, rfl⟩
  · dsimp only
    split
    next hnothing => simp [Txn.atAdmission, hnothing]
    next hoverlay => simp [Txn.atAdmission, hoverlay]
    next huser =>
      split
      · simp [Txn.atAdmission, huser]
      · rw [hkind, hlba, hrequested, hdone, hfailure, hheld, hvolume]
        exact ⟨rfl, rfl, rfl, rfl, rfl, rfl, rfl⟩

/-- The record met the range clamp (R6, R20). -/
structure Txn.ClampedAt (x : Txn) (lba count h : Nat) (v : Volume) : Prop where
  beyond : h < lba → x.phase = .done ∧ x.outcome = some .range ∧ x.transfer = some 0
  within : lba ≤ h → x.phase = .active ∧ x.transfer = some (if lba + count - 1 ≤ h then count else h - lba + 1) ∧
    (v = .user → x.nextUnit = some (lba / 8))

theorem clamped_clampedAt {x : Txn} {lba count h : Nat} {v : Volume} (hcount : 1 ≤ count) (hlba : x.lba = some lba)
    (hrequested : x.requested = some count) (hphase : x.phase = .done) (hvolume : v = .user → x.volume = .user) :
    (x.clamped (some h)).ClampedAt lba count h v := by
  obtain ⟨hbeyond, hwithin⟩ := rangeClamp_some (lba := lba) (h := h) hcount
  unfold Txn.clamped
  dsimp only
  rw [hlba, hrequested, Option.getD_some, Option.getD_some]
  refine ⟨fun hlt => ?_, fun hle => ?_⟩
  · rw [if_pos (hbeyond hlt)]
    exact ⟨hphase, rfl, rfl⟩
  · obtain ⟨hm, hne⟩ := hwithin hle
    rw [if_neg hne, hm]
    exact ⟨rfl, rfl, fun huser => if_pos (hvolume huser)⟩

theorem admitted_read (s : State) (t : Fin 16) (r : Request) (hcount : 1 ≤ r.count.toNat) :
    (s.atr.volume = .nothing → (s.admitted .read t r).phase = .done ∧
      (s.admitted .read t r).outcome = some .becomingReady) ∧
    ∀ h, s.atr.volume ≠ .nothing → s.atr.highest = some h →
      (s.admitted .read t r).ClampedAt r.lba.toNat r.count.toNat h s.atr.volume := by
  refine ⟨fun hnothing => ?_, fun h hne hhighest => ?_⟩
  · simp [State.admitted, hnothing, Txn.atAdmission]
  · have hrecord : s.admitted .read t r = (Txn.atAdmission .read t r s.atr.volume .good).clamped (some h) := by
      rw [← hhighest]
      cases hv : s.atr.volume <;> simp_all [State.admitted]
    rw [hrecord]
    exact clamped_clampedAt hcount rfl rfl rfl fun huser => by simp [Txn.atAdmission, huser]

theorem admitted_write (s : State) (t : Fin 16) (r : Request) (hcount : 1 ≤ r.count.toNat) :
    (s.atr.volume = .nothing → (s.admitted .write t r).phase = .done ∧
      (s.admitted .write t r).outcome = some .becomingReady) ∧
    (s.atr.volume = .overlay → (s.admitted .write t r).phase = .done ∧
      (s.admitted .write t r).outcome = some .writeProtected) ∧
    (s.atr.volume = .user → s.ks.dev.fields.readOnly = true → (s.admitted .write t r).phase = .done ∧
      (s.admitted .write t r).outcome = some .writeProtected) ∧
    ∀ h, s.atr.volume = .user → s.ks.dev.fields.readOnly = false → s.atr.highest = some h →
      (s.admitted .write t r).ClampedAt r.lba.toNat r.count.toNat h s.atr.volume := by
  refine ⟨fun hv => by simp [State.admitted, hv, Txn.atAdmission], fun hv => by simp [State.admitted, hv, Txn.atAdmission],
    fun hv hpolicy => by simp [State.admitted, hv, hpolicy, Txn.atAdmission], fun h huser hpolicy hhighest => ?_⟩
  have hrecord : s.admitted .write t r = (Txn.atAdmission .write t r s.atr.volume .good).clamped (some h) := by
    rw [← hhighest]
    simp [State.admitted, huser, hpolicy]
  rw [hrecord]
  exact clamped_clampedAt hcount rfl rfl rfl fun huser => by simp [Txn.atAdmission, huser]

/-! ## What follows the admission -/

theorem Request.valid_of_transfer {kind tag : Byte} (hkind : kind = 1 ∨ kind = 2) (htag : tag.toNat ≤ 15) (lba : BitVec 32)
    {count : BitVec 16} (hlo : 1 ≤ count.toNat) (hhi : count.toNat ≤ 256) :
    Request.valid { kind := kind, tag := tag, lba := lba, count := count } = true := by
  rcases hkind with rfl | rfl <;> simp [Request.valid, Request.countOk, htag, hlo, hhi]

/-- The record of a request admitted, and what starts for it. -/
structure Admitted (s t : State) (x : Txn) (y : Txn) : Prop where
  found : t.txn? x.tag = some y
  record : y.fixedPart = x.fixedPart
  tags : t.txns.map Txn.tag = s.txns.map Txn.tag ++ [x.tag]
  inOrder : s.TagsOk → s.BuffersInOrder t
  right : t.StartedRight s.ubp.jobs y x.nextUnit x.jobsHeld

theorem settle_admitted {s : State} {r : Request} {k : TxKind} (hvalid : r.valid = true) (hkind : kindOf r.kind = some k)
    (hfree : s.txn? (tagOf r.tag) = none) :
    ∃ y, Admitted s (settle (takeRequest r s)) ((s.reported r).admitted k (tagOf r.tag) r) y := by
  have htag : ((s.reported r).admitted k (tagOf r.tag) r).tag = tagOf r.tag := ((s.reported r).admitted_fields k _ r).1
  have hfree' : (s.reported r).txn? (tagOf r.tag) = none := by rwa [State.txn?_congr (s.reported_frame r).2.2.1]
  have htaken := takeRequest_of_valid hvalid hkind hfree
  obtain ⟨x, hx⟩ : ∃ x, x = (s.reported r).admitted k (tagOf r.tag) r := ⟨_, rfl⟩
  have htable : (takeRequest r s).txns = s.txns ++ [x] := by
    rw [htaken, admitRequest_txns, (s.reported_frame r).2.2.1, hx]
  have hjobs : (takeRequest r s).ubp.jobs = s.ubp.jobs := by
    rw [htaken]
    simp [admitRequest]
  rw [← hx] at htag ⊢
  have hnew : ∀ z ∈ s.txns, z.tag ≠ x.tag := by
    intro z hz heq
    have hnone := List.find?_eq_none.1 hfree z hz
    simp [heq, htag] at hnone
  have huniq : ∀ z ∈ (takeRequest r s).txns, z.tag = x.tag → z = x := by
    intro z hz heq
    rw [htable, List.mem_append, List.mem_singleton] at hz
    exact hz.resolve_left fun hz => hnew z hz heq
  obtain ⟨w, hw, hwtag, hparts, hwuniq, hright⟩ := settle_startedRight (z := x) (by rw [htable]; simp) huniq
  have hfound : (settle (takeRequest r s)).txn? x.tag = some w := by
    cases hy : (settle (takeRequest r s)).txn? x.tag with
    | none => exact absurd hwtag (by simpa using List.find?_eq_none.1 hy w hw)
    | some y => rw [hwuniq y (State.mem_of_txn? hy) (State.tag_of_txn? hy)]
  rw [hjobs] at hright
  refine ⟨w, hfound, hparts, ?_, fun htags => ?_, hright⟩
  · rw [settle_records (by exact fun _ => rfl), htable, List.map_append]
    rfl
  · have htags' : (takeRequest r s).TagsOk := by
      rw [State.TagsOk, htable, List.map_append, List.nodup_append]
      refine ⟨htags, by simp, ?_⟩
      simpa using hnew
    exact (settle_buffersInOrder htags').before (.of_same hjobs)

/-- A record clamped, as what follows its admission leaves it. -/
theorem Admitted.clamped {s t : State} {x y : Txn} (h : Admitted s t x y) {lba count b : Nat} {v : Volume}
    (hclamped : x.ClampedAt lba count b v) (hheld : x.jobsHeld = 0) :
    (b < lba → y.phase = .done ∧ y.outcome = some .range ∧ y.transfer = some 0) ∧
    (lba ≤ b → y.phase = .active ∧ y.transfer = some (if lba + count - 1 ≤ b then count else b - lba + 1) ∧
      (s.TagsOk → s.BuffersInOrder t) ∧ (v = .user → t.StartedRight s.ubp.jobs y (some (lba / 8)) 0)) := by
  obtain ⟨-, -, -, -, -, htransfer, -, -, hphase, -, houtcome⟩ := Txn.fields_of_fixedPart h.record
  refine ⟨fun hlt => ?_, fun hle => ?_⟩
  · obtain ⟨hp, ho, ht⟩ := hclamped.beyond hlt
    exact ⟨hphase.trans hp, houtcome.trans ho, htransfer.trans ht⟩
  · obtain ⟨hp, ht, hnext⟩ := hclamped.within hle
    refine ⟨hphase.trans hp, htransfer.trans ht, h.inOrder, fun huser => ?_⟩
    have hright := h.right
    rwa [hnext huser, hheld] at hright

/-- Settles O21: the record by the presented volume and the clamp, and the units by what follows its admission. -/
theorem readAdmission : Obligations.ReadAdmission := by
  intro s tag lba count htakes htag hlo hhi hfree
  obtain ⟨r, hr⟩ : ∃ r : Request, r = { kind := 1, tag := tag, lba := lba, count := count } := ⟨_, rfl⟩
  have hvalid : r.valid = true := hr ▸ Request.valid_of_transfer (.inl rfl) htag lba hlo hhi
  have hexec : exec (.readRequest tag lba count) s = .next (settle (takeRequest r s)) := by
    rw [hr, ← requestArrives_of_takesRequests htakes]
    rfl
  have hkind : kindOf r.kind = some .read := by rw [hr]; rfl
  have htransfer : r.isTransfer = true := by rw [hr]; rfl
  obtain rfl : tag = r.tag := by rw [hr]
  obtain rfl : lba = r.lba := by rw [hr]
  obtain rfl : count = r.count := by rw [hr]
  obtain ⟨y, hy⟩ := settle_admitted hvalid hkind hfree
  obtain ⟨hxkind, hxlba, hxrequested, hxdone, hxfailure, hxheld, hxvolume⟩ :=
    admitted_transfer (s.reported r) (.inl rfl) (tagOf r.tag) r
  have htag' : ((s.reported r).admitted .read (tagOf r.tag) r).tag = tagOf r.tag := ((s.reported r).admitted_fields .read _ r).1
  obtain ⟨-, hykind, hyvolume, hylba, hyrequested, -, hydone, hyfailure, hyphase, -, hyoutcome⟩ := Txn.fields_of_fixedPart hy.record
  have hatr : (s.reported r).atr = s.atr := (s.reported_frame r).2.2.2.1
  obtain ⟨hnothing, hclamped⟩ := admitted_read (s.reported r) (tagOf r.tag) r hlo
  rw [hatr] at hnothing hclamped hxvolume
  refine ⟨_, y, hexec, htag' ▸ hy.found, hykind.trans hxkind, hylba.trans hxlba, hyrequested.trans hxrequested,
    hydone.trans hxdone, hyfailure.trans hxfailure, hyvolume.trans hxvolume, ?_, htag' ▸ hy.tags, fun hv => ?_, fun h hne hh => ?_⟩
  · rw [takeRequest_ac_of_admitted hvalid hkind hfree, State.reported_ac]
    simp [htransfer]
  · obtain ⟨hp, ho⟩ := hnothing hv
    exact ⟨hyphase.trans hp, hyoutcome.trans ho⟩
  · exact hy.clamped (hclamped h hne hh) hxheld

/-- Settles O22: as READ, with the two PROTECTED rows. -/
theorem writeAdmission : Obligations.WriteAdmission := by
  intro s tag lba count htakes htag hlo hhi hfree
  obtain ⟨r, hr⟩ : ∃ r : Request, r = { kind := 2, tag := tag, lba := lba, count := count } := ⟨_, rfl⟩
  have hvalid : r.valid = true := hr ▸ Request.valid_of_transfer (.inr rfl) htag lba hlo hhi
  have hexec : exec (.writeRequest tag lba count) s = .next (settle (takeRequest r s)) := by
    rw [hr, ← requestArrives_of_takesRequests htakes]
    rfl
  have hkind : kindOf r.kind = some .write := by rw [hr]; rfl
  have htransfer : r.isTransfer = true := by rw [hr]; rfl
  obtain rfl : tag = r.tag := by rw [hr]
  obtain rfl : lba = r.lba := by rw [hr]
  obtain rfl : count = r.count := by rw [hr]
  obtain ⟨y, hy⟩ := settle_admitted hvalid hkind hfree
  obtain ⟨hxkind, hxlba, hxrequested, hxdone, hxfailure, hxheld, hxvolume⟩ :=
    admitted_transfer (s.reported r) (.inr rfl) (tagOf r.tag) r
  have htag' : ((s.reported r).admitted .write (tagOf r.tag) r).tag = tagOf r.tag := ((s.reported r).admitted_fields .write _ r).1
  obtain ⟨-, hykind, hyvolume, hylba, hyrequested, -, hydone, hyfailure, hyphase, -, hyoutcome⟩ := Txn.fields_of_fixedPart hy.record
  have hatr : (s.reported r).atr = s.atr := (s.reported_frame r).2.2.2.1
  have hks : (s.reported r).ks = s.ks := (s.reported_frame r).2.2.2.2.2.2.1
  obtain ⟨hnothing, hoverlay, hpolicy, hclamped⟩ := admitted_write (s.reported r) (tagOf r.tag) r hlo
  rw [hatr] at hnothing hoverlay hpolicy hclamped hxvolume
  rw [hks] at hpolicy hclamped
  refine ⟨_, y, hexec, htag' ▸ hy.found, hykind.trans hxkind, hylba.trans hxlba, hyrequested.trans hxrequested,
    hydone.trans hxdone, hyfailure.trans hxfailure, hyvolume.trans hxvolume, ?_, htag' ▸ hy.tags, fun hv => ?_, fun hv => ?_,
    fun hv hro => ?_, fun h hv hro hh => ?_⟩
  · rw [takeRequest_ac_of_admitted hvalid hkind hfree, State.reported_ac]
    simp [htransfer]
  · obtain ⟨hp, ho⟩ := hnothing hv
    exact ⟨hyphase.trans hp, hyoutcome.trans ho⟩
  · obtain ⟨hp, ho⟩ := hoverlay hv
    exact ⟨hyphase.trans hp, hyoutcome.trans ho⟩
  · obtain ⟨hp, ho⟩ := hpolicy hv hro
    exact ⟨hyphase.trans hp, hyoutcome.trans ho⟩
  · exact hy.clamped (hclamped h hv hro hh) hxheld

end Sys2Proof.Machine


/-! PROOF. The order in which what follows an event serves the jobs (R51, R57) and sends the operations it issues (R65, R173). -/

namespace Sys2Proof.Machine

open Sys2Proof

/-! ## Frames (R65, R173) -/

theorem State.frameOf_congr {s t : State} (h : t.ubp.mem = s.ubp.mem) (z : Slot) : t.frameOf z = s.frameOf z := by
  unfold State.frameOf
  rw [h]

/-- From `s` to `t` each operation issued has been sent, and the unit buffers are as they were. -/
def Sends (s t : State) : Prop :=
  t.ubp.mem = s.ubp.mem ∧ ∃ l : List Slot, t.dli.slots = s.dli.slots ++ l ∧
    t.dli.sent = (l.map s.frameOf).reverse ++ s.dli.sent

theorem Sends.of_same {s t : State} (hmem : t.ubp.mem = s.ubp.mem) (hslots : t.dli.slots = s.dli.slots)
    (hsent : t.dli.sent = s.dli.sent) : Sends s t := ⟨hmem, [], by simp [hslots], by simp [hsent]⟩

theorem releaseHold_sent (s : State) : (releaseHold s).dli.slots = s.dli.slots ∧ (releaseHold s).dli.sent = s.dli.sent := by
  refine ⟨?_, ?_⟩
  · unfold releaseHold
    split <;> simp
  · unfold releaseHold makeDue requestWindow requestCursor
    split
    · split
      · rfl
      · split
        · rfl
        · split
          · split
            · rw [makeRequest_dli]
              split <;> rfl
            · simp
          · rfl
    · rfl

theorem startJob_sent (b : Fin 8) (x : Txn) (u : Nat) (s : State) : (startJob b x u s).dli.sent = s.dli.sent := by
  rw [startJob_dli, makeRequest_dli]
  split
  · rfl
  · split <;> rfl

theorem sends_closing : Closing Sends where
  refl s := .of_same rfl rfl rfl
  trans h1 h2 := by
    obtain ⟨hmem, l, hl, hsent⟩ := h1
    obtain ⟨hmem', m, hm, hsent'⟩ := h2
    refine ⟨hmem'.trans hmem, l ++ m, by rw [hm, hl, List.append_assoc], ?_⟩
    rw [hsent', hsent, funext (State.frameOf_congr hmem)]
    simp
  startJob b x s hb hx := .of_same (memory_closing.startJob b x s hb hx) (startJob_slots b x _ s) (startJob_sent b x _ s)
  dataWaits s := .of_same rfl (by simp) (by simp)
  releaseHold s := .of_same (by simp) (releaseHold_sent s).1 (releaseHold_sent s).2
  issue d r s _ _ := by
    obtain ⟨-, hslots, hsent, hmem⟩ := issue_dli d r s
    exact ⟨hmem, _, hslots, by simp [hsent]⟩
  cipherTake s := .of_same (memory_closing.cipherTake s) (by simp) (by simp)
  grant s := .of_same (memory_closing.grant s) (by simp) (by simp)
  judge s := .of_same (by simp) (by simp) (by simp)

/-- What follows an event sends the operations it issues, in their order (R65, R173). -/
theorem settle_framesSent {s u : State} (hsent : u.dli.sent = s.dli.sent) : s.FramesSent (settle u) u.dli.slots := by
  obtain ⟨hmem, l, hl, hframes⟩ := sends_closing.settle u
  refine ⟨l, hl, ?_⟩
  rw [hframes, funext (State.frameOf_congr hmem), hsent]

/-! ## Data intake in ascending order (R51) -/

/-- The states that the closure takes a job to once data waits are decided (R54, R58). -/
def JobState.Serves (a b : JobState) : Prop :=
  b = a ∨ (a = .decryptWait ∧ b = .decrypting) ∨ (a = .encryptWait ∧ b = .encrypting) ∨ (a = .deliverWait ∧ b = .delivering)

theorem JobState.Serves.taken (a : JobState) : a.Serves a.taken := by cases a <;> simp [JobState.Serves, JobState.taken]

theorem JobState.Serves.trans {a b c : JobState} (h1 : a.Serves b) (h2 : b.Serves c) : a.Serves c := by
  unfold JobState.Serves at *
  rcases h1 with rfl | ⟨rfl, rfl⟩ | ⟨rfl, rfl⟩ | ⟨rfl, rfl⟩ <;> simp_all

/-- What identifies a job among the jobs. -/
def Job.standing (j : Job) : Fin 8 × Fin 16 × Nat × Bool := (j.buf, j.owner, j.unit, j.abandoned)

theorem Job.standing_fields {j k : Job} (h : k.standing = j.standing) :
    k.buf = j.buf ∧ k.owner = j.owner ∧ k.unit = j.unit ∧ k.abandoned = j.abandoned := by
  simpa [Job.standing] using h

/-- From `s` to `t` each job stands, served on from where it was; no other starts. -/
def Serves (s t : State) : Prop :=
  s.BuffersOk → ∃ f : Job → Job, t.ubp.jobs = s.ubp.jobs.map f ∧
    ∀ j ∈ s.ubp.jobs, (f j).standing = j.standing ∧ j.state.Serves (f j).state

theorem Serves.of_same {s t : State} (h : t.ubp.jobs = s.ubp.jobs) : Serves s t :=
  fun _ => ⟨id, by simpa using h, fun _ _ => ⟨rfl, .inl rfl⟩⟩

theorem buffersOk_of_standing {s t : State} {f : Job → Job} (hb : s.BuffersOk) (hjobs : t.ubp.jobs = s.ubp.jobs.map f)
    (hf : ∀ j ∈ s.ubp.jobs, (f j).standing = j.standing) : t.BuffersOk := by
  have hbufs : (s.ubp.jobs.map f).map Job.buf = s.ubp.jobs.map Job.buf := by
    rw [List.map_map]
    exact List.map_congr_left fun j hj => (Job.standing_fields (hf j hj)).1
  rwa [State.BuffersOk, hjobs, hbufs]

theorem Serves.trans {s t u : State} (h1 : Serves s t) (h2 : Serves t u) : Serves s u := by
  intro hb
  obtain ⟨f, hf, hfs⟩ := h1 hb
  obtain ⟨g, hg, hgs⟩ := h2 (buffersOk_of_standing hb hf fun j hj => (hfs j hj).1)
  refine ⟨g ∘ f, by rw [hg, hf, List.map_map], fun j hj => ?_⟩
  obtain ⟨hsame, hserves⟩ := hfs j hj
  obtain ⟨hsame', hserves'⟩ := hgs (f j) (hf ▸ List.mem_map_of_mem hj)
  exact ⟨hsame'.trans hsame, hserves.trans hserves'⟩

theorem Serves.issue (d : Fin 4) (r : DReq) (s : State) : Serves s (issue d r s) := by
  intro _
  obtain ⟨f, hf, hstays⟩ := issue_jobs d r s
  refine ⟨f, hf, fun j _ => ?_⟩
  obtain ⟨hbuf, howner, hunit, -, -, -, hstate, -, habandoned⟩ := (hstays j).fields
  exact ⟨by simp [Job.standing, hbuf, howner, hunit, habandoned], .inl hstate⟩

theorem Serves.issueAll (n : Nat) (s : State) : Serves s (issueAll n s) := by
  induction n generalizing s with
  | zero => exact .of_same rfl
  | succ n ih =>
    unfold Machine.issueAll
    split
    next d r _ _ => exact (Serves.issue d r s).trans (ih _)
    · exact .of_same rfl

theorem Serves.cipherTake (s : State) : Serves s (cipherTake s) := by
  rcases cipherTake_jobs s with hsame | ⟨j, -, -, -, hmap⟩
  · exact .of_same hsame
  · refine fun _ => ⟨_, hmap, fun k _ => ?_⟩
    split
    · exact ⟨rfl, .taken _⟩
    · exact ⟨rfl, .inl rfl⟩

theorem Serves.grant (s : State) : Serves s (grant s) := by
  rcases grant_jobs s with hsame | ⟨t, j, hj, hmap⟩
  · exact .of_same hsame
  · obtain ⟨hmem, -, hstate, -⟩ := State.deliverable_spec hj
    refine fun hb => ⟨_, hmap, fun k hk => ?_⟩
    split
    next hbuf =>
      obtain rfl := hb.eq_of_buf hk hmem hbuf
      exact ⟨rfl, .inr (.inr (.inr ⟨hstate, rfl⟩))⟩
    next => exact ⟨rfl, .inl rfl⟩

theorem Serves.judge (s : State) : Serves s (judge s) := .of_same (by simp)

theorem serves_afterHold (s : State) : Serves s (afterHold (releaseHold s)) :=
  (Serves.of_same (s := s) (t := releaseHold s) (by simp)).trans ((Serves.issueAll 4 _).trans ((Serves.cipherTake _).trans
    ((Serves.grant _).trans (.judge _))))

/-- The jobs that start are behind the others, and none of them waits for its data yet. -/
theorem allocate_jobs (n : Nat) (s : State) : ∃ m, (allocate n s).ubp.jobs = s.ubp.jobs ++ m ∧
    ∀ k ∈ m, k.state = .dataQueue ∨ k.state = .mediaRead := by
  induction n generalizing s with
  | zero => exact ⟨[], by simp [allocate], by simp⟩
  | succ n ih =>
    unfold allocate
    split
    next b x hb _ =>
      obtain ⟨m, hm, hstates⟩ := ih (startJob b x (x.nextUnit.getD 0) s)
      rw [startJob_jobs (State.freeBuffer_spec hb), List.append_assoc] at hm
      refine ⟨_, hm, fun k hk => ?_⟩
      rcases List.mem_append.1 hk with hk | hk
      · rw [List.mem_singleton.1 hk]
        exact Job.started_state b x _
      · exact hstates k hk
    next => exact ⟨[], by simp, by simp⟩

theorem allocate_buffersOk {s : State} (hb : s.BuffersOk) (n : Nat) : (allocate n s).BuffersOk :=
  (follows_closing.allocate n s).buffers hb

/-- A job as `dataWaits` leaves it, among the jobs `jobs` (R51). -/
def Job.waited (jobs : List Job) (j : Job) : Job := if mayWait jobs j then { j with state := .dataWait } else j

theorem Job.waited_spec (jobs : List Job) (j : Job) : (j.waited jobs).standing = j.standing ∧
    (j.HasAllData ↔ (j.waited jobs).HasAllData) := by
  unfold Job.waited
  split
  next h =>
    obtain ⟨hqueue, -⟩ := (mayWait_iff _ _).1 h
    simp [Job.standing, Job.HasAllData, hqueue]
  next => exact ⟨rfl, Iff.rfl⟩

theorem JobState.Serves.hasAllData {j k : Job} (h : j.state.Serves k.state) : j.HasAllData ↔ k.HasAllData := by
  unfold JobState.Serves at h
  unfold Job.HasAllData
  rcases h with h | ⟨ha, hb⟩ | ⟨ha, hb⟩ | ⟨ha, hb⟩
  · rw [h]
  · simp [ha, hb]
  · simp [ha, hb]
  · simp [ha, hb]

/-- What follows an event asks for data in ascending order (R51). -/
theorem settle_waitsInOrder {s : State} (hb : s.BuffersOk) : s.WaitsInOrder (settle s) := by
  obtain ⟨u, hu⟩ : ∃ u, u = allocate 8 s := ⟨_, rfl⟩
  have hub : u.BuffersOk := hu ▸ allocate_buffersOk hb 8
  obtain ⟨m, hm, hstates⟩ := allocate_jobs 8 s
  rw [← hu] at hm
  have hwaited : (dataWaits u).ubp.jobs = u.ubp.jobs.map (Job.waited u.ubp.jobs) := dataWaits_jobs u
  obtain ⟨f, hf, hserves⟩ := serves_afterHold (dataWaits u)
    (buffersOk_of_standing hub hwaited fun j _ => (j.waited_spec u.ubp.jobs).1)
  have hjobs : (settle s).ubp.jobs = u.ubp.jobs.map (f ∘ Job.waited u.ubp.jobs) := by
    rw [settle_eq_afterHold, ← hu, hf, hwaited, List.map_map]
  have hstep : ∀ j ∈ u.ubp.jobs, (f (j.waited u.ubp.jobs)).standing = j.standing ∧
      (j.waited u.ubp.jobs).state.Serves (f (j.waited u.ubp.jobs)).state := fun j hj => by
    obtain ⟨hsame, hserve⟩ := hserves (j.waited u.ubp.jobs) (hwaited ▸ List.mem_map_of_mem hj)
    exact ⟨hsame.trans (j.waited_spec _).1, hserve⟩
  have hdata : ∀ j ∈ u.ubp.jobs, j.HasAllData ↔ (f (j.waited u.ubp.jobs)).HasAllData := fun j hj =>
    (j.waited_spec u.ubp.jobs).2.trans (hstep j hj).2.hasAllData
  refine ⟨fun k hk hwait hnew j hj hwith hlt => ?_, fun k hk hqueue hkept => ?_⟩
  · obtain ⟨k', hk', rfl⟩ := List.mem_map.1 (hjobs ▸ hk)
    obtain ⟨j', hj', rfl⟩ := List.mem_map.1 (hjobs ▸ hj)
    obtain ⟨hbuf, howner, hunit, habandoned⟩ := Job.standing_fields (hstep k' hk').1
    obtain ⟨-, howner', hunit', habandoned'⟩ := Job.standing_fields (hstep j' hj').1
    have hmay : mayWait u.ubp.jobs k' = true := by
      by_contra hnot
      have hserve := (hstep k' hk').2
      rw [Job.waited, if_neg hnot] at hserve
      have hold : k'.state = .dataWait := by
        have hwait' : (f (k'.waited u.ubp.jobs)).state = .dataWait := hwait
        rw [Job.waited, if_neg hnot] at hwait'
        unfold JobState.Serves at hserve
        rw [hwait'] at hserve
        simpa [eq_comm] using hserve
      rw [hm] at hk'
      rcases List.mem_append.1 hk' with hk' | hk'
      · exact hnew k' hk' hbuf.symm hold
      · rcases hstates k' hk' with h | h <;> simp [h] at hold
    obtain ⟨-, -, hall⟩ := (mayWait_iff _ _).1 hmay
    obtain ⟨hsame, hj1, hk1⟩ := hwith
    exact (hdata j' hj').1 (hall j' hj' ⟨howner'.symm.trans (hsame.trans howner), habandoned'.symm.trans hj1, habandoned.symm.trans hk1⟩
      (hunit' ▸ hunit ▸ hlt))
  · obtain ⟨k', hk', rfl⟩ := List.mem_map.1 (hjobs ▸ hk)
    obtain ⟨hbuf, howner, hunit, habandoned⟩ := Job.standing_fields (hstep k' hk').1
    have hserve := (hstep k' hk').2
    have hqueue' : (f (k'.waited u.ubp.jobs)).state = .dataQueue := hqueue
    unfold JobState.Serves at hserve
    rw [hqueue'] at hserve
    have hstill : (k'.waited u.ubp.jobs).state = .dataQueue := by simpa [eq_comm] using hserve
    have hnot : mayWait u.ubp.jobs k' ≠ true := fun hmay => by simp [Job.waited, hmay] at hstill
    rw [Job.waited, if_neg hnot] at hstill
    have hblocked : ∃ i ∈ u.ubp.jobs, i.WithOf k' ∧ i.unit < k'.unit ∧ ¬ i.HasAllData := by
      by_contra hnone
      refine hnot ((mayWait_iff _ _).2 ⟨hstill, habandoned.symm.trans hkept, fun i hi hwith hlt => ?_⟩)
      by_contra hlacks
      exact hnone ⟨i, hi, hwith, hlt, hlacks⟩
    obtain ⟨i, hi, ⟨hsame, hi1, hk1⟩, hlt, hlacks⟩ := hblocked
    obtain ⟨-, howner', hunit', habandoned'⟩ := Job.standing_fields (hstep i hi).1
    refine ⟨_, hjobs ▸ List.mem_map_of_mem (f := f ∘ Job.waited u.ubp.jobs) hi, ⟨?_, ?_, hkept⟩, ?_, fun h => hlacks ((hdata i hi).2 h)⟩
    · exact howner'.trans (hsame.trans howner.symm)
    · exact habandoned'.trans hi1
    · exact hunit'.trans_lt (hlt.trans_eq hunit.symm)

/-- Each job of `t` in DATA_WAIT holds a buffer of a job of `s` in DATA_WAIT. -/
def WaitsFrom (s t : State) : Prop :=
  ∀ k ∈ t.ubp.jobs, k.state = .dataWait → ∃ j ∈ s.ubp.jobs, j.buf = k.buf ∧ j.state = .dataWait

theorem State.WaitsInOrder.before {r s t : State} (h : s.WaitsInOrder t) (hfrom : WaitsFrom r s) : r.WaitsInOrder t :=
  ⟨fun k hk hwait hnew => h.1 k hk hwait fun j hj hbuf hold => by
    obtain ⟨i, hi, hbuf', hold'⟩ := hfrom j hj hold
    exact hnew i hi (hbuf'.trans hbuf) hold', h.2⟩

/-! ## The cipher queue (R57) -/

/-- Each job of `t` that the CE works on holds a buffer of one of `s`. -/
def CiphersFrom (s t : State) : Prop :=
  ∀ k ∈ t.ubp.jobs, k.ciphering = true → ∃ j ∈ s.ubp.jobs, j.buf = k.buf ∧ j.ciphering = true

theorem lowestJob_eq_none {l : List Job} (h : lowestJob l = none) : l = [] := by
  cases l with
  | nil => rfl
  | cons j l =>
    unfold lowestJob at h
    split at h
    · cases h
    · split at h <;> cases h

/-- The job the CE takes is of the oldest transaction with a job queued, on the lowest unit (R57). -/
theorem State.nextCipher_spec {s : State} {j : Job} (h : s.nextCipher = some j) {q : Job} (hq : q ∈ s.cipherQueue) :
    (q.owner = j.owner → j.unit ≤ q.unit) ∧ ∀ y ∈ s.older j.owner, q.owner ≠ y.tag := by
  obtain ⟨pre, x, post, htable, hx, hpre⟩ := List.findSome?_eq_some_iff.1 h
  obtain ⟨hmem, hlowest⟩ := lowestJob_spec hx
  obtain ⟨-, howner⟩ := List.mem_filter.1 hmem
  have howner : j.owner = x.tag := by simpa using howner
  refine ⟨fun hsame => hlowest q (List.mem_filter.2 ⟨hq, by simp [hsame, howner]⟩), fun y hy hqy => ?_⟩
  have hmem : y ∈ pre := by
    rw [State.older, htable, howner, List.takeWhile_append] at hy
    split at hy
    · rwa [List.takeWhile_cons_of_neg (by simp), List.append_nil] at hy
    · exact (List.takeWhile_sublist _).mem hy
  have hnone := lowestJob_eq_none (hpre y hmem)
  rw [List.filter_eq_nil_iff] at hnone
  exact hnone q hq (by simp [hqy])

theorem State.nextCipher_none {s : State} (h : s.nextCipher = none) {q : Job} (hq : q ∈ s.cipherQueue) {y : Txn} (hy : y ∈ s.txns) :
    q.owner ≠ y.tag := by
  intro hqy
  have hnone := lowestJob_eq_none (List.findSome?_eq_none_iff.1 h y hy)
  rw [List.filter_eq_nil_iff] at hnone
  exact hnone q hq (by simp [hqy])

/-- From `s` to `t` no job is taken by the CE, and none joins its queue. -/
def NoneTaken (s t : State) : Prop :=
  s.BuffersOk → t.txns = s.txns ∧ t.ce = s.ce ∧ ∃ f : Job → Job, t.ubp.jobs = s.ubp.jobs.map f ∧
    ∀ j ∈ s.ubp.jobs, (f j).standing = j.standing ∧ (f j).ciphering = j.ciphering ∧ ((f j).queued = true → j.queued = true)

theorem noneTaken_grant (s : State) : NoneTaken s (judge (grant s)) := by
  intro hb
  have hjobs : (judge (grant s)).ubp.jobs = (grant s).ubp.jobs := by simp
  refine ⟨by simp, by simp, ?_⟩
  rw [hjobs]
  rcases grant_jobs s with hsame | ⟨t, j, hj, hmap⟩
  · exact ⟨id, by simpa using hsame, fun _ _ => ⟨rfl, rfl, id⟩⟩
  · obtain ⟨hmem, -, hstate, -⟩ := State.deliverable_spec hj
    refine ⟨_, hmap, fun k hk => ?_⟩
    split
    next hbuf =>
      obtain rfl := hb.eq_of_buf hk hmem hbuf
      exact ⟨rfl, by simp only [Job.ciphering, hstate]; decide, by simp [Job.queued]⟩
    next => exact ⟨rfl, rfl, id⟩

theorem cipherTake_buffersOk {s : State} (hb : s.BuffersOk) : (cipherTake s).BuffersOk := (Follows.cipherTake s).buffers hb

/-- A job that the CE takes was the next of its queue (R57). -/
theorem cipherTake_inOrder {s : State} (hb : s.BuffersOk) : s.CipherInOrder (cipherTake s) := by
  have htxns : (cipherTake s).txns = s.txns := by simp
  rcases cipherTake_jobs s with hsame | ⟨j, hj, hidle, hkey, hmap⟩
  · refine ⟨fun k hk hciphering hnew => ?_, fun hkey hidle q hq y hy => ?_⟩
    · have hidle := hnew k (hsame ▸ hk) rfl
      rw [hciphering] at hidle
      cases hidle
    · rw [htxns] at hy
      have hq : q ∈ s.cipherQueue := by rwa [State.cipherQueue, ← hsame]
      refine State.nextCipher_none ?_ hq hy
      cases hnext : s.nextCipher with
      | none => rfl
      | some j =>
        exfalso
        have hkey' : s.ce.key.isSome = true := by simpa using hkey
        have hany : s.ubp.jobs.any (fun j => j.ciphering) = false := by
          rw [← hsame]
          simpa using hidle
        obtain ⟨hmem, hqueued⟩ := State.nextCipher_queued hnext
        have htaken : (cipherTake s).ubp.jobs =
            s.ubp.jobs.map (fun k => if k.buf = j.buf then { k with state := k.state.taken } else k) := by
          rw [cipherTake, if_neg (by simp [hany, Option.isSome_iff_ne_none.1 hkey']), hnext]
          rfl
        have hin : { j with state := j.state.taken } ∈ (cipherTake s).ubp.jobs := by
          rw [htaken]
          exact List.mem_map.2 ⟨j, hmem, by simp⟩
        have hidle' := hidle _ hin
        simp only [Job.queued, Bool.and_eq_true, Bool.or_eq_true, beq_iff_eq] at hqueued
        rcases hqueued.2 with h | h <;> simp [Job.ciphering, h, JobState.taken] at hidle'
  · obtain ⟨hmem, hqueued⟩ := State.nextCipher_queued hj
    simp only [Job.queued, Bool.and_eq_true, Bool.or_eq_true, beq_iff_eq] at hqueued
    have hfrom : ∀ q ∈ (cipherTake s).cipherQueue, q ∈ s.cipherQueue := by
      intro q hq
      rw [State.cipherQueue, hmap, List.mem_filter, List.mem_map] at hq
      obtain ⟨⟨q', hq', rfl⟩, hqueued'⟩ := hq
      split at hqueued'
      next hbuf =>
        obtain rfl := hb.eq_of_buf hq' hmem hbuf
        rcases hqueued.2 with h | h <;> simp [Job.queued, h, JobState.taken] at hqueued'
      next hbuf =>
        rw [if_neg hbuf]
        exact List.mem_filter.2 ⟨hq', hqueued'⟩
    refine ⟨fun k hk hciphering hnew q hq => ?_, fun _ hnone => ?_⟩
    · rw [hmap, List.mem_map] at hk
      obtain ⟨k', hk', rfl⟩ := hk
      have hbuf : k'.buf = j.buf := by
        by_contra hne
        rw [if_neg hne] at hciphering
        rw [hidle k' hk'] at hciphering
        cases hciphering
      obtain rfl := hb.eq_of_buf hk' hmem hbuf
      rw [if_pos rfl, State.older, htxns]
      exact State.nextCipher_spec hj (hfrom q hq)
    · have hin : { j with state := j.state.taken } ∈ (cipherTake s).ubp.jobs := by
        rw [hmap]
        exact List.mem_map.2 ⟨j, hmem, by simp⟩
      have hidle' := hnone _ hin
      rcases hqueued.2 with h | h <;> simp [Job.ciphering, h, JobState.taken] at hidle'

theorem CiphersFrom.of_map {s t : State} {f : Job → Job} (hjobs : t.ubp.jobs = s.ubp.jobs.map f)
    (hf : ∀ j ∈ s.ubp.jobs, (f j).buf = j.buf ∧ ((f j).ciphering = true → j.ciphering = true)) : CiphersFrom s t := by
  intro k hk hciphering
  obtain ⟨j, hj, rfl⟩ := List.mem_map.1 (hjobs ▸ hk)
  exact ⟨j, hj, (hf j hj).1.symm, (hf j hj).2 hciphering⟩

theorem CiphersFrom.trans {s t u : State} (h1 : CiphersFrom s t) (h2 : CiphersFrom t u) : CiphersFrom s u := by
  intro k hk hciphering
  obtain ⟨j, hj, hbuf, hciphering'⟩ := h2 k hk hciphering
  obtain ⟨i, hi, hbuf', hciphering''⟩ := h1 j hj hciphering'
  exact ⟨i, hi, hbuf'.trans hbuf, hciphering''⟩

theorem CiphersFrom.refl (s : State) : CiphersFrom s s := fun k hk h => ⟨k, hk, rfl, h⟩

theorem CiphersFrom.issueAll (n : Nat) (s : State) : CiphersFrom s (issueAll n s) := by
  induction n generalizing s with
  | zero => exact .refl s
  | succ n ih =>
    unfold Machine.issueAll
    split
    next d r _ _ =>
      obtain ⟨f, hf, hstays⟩ := issue_jobs d r s
      refine (CiphersFrom.of_map hf fun j _ => ?_).trans (ih _)
      obtain ⟨hbuf, -, -, -, -, -, hstate, -, -⟩ := (hstays j).fields
      exact ⟨hbuf, by simp [Job.ciphering, hstate]⟩
    · exact .refl s

theorem ciphersFrom_beforeTake (s : State) : CiphersFrom s (issueAll 4 (releaseHold (dataWaits (allocate 8 s)))) := by
  obtain ⟨m, hm, hstates⟩ := allocate_jobs 8 s
  have hallocated : CiphersFrom s (allocate 8 s) := by
    intro k hk hciphering
    rw [hm] at hk
    rcases List.mem_append.1 hk with hk | hk
    · exact ⟨k, hk, rfl, hciphering⟩
    · rcases hstates k hk with h | h <;> simp [Job.ciphering, h] at hciphering
  refine (hallocated.trans (.of_map (dataWaits_jobs _) fun j _ => ?_)).trans
    (CiphersFrom.trans (.of_map (f := id) (by simp) fun j _ => ⟨rfl, id⟩) (.issueAll 4 _))
  split <;> simp [Job.ciphering]

/-- What follows an event lets the CE take only the next job of its queue (R57). -/
theorem settle_cipherInOrder {s : State} (hb : s.BuffersOk) : s.CipherInOrder (settle s) := by
  obtain ⟨v, hv⟩ : ∃ v, v = issueAll 4 (releaseHold (dataWaits (allocate 8 s))) := ⟨_, rfl⟩
  have hvb : v.BuffersOk := by
    rw [hv]
    exact ((follows_closing.allocate 8 s).trans ((Follows.dataWaits _).trans ((Follows.releaseHold _).trans
      (follows_closing.issueAll 4 _)))).buffers hb
  have hfrom : CiphersFrom s v := hv ▸ ciphersFrom_beforeTake s
  have hsettle : settle s = judge (grant (cipherTake v)) := by rw [hv]; rfl
  obtain ⟨htxns, hce, f, hf, hstays⟩ := noneTaken_grant (cipherTake v) (cipherTake_buffersOk hvb)
  obtain ⟨hfirst, hnext⟩ := cipherTake_inOrder hvb
  rw [hsettle]
  have hqueue : ∀ q ∈ (judge (grant (cipherTake v))).cipherQueue, ∃ q' ∈ (cipherTake v).cipherQueue,
      q'.owner = q.owner ∧ q'.unit = q.unit := by
    intro q hq
    rw [State.cipherQueue, hf, List.mem_filter, List.mem_map] at hq
    obtain ⟨⟨q', hq', rfl⟩, hqueued⟩ := hq
    obtain ⟨hsame, -, hstill⟩ := hstays q' hq'
    obtain ⟨-, howner, hunit, -⟩ := Job.standing_fields hsame
    exact ⟨q', List.mem_filter.2 ⟨hq', hstill hqueued⟩, howner.symm, hunit.symm⟩
  refine ⟨fun k hk hciphering hnew q hq => ?_, fun hkey hidle q hq y hy => ?_⟩
  · rw [hf, List.mem_map] at hk
    obtain ⟨k', hk', rfl⟩ := hk
    obtain ⟨hsame, hciphers, -⟩ := hstays k' hk'
    obtain ⟨hbuf, howner, hunit, -⟩ := Job.standing_fields hsame
    obtain ⟨q', hq', hqowner, hqunit⟩ := hqueue q hq
    obtain ⟨hlowest, holdest⟩ := hfirst k' hk' (hciphers.symm.trans hciphering) (fun i hi hib => by
      by_contra hne
      obtain ⟨j, hj, hjb, hjc⟩ := hfrom i hi (by simpa using hne)
      have hidle := hnew j hj (hjb.trans (hib.trans hbuf.symm))
      rw [hjc] at hidle
      cases hidle) q' hq'
    rw [State.older, htxns, howner, hunit, ← hqowner, ← hqunit]
    exact ⟨hlowest, holdest⟩
  · obtain ⟨q', hq', hqowner, -⟩ := hqueue q hq
    rw [← hqowner]
    refine hnext (by rwa [hce] at hkey) (fun k hk => ?_) q' hq' y (htxns ▸ hy)
    obtain ⟨-, hciphers, -⟩ := hstays k hk
    rw [← hciphers]
    exact hidle _ (hf ▸ List.mem_map_of_mem hk)

theorem State.CipherInOrder.before {r s t : State} (h : s.CipherInOrder t) (hfrom : CiphersFrom r s) : r.CipherInOrder t :=
  ⟨fun k hk hciphering hnew => h.1 k hk hciphering fun j hj hbuf => Bool.eq_false_iff.2 fun hold => by
    obtain ⟨i, hi, hbuf', hold'⟩ := hfrom j hj hold
    exact absurd (hnew i hi (hbuf'.trans hbuf)) (by simp [hold']), h.2⟩

end Sys2Proof.Machine


/-! PROOF. The slot arbiter's choices (R65, R67, R68), and SYNC_COMPLETION (R76). -/

namespace Sys2Proof.Machine

open Sys2Proof

/-! ## What the ranks of the requests rest on -/

/-- What of a job decides the rank of its requests (R67). -/
def Job.rank (j : Job) : Fin 8 × Fin 16 × Bool := (j.buf, j.owner, j.abandoned)

/-- From `s` to `t` the ranks of the requests are as they were: the table, and the transactions that the jobs are for. -/
def RanksKept (s t : State) : Prop := t.txns = s.txns ∧ t.ubp.jobs.map Job.rank = s.ubp.jobs.map Job.rank

theorem RanksKept.refl (s : State) : RanksKept s s := ⟨rfl, rfl⟩

theorem RanksKept.trans {s t u : State} (h1 : RanksKept s t) (h2 : RanksKept t u) : RanksKept s u :=
  ⟨h2.1.trans h1.1, h2.2.trans h1.2⟩

theorem RanksKept.symm {s t : State} (h : RanksKept s t) : RanksKept t s := ⟨h.1.symm, h.2.symm⟩

theorem RanksKept.of_same {s t : State} (htxns : t.txns = s.txns) (hjobs : t.ubp.jobs = s.ubp.jobs) : RanksKept s t :=
  ⟨htxns, by rw [hjobs]⟩

theorem RanksKept.of_map {s t : State} {f : Job → Job} (htxns : t.txns = s.txns) (hjobs : t.ubp.jobs = s.ubp.jobs.map f)
    (hf : ∀ j, (f j).rank = j.rank) : RanksKept s t := by
  refine ⟨htxns, ?_⟩
  rw [hjobs, List.map_map]
  exact List.map_congr_left fun j _ => hf j

theorem RanksKept.issue (d : Fin 4) (r : DReq) (s : State) : RanksKept s (issue d r s) := by
  obtain ⟨f, hf, hstays⟩ := issue_jobs d r s
  refine .of_map (by simp) hf fun j => ?_
  obtain ⟨hbuf, howner, -, -, -, -, -, -, habandoned⟩ := (hstays j).fields
  simp [Job.rank, hbuf, howner, habandoned]

theorem ranksKept_afterIssue (s : State) : RanksKept s (judge (grant (cipherTake s))) := by
  have htake : RanksKept s (cipherTake s) := by
    rcases cipherTake_jobs s with h | ⟨j, -, -, -, h⟩
    · exact .of_same (by simp) h
    · exact .of_map (by simp) h fun k => by split <;> rfl
  have hgrant : RanksKept (cipherTake s) (grant (cipherTake s)) := by
    rcases grant_jobs (cipherTake s) with h | ⟨t, j, -, h⟩
    · exact .of_same (by simp) h
    · exact .of_map (by simp) h fun k => by split <;> rfl
  exact htake.trans (hgrant.trans (.of_same (by simp) (by simp)))

/-- The job of a buffer, as far as ranks go. -/
theorem RanksKept.job? {s t : State} (h : RanksKept s t) (b : Fin 8) :
    (t.job? b).map (fun j => (j.owner, j.abandoned)) = (s.job? b).map (fun j => (j.owner, j.abandoned)) := by
  have hfind (l : List Job) : (l.find? (fun j => j.buf == b)).map (fun j => (j.owner, j.abandoned)) =
      ((l.map Job.rank).find? (fun k => k.1 == b)).map Prod.snd := by
    rw [List.find?_map, Option.map_map]
    rfl
  rw [State.job?, State.job?, hfind, hfind, h.2]

theorem RanksKept.job?_some {s t : State} (h : RanksKept s t) {b : Fin 8} {j : Job} (hj : s.job? b = some j) :
    ∃ k, t.job? b = some k ∧ k.owner = j.owner ∧ k.abandoned = j.abandoned := by
  have hsame := h.job? b
  rw [hj, Option.map_some] at hsame
  obtain ⟨k, hk, heq⟩ := Option.map_eq_some_iff.1 hsame
  simp only [Prod.mk.injEq] at heq
  exact ⟨k, hk, heq⟩

theorem State.isOrphanWrite_iff (s : State) (r : DReq) : s.isOrphanWrite r = true ↔
    ∃ p b j, r.op = .pageWrite p ∧ r.owner = .job b ∧ s.job? b = some j ∧ j.abandoned = true := by
  unfold State.isOrphanWrite
  split
  next p b hop howner =>
    cases hj : s.job? b with
    | none => simp [hop, howner, hj]
    | some j => simp [hop, howner, hj]
  next hnot =>
    refine ⟨fun h => (by simp at h), fun h => ?_⟩
    obtain ⟨p, b, -, hop, howner, -⟩ := h
    exact (hnot p b hop howner).elim

theorem State.requestOf_iff (s : State) (t : Fin 16) (r : DReq) : s.requestOf t r = true ↔
    (∃ b j, r.owner = .job b ∧ s.job? b = some j ∧ j.owner = t ∧ j.abandoned = false) ∨ r.owner = .flush t := by
  unfold State.requestOf
  split
  next b howner =>
    cases hj : s.job? b with
    | none => simp [howner, hj]
    | some j => simp [howner, hj]
  next x howner => simp [howner]
  next hjob hflush =>
    refine ⟨fun h => (by simp at h), fun h => ?_⟩
    rcases h with ⟨b, -, howner, -⟩ | howner
    · exact (hjob b howner).elim
    · exact (hflush t howner).elim

theorem RanksKept.isOrphanWrite {s t : State} (h : RanksKept s t) : t.isOrphanWrite = s.isOrphanWrite := by
  have hstays {s t : State} (h : RanksKept s t) (r : DReq) (hs : s.isOrphanWrite r = true) : t.isOrphanWrite r = true := by
    rw [State.isOrphanWrite_iff] at hs ⊢
    obtain ⟨p, b, j, hop, howner, hj, habandoned⟩ := hs
    obtain ⟨k, hk, -, hk'⟩ := h.job?_some hj
    exact ⟨p, b, k, hop, howner, hk, hk'.trans habandoned⟩
  funext r
  exact Bool.eq_iff_iff.2 ⟨hstays h.symm r, hstays h r⟩

theorem RanksKept.requestOf {s t : State} (h : RanksKept s t) : t.requestOf = s.requestOf := by
  have hstays {s t : State} (h : RanksKept s t) (x : Fin 16) (r : DReq) (hs : s.requestOf x r = true) :
      t.requestOf x r = true := by
    rw [State.requestOf_iff] at hs ⊢
    refine hs.imp (fun ⟨b, j, howner, hj, hx, hkept⟩ => ?_) id
    obtain ⟨k, hk, hk1, hk2⟩ := h.job?_some hj
    exact ⟨b, k, howner, hk, hk1.trans hx, hk2.trans hkept⟩
  funext x r
  exact Bool.eq_iff_iff.2 ⟨hstays h.symm x r, hstays h x r⟩

theorem RanksKept.older {s t : State} (h : RanksKept s t) (x : Fin 16) : t.older x = s.older x := by
  rw [State.older, State.older, h.1]

/-! ## One choice of the arbiter (R67, R68) -/

theorem lowestRequest_eq_none {l : List DReq} (h : lowestRequest l = none) : l = [] := by
  cases l with
  | nil => rfl
  | cons r l =>
    unfold lowestRequest at h
    split at h
    · cases h
    · split at h <;> cases h

theorem lowestRequest_le {l : List DReq} {r : DReq} (h : lowestRequest l = some r) : ∀ q ∈ l, r.op.page ≤ q.op.page := by
  induction l generalizing r with
  | nil => simp
  | cons a l ih =>
    unfold lowestRequest at h
    intro q hq
    split at h
    next hnone =>
      obtain rfl := lowestRequest_eq_none hnone
      cases h
      simp only [List.mem_singleton] at hq
      rw [hq]
    next b hb =>
      have hlow := ih hb
      split at h
      next hlt =>
        cases h
        rcases List.mem_cons.1 hq with rfl | hq
        · omega
        · exact hlow q hq
      next hge =>
        cases h
        rcases List.mem_cons.1 hq with rfl | hq
        · omega
        · have := hlow q hq
          omega

/-- The transaction that a request belongs to is one. -/
theorem State.requestOf_unique {s : State} {r : DReq} {x y : Fin 16} (hx : s.requestOf x r = true) (hy : s.requestOf y r = true) :
    x = y := by
  rw [State.requestOf_iff] at hx hy
  rcases hx with ⟨b, j, howner, hj, hjx, -⟩ | hx <;> rcases hy with ⟨c, k, howner', hk, hky, -⟩ | hy
  · obtain rfl : b = c := Owner.job.inj (howner.symm.trans howner')
    obtain rfl : j = k := Option.some.inj (hj.symm.trans hk)
    exact hjx.symm.trans hky
  · cases howner.symm.trans hy
  · cases howner'.symm.trans hx
  · exact Owner.flush.inj (hx.symm.trans hy)

/-- The page write of an abandoned job belongs to no transaction. -/
theorem State.requestOf_of_orphan {s : State} {r : DReq} (h : s.isOrphanWrite r = true) (x : Fin 16) : s.requestOf x r = false := by
  obtain ⟨p, b, j, -, howner, hj, habandoned⟩ := (s.isOrphanWrite_iff r).1 h
  refine Bool.eq_false_iff.2 fun hof => ?_
  rcases (s.requestOf_iff x r).1 hof with ⟨c, k, howner', hk, -, hkept⟩ | hflush
  · obtain rfl : b = c := Owner.job.inj (howner.symm.trans howner')
    obtain rfl : j = k := Option.some.inj (hj.symm.trans hk)
    rw [habandoned] at hkept
    cases hkept
  · cases howner.symm.trans hflush

theorem State.requestOf_of_sweep {s : State} {r : DReq} (h : r.owner = .sweep) (x : Fin 16) : s.requestOf x r = false := by
  refine Bool.eq_false_iff.2 fun hof => ?_
  rcases (s.requestOf_iff x r).1 hof with ⟨c, k, howner, -⟩ | hflush
  · cases h.symm.trans howner
  · cases h.symm.trans hflush

/-- The three ranks of the arbiter's choice (R67, R68). -/
theorem State.chosenRequest_rank {s : State} {r : DReq} (h : s.chosenRequest = some r) :
    s.dli.requests.find? s.isOrphanWrite = some r ∨
    ((∀ q ∈ s.dli.requests, s.isOrphanWrite q = false) ∧ s.oldestRequest = some r) ∨
    ((∀ q ∈ s.dli.requests, s.isOrphanWrite q = false ∧ ∀ x ∈ s.txns, s.requestOf x.tag q = false) ∧
      (∀ x ∈ s.txns, x.volume ≠ .user) ∧ r.owner = .sweep) := by
  unfold State.chosenRequest at h
  split at h
  · cases h
  · split at h
    next q hq => cases h; exact .inl hq
    next hnone =>
      have horphans : ∀ q ∈ s.dli.requests, s.isOrphanWrite q = false := by simpa using List.find?_eq_none.1 hnone
      split at h
      next q hq => cases h; exact .inr (.inl ⟨horphans, hq⟩)
      next hnone' =>
        have hothers : ∀ q ∈ s.dli.requests, ∀ x ∈ s.txns, s.requestOf x.tag q = false := by
          intro q hq x hx
          have hempty := lowestRequest_eq_none (List.findSome?_eq_none_iff.1 hnone' x hx)
          rw [List.filter_eq_nil_iff] at hempty
          simpa using hempty q hq
        unfold State.discardRequest at h
        split at h
        · cases h
        next hany =>
          have howner := List.find?_some h
          exact .inr (.inr ⟨fun q hq => ⟨horphans q hq, hothers q hq⟩, by simpa using hany, by simpa using howner⟩)

/-- The oldest transaction's request for its lowest unit (R67). -/
theorem State.oldestRequest_spec {s : State} {r : DReq} (h : s.oldestRequest = some r) : ∃ x ∈ s.txns, s.requestOf x.tag r = true ∧
    (∀ q ∈ s.dli.requests, (∀ y ∈ s.older x.tag, s.requestOf y.tag q = false) ∧
      (s.requestOf x.tag q = true → r.op.page ≤ q.op.page)) := by
  obtain ⟨pre, x, post, htable, hx, hpre⟩ := List.findSome?_eq_some_iff.1 h
  have hmem := List.mem_filter.1 (lowestRequest_mem hx)
  refine ⟨x, by rw [htable]; simp, hmem.2, fun q hq => ⟨fun y hy => ?_, fun hof => ?_⟩⟩
  · have hypre : y ∈ pre := by
      rw [State.older, htable, List.takeWhile_append] at hy
      split at hy
      · rwa [List.takeWhile_cons_of_neg (by simp), List.append_nil] at hy
      · exact (List.takeWhile_sublist _).mem hy
    have hempty := lowestRequest_eq_none (hpre y hypre)
    rw [List.filter_eq_nil_iff] at hempty
    simpa using hempty q hq
  · exact lowestRequest_le hx q (List.mem_filter.2 ⟨hq, hof⟩)

/-- With the media OK and nothing chosen, neither of the first two ranks waits. -/
theorem State.chosenRequest_none {s : State} (hok : s.dli.media = .ok) (h : s.chosenRequest = none) :
    ∀ q ∈ s.dli.requests, s.isOrphanWrite q = false ∧ ∀ x ∈ s.txns, s.requestOf x.tag q = false := by
  unfold State.chosenRequest at h
  rw [if_neg (by simp [hok])] at h
  split at h
  · cases h
  next hnone =>
    split at h
    · cases h
    next hnone' =>
      refine fun q hq => ⟨by simpa using List.find?_eq_none.1 hnone q hq, fun x hx => ?_⟩
      have hempty := lowestRequest_eq_none (List.findSome?_eq_none_iff.1 hnone' x hx)
      rw [List.filter_eq_nil_iff] at hempty
      simpa using hempty q hq

/-! ## The choices of one event -/

/-- The slots filled from `u` to `t` hold the arbiter's choices, each made with the requests that then waited. -/
structure IssuedFrom (u t : State) : Prop where
  ranks : RanksKept u t
  requests : t.dli.requests.Sublist u.dli.requests
  slots : ∃ l, t.dli.slots = u.dli.slots ++ l ∧ ∀ z ∈ l, ∃ v : State, RanksKept v t ∧ v.dli.requests.Sublist u.dli.requests ∧
    t.dli.requests.Sublist v.dli.requests ∧ v.chosenRequest = some { op := z.op, owner := z.owner }

theorem IssuedFrom.refl (s : State) : IssuedFrom s s := ⟨.refl s, List.Sublist.refl _, [], by simp, by simp⟩

theorem IssuedFrom.issue {d : Fin 4} {r : DReq} {s t : State} (hr : s.chosenRequest = some r)
    (h : IssuedFrom (issue d r s) t) : IssuedFrom s t := by
  obtain ⟨hrequests, hslots, -, -⟩ := issue_dli d r s
  have hranks := (RanksKept.issue d r s).trans h.ranks
  have hsub : (Machine.issue d r s).dli.requests.Sublist s.dli.requests := hrequests ▸ List.erase_sublist
  obtain ⟨l, hl, hchosen⟩ := h.slots
  refine ⟨hranks, h.requests.trans hsub, _ :: l, by rw [hl, hslots, List.append_assoc]; rfl, fun z hz => ?_⟩
  rcases List.mem_cons.1 hz with rfl | hz
  · exact ⟨s, hranks, List.Sublist.refl _, h.requests.trans hsub, hr⟩
  · obtain ⟨v, hv, hvu, hvt, hvr⟩ := hchosen z hz
    exact ⟨v, hv, hvu.trans hsub, hvt, hvr⟩

theorem IssuedFrom.issueAll (n : Nat) (s : State) : IssuedFrom s (issueAll n s) := by
  induction n generalizing s with
  | zero => exact .refl s
  | succ n ih =>
    unfold Machine.issueAll
    split
    next d r _ hr => exact .issue hr (ih _)
    · exact .refl s

/-- How many dtags are free (R65). -/
def State.freeDtags (s : State) : Nat := (List.finRange 4).countP (fun d => !s.dli.slots.any (fun z => z.dtag == d))

theorem issue_freeDtags {d : Fin 4} {s : State} (hd : s.freeSlot = some d) (r : DReq) : (issue d r s).freeDtags < s.freeDtags := by
  have hfree := State.freeSlot_spec hd
  obtain ⟨-, hslots, -, -⟩ := issue_dli d r s
  have himp : ∀ c : Fin 4, (!(issue d r s).dli.slots.any (fun z => z.dtag == c)) = true →
      (!s.dli.slots.any (fun z => z.dtag == c)) = true := by
    intro c hc
    simp only [hslots, List.any_append, Bool.not_or, Bool.and_eq_true] at hc
    exact hc.1
  rw [State.freeDtags, State.freeDtags, List.countP_eq_length_filter, List.countP_eq_length_filter]
  refine lt_of_le_of_ne (List.Sublist.length_le (List.monotone_filter_right _ fun c => himp c)) fun heq => ?_
  have hsame := (List.monotone_filter_right (List.finRange 4) fun c => himp c).eq_of_length heq
  have hmem : d ∈ (List.finRange 4).filter (fun d => !s.dli.slots.any (fun z => z.dtag == d)) :=
    List.mem_filter.2 ⟨List.mem_finRange d, by simpa using hfree⟩
  rw [← hsame, List.mem_filter] at hmem
  simp [hslots] at hmem

/-- Operations are issued while a slot is free and one is chosen. -/
theorem issueAll_exhausts {n : Nat} {s : State} (hn : s.freeDtags ≤ n) :
    (issueAll n s).freeSlot = none ∨ (issueAll n s).chosenRequest = none := by
  induction n generalizing s with
  | zero =>
    refine .inl (List.find?_eq_none.2 fun d hd hfree => ?_)
    have hnone := List.countP_eq_zero.1 (Nat.le_zero.1 hn) d hd
    exact hnone hfree
  | succ n ih =>
    unfold issueAll
    split
    next d r hd hr => exact ih (by have := issue_freeDtags hd r; omega)
    next hnone =>
      by_cases hd : s.freeSlot = none
      · exact .inl hd
      · obtain ⟨d, hd⟩ := Option.ne_none_iff_exists'.1 hd
        refine .inr ?_
        cases hr : s.chosenRequest with
        | none => rfl
        | some r => exact absurd hr (hnone d r hd)

theorem State.freeDtags_le (s : State) : s.freeDtags ≤ 4 := by
  have h := List.countP_le_length (p := fun d : Fin 4 => !s.dli.slots.any (fun z => z.dtag == d)) (l := List.finRange 4)
  simpa [State.freeDtags] using h

/-- From `s` to `t` only page reads and DISCARDs are asked for, and nothing is issued. -/
def AsksReads (s t : State) : Prop :=
  t.dli.slots = s.dli.slots ∧ t.dli.media = s.dli.media ∧
  ∃ l, t.dli.requests = s.dli.requests ++ l ∧ ∀ r ∈ l, ∀ p, r.op ≠ .pageWrite p

theorem AsksReads.refl (s : State) : AsksReads s s := ⟨rfl, rfl, [], by simp, by simp⟩

theorem AsksReads.trans {s t u : State} (h1 : AsksReads s t) (h2 : AsksReads t u) : AsksReads s u := by
  obtain ⟨hslots, hmedia, l, hl, hreads⟩ := h1
  obtain ⟨hslots', hmedia', l', hl', hreads'⟩ := h2
  refine ⟨hslots'.trans hslots, hmedia'.trans hmedia, l ++ l', by rw [hl', hl, List.append_assoc], fun r hr => ?_⟩
  exact (List.mem_append.1 hr).elim (hreads r) (hreads' r)

theorem AsksReads.of_dli {s t : State} (h : t.dli = s.dli) : AsksReads s t := ⟨by rw [h], by rw [h], [], by simp [h], by simp⟩

theorem AsksReads.makeRequest {op : DOp} {o : Owner} {s t : State} (hdli : t.dli = (makeRequest op o s).dli)
    (hop : ∀ p, op ≠ .pageWrite p) : AsksReads s t := by
  unfold AsksReads
  rw [hdli, makeRequest_dli]
  split
  · exact ⟨rfl, rfl, [{ op := op, owner := o }], rfl, by simpa using hop⟩
  · exact ⟨rfl, rfl, [], by simp, by simp⟩

theorem AsksReads.startJob (b : Fin 8) (x : Txn) (u : Nat) (s : State) : AsksReads s (startJob b x u s) := by
  have hdli := startJob_dli b x u s
  by_cases hfull : splitKind x.kind x.first x.m u = .writeFull
  · rw [if_pos hfull] at hdli
    exact .of_dli hdli
  · rw [if_neg hfull] at hdli
    exact .makeRequest hdli (by simp)

theorem AsksReads.allocate (n : Nat) (s : State) : AsksReads s (allocate n s) := by
  induction n generalizing s with
  | zero => exact .refl s
  | succ n ih =>
    unfold Machine.allocate
    split
    next b x _ _ => exact (AsksReads.startJob b x _ s).trans (ih _)
    · exact .refl s

theorem AsksReads.releaseHold (s : State) : AsksReads s (releaseHold s) := by
  unfold Machine.releaseHold
  split
  · unfold makeDue
    split
    · exact .refl s
    · split
      · exact .of_dli rfl
      · split
        · split
          · exact .makeRequest (makeRequest_dli_congr rfl) (by simp)
          · exact .of_dli (by simp [requestCursor])
        · exact .of_dli rfl
  · exact .refl s

/-- The state in which operations are issued in the closure of an event. -/
def beforeIssue (s : State) : State := releaseHold (dataWaits (allocate 8 s))

theorem asksReads_beforeIssue (s : State) : AsksReads s (beforeIssue s) :=
  (AsksReads.allocate 8 s).trans ((AsksReads.of_dli rfl).trans (.releaseHold _))

theorem State.isOrphanWrite_op {s : State} {r : DReq} (h : s.isOrphanWrite r = true) : ∃ p, r.op = .pageWrite p := by
  obtain ⟨p, b, j, hop, -⟩ := (s.isOrphanWrite_iff r).1 h
  exact ⟨p, hop⟩

/-- Of the page writes of abandoned jobs the first made is the first of any later list. -/
theorem orphan_first {l m : List DReq} {f : DReq → Bool} {r : DReq} (hnodup : l.Nodup) (hsub : (m.filter f).Sublist l)
    (hr : m.find? f = some r) {pre post : List DReq} (hl : l = pre ++ r :: post) (hpre : r ∉ pre) {q : DReq} (hq : q ∈ pre)
    (hqm : q ∈ m) : f q = false := by
  by_contra hne
  have hfq : f q = true := by simpa using hne
  have hhead : ∃ rest, m.filter f = r :: rest := by
    have hh : (m.filter f).head? = some r := by rw [List.head?_filter]; exact hr
    cases hm : m.filter f with
    | nil => simp [hm] at hh
    | cons a rest =>
      rw [hm, List.head?_cons, Option.some.injEq] at hh
      exact ⟨rest, by rw [hh]⟩
  obtain ⟨rest, hrest⟩ := hhead
  have hqrest : q ∈ r :: rest := hrest ▸ List.mem_filter.2 ⟨hqm, hfq⟩
  have hne' : q ≠ r := fun heq => hpre (heq ▸ hq)
  have hqrest : q ∈ rest := (List.mem_cons.1 hqrest).resolve_left hne'
  rw [hrest, hl] at hsub
  have hpost : rest.Sublist post := by
    have hafter : ∀ p : List DReq, r ∉ p → (r :: rest).Sublist (p ++ r :: post) → (r :: rest).Sublist (r :: post) := by
      intro p
      induction p with
      | nil => exact fun _ h => h
      | cons a p ih =>
        intro hmem h
        rw [List.cons_append] at h
        cases h with
        | cons _ h => exact ih (fun hin => hmem (List.mem_cons_of_mem _ hin)) h
        | cons_cons _ h => exact absurd List.mem_cons_self hmem
    exact List.cons_sublist_cons.1 (hafter pre hpre hsub)
  rw [hl] at hnodup
  exact (List.disjoint_of_nodup_append hnodup) hq (List.mem_cons_of_mem _ (hpost.mem hqrest))

/-- What follows an event issues the arbiter's choices (R67, R68). -/
theorem settle_issuedInOrder {s u : State} (hnodup : s.dli.requests.Nodup) (hrequests : u.dli.requests.Sublist s.dli.requests)
    (hslots : ∀ z ∈ u.dli.slots, z ∈ s.dli.slots) : s.IssuedInOrder (settle u) := by
  obtain ⟨w, hw⟩ : ∃ w, w = beforeIssue u := ⟨_, rfl⟩
  obtain ⟨hwslots, hwmedia, extra, hwrequests, hextra⟩ := hw ▸ asksReads_beforeIssue u
  have hsettle : settle u = judge (grant (cipherTake (issueAll 4 w))) := by rw [hw]; rfl
  obtain ⟨hranks, hsub, l, hl, hchosen⟩ := IssuedFrom.issueAll 4 w
  have hafter := ranksKept_afterIssue (issueAll 4 w)
  rw [← hsettle] at hafter
  have hdli : (settle u).dli = (issueAll 4 w).dli := by rw [hsettle]; simp
  refine ⟨fun z hz hnew r hr => ?_, fun hok ⟨d, hd⟩ q hq => ?_⟩
  · have hzl : z ∈ l := by
      rw [hdli, hl, List.mem_append, hwslots] at hz
      exact hz.resolve_left fun hz => hnew (hslots z hz)
    obtain ⟨v, hv, hvw, hvt, hvr⟩ := hchosen z hzl
    have hkept := hv.trans hafter
    rw [← hr] at hvr
    rw [hkept.isOrphanWrite, hkept.requestOf, hdli]
    have hin : ∀ q ∈ (issueAll 4 w).dli.requests, q ∈ v.dli.requests := fun q hq => hvt.mem hq
    refine ⟨fun horphan pre post hsplit hpre q hq hqt => ?_, fun hnot q hq => ?_, fun x hx hof q hq => ?_, fun hsweep => ?_⟩
    · have hfound : v.dli.requests.find? v.isOrphanWrite = some r := by
        rcases v.chosenRequest_rank hvr with h | ⟨hnone, -⟩ | ⟨hnone, -⟩
        · exact h
        · rw [hnone r (State.chosenRequest_mem hvr)] at horphan
          cases horphan
        · rw [(hnone r (State.chosenRequest_mem hvr)).1] at horphan
          cases horphan
      refine orphan_first hnodup ?_ hfound hsplit hpre hq (hin q hqt)
      have hfiltered : (v.dli.requests.filter v.isOrphanWrite).Sublist ((u.dli.requests ++ extra).filter v.isOrphanWrite) :=
        (hwrequests ▸ hvw).filter _
      have hextra' : extra.filter v.isOrphanWrite = [] := by
        rw [List.filter_eq_nil_iff]
        intro q hq horphan
        obtain ⟨p, hp⟩ := State.isOrphanWrite_op horphan
        exact hextra q hq p hp
      rw [List.filter_append, hextra', List.append_nil] at hfiltered
      exact hfiltered.trans (List.filter_sublist.trans hrequests)
    · rcases v.chosenRequest_rank hvr with h | ⟨hnone, -⟩ | ⟨hnone, -⟩
      · rw [List.find?_some h] at hnot
        cases hnot
      · exact hnone q (hin q hq)
      · exact (hnone q (hin q hq)).1
    · rw [hkept.older]
      rcases v.chosenRequest_rank hvr with h | ⟨-, hold⟩ | ⟨-, -, hsweep⟩
      · rw [State.requestOf_of_orphan (List.find?_some h)] at hof
        cases hof
      · obtain ⟨y, -, hyr, hothers⟩ := State.oldestRequest_spec hold
        rw [State.requestOf_unique hof hyr]
        exact hothers q (hin q hq)
      · rw [State.requestOf_of_sweep hsweep] at hof
        cases hof
    · have howner : r.owner = .sweep := by rw [hr]; exact hsweep
      rw [hkept.1]
      rcases v.chosenRequest_rank hvr with h | ⟨-, hold⟩ | ⟨hnone, huser, -⟩
      · obtain ⟨-, b, -, -, hjob, -⟩ := (v.isOrphanWrite_iff r).1 (List.find?_some h)
        cases howner.symm.trans hjob
      · obtain ⟨y, -, hyr, -⟩ := State.oldestRequest_spec hold
        rw [State.requestOf_of_sweep howner] at hyr
        cases hyr
      · exact ⟨huser, fun q hq => (hnone q (hin q hq)).2⟩
  · rw [hdli] at hok hd hq
    rw [hafter.isOrphanWrite, hafter.requestOf, hafter.1]
    refine State.chosenRequest_none hok ?_ q hq
    rcases issueAll_exhausts w.freeDtags_le with hnone | hnone
    · exact absurd (List.find?_eq_none.1 hnone d (List.mem_finRange d)) (by simpa using hd)
    · exact hnone

/-- An operation of no owner is never chosen (R67, R68). -/
theorem State.chosenRequest_owner {s : State} {r : DReq} (h : s.chosenRequest = some r) : r.owner ≠ .nobody := by
  rcases s.chosenRequest_rank h with hr | ⟨-, hr⟩ | ⟨-, -, hr⟩
  · obtain ⟨-, b, -, -, howner, -⟩ := (s.isOrphanWrite_iff r).1 (List.find?_some hr)
    simp [howner]
  · obtain ⟨x, -, hof, -⟩ := State.oldestRequest_spec hr
    rcases (s.requestOf_iff x.tag r).1 hof with ⟨b, -, howner, -⟩ | howner <;> simp [howner]
  · simp [hr]

/-- A slot filled in what follows an event has an owner. -/
theorem settle_slots_owned (u : State) : ∃ l, (settle u).dli.slots = u.dli.slots ++ l ∧ ∀ z ∈ l, z.owner ≠ .nobody := by
  obtain ⟨hslots, -⟩ := asksReads_beforeIssue u
  obtain ⟨-, -, l, hl, hchosen⟩ := IssuedFrom.issueAll 4 (beforeIssue u)
  have hdli : (settle u).dli = (issueAll 4 (beforeIssue u)).dli := by
    have hsettle : settle u = judge (grant (cipherTake (issueAll 4 (beforeIssue u)))) := rfl
    rw [hsettle]
    simp
  refine ⟨l, by rw [hdli, hl, hslots], fun z hz => ?_⟩
  obtain ⟨v, -, -, -, hv⟩ := hchosen z hz
  exact State.chosenRequest_owner hv

/-! ## SYNC_COMPLETION (R76) -/

theorem exec_sync {s : State} {d : Byte} {o : Owner} (hrun : s.power = .running) (hslot : s.InSlot d .sync o) (status : Byte)
    (rest : List Byte) : exec (.syncCompletion d status rest) s = .next (settle
      (ownerTakes .sync o (completionOk .sync 4 status rest) false rest (s.lessSlot d))) :=
  exec_completion_slot hrun hslot status rest

/-- The end of a SYNC asks for nothing, issues nothing and sends nothing. -/
theorem syncEnd_link (f : Fin 16) (ok : Bool) (s : State) : (syncEnd f ok s).dli.requests.Sublist s.dli.requests ∧
    (syncEnd f ok s).dli.slots = s.dli.slots ∧ (syncEnd f ok s).dli.sent = s.dli.sent := by
  have hfailed : (failTxn f .mediaFault s).dli.sent = s.dli.sent := by
    rcases failTxn_cases f .mediaFault s with ⟨x, hx, hactive, hfresh⟩ | hsame
    · rw [failTxn_dli hx hactive hfresh]
      split
      · rfl
      · split <;> rfl
    · rw [hsame]
  refine ⟨?_, syncEnd_slots f ok s, ?_⟩
  · unfold syncEnd
    split
    · exact List.Sublist.refl _
    · split
      · split
        · simp [setDone]
        · exact (failTxn_lists f .mediaFault s).1
      · simp
      · exact List.Sublist.refl _
  · unfold syncEnd
    split
    · rfl
    · split
      · split
        · simp [setDone]
        · exact hfailed
      · simp
      · rfl

/-- A SYNC that has failed leaves the count asked for. -/
theorem settle_syncFailed_residue {f : Fin 16} {s : State} {x y : Txn} (hx : s.txn? f = some x) (hactive : x.phase = .active)
    (hfresh : x.failure = none) (hrequested : x.requested = none) (hy : (settle (syncEnd f false s)).txn? f = some y) :
    y.residue = 0 := by
  have hend : syncEnd f false s = failTxn f .mediaFault s := by simp [syncEnd, hx, hactive]
  obtain ⟨w, hw, hwx⟩ := settle_txn?_some (failTxn_txn? hx hactive hfresh .mediaFault)
  rw [hend, hw, Option.some.injEq] at hy
  obtain ⟨-, -, -, -, hreq, -⟩ := Txn.fields_of_fixedPart hwx
  rw [Txn.residue, ← hy, hreq.trans hrequested]
  simp

/-- A confirmed SYNC completes its FLUSH GOOD (R76). -/
theorem settle_syncDone {f : Fin 16} {s : State} {x : Txn} (hx : s.txn? f = some x) (hactive : x.phase = .active)
    (hfresh : x.failure = none) (hrequested : x.requested = none) (htransfer : x.transfer = none) :
    s.OthersKept (settle (syncEnd f true s)) f ∧ ∃ y, (settle (syncEnd f true s)).txn? f = some y ∧ y.phase = .done ∧
      y.outcome = some .good ∧ y.residue = 0 := by
  have hend : syncEnd f true s = setDone f s := by simp [syncEnd, hx, hactive]
  rw [hend]
  refine ⟨(State.OthersKept.of_updTxn (f := fun x => { x with phase := .done, outcome := some x.finalOutcome }) rfl).settle, ?_⟩
  obtain ⟨y, hy, hyx⟩ := settle_txn?_some (setDone_txn? hx)
  obtain ⟨-, -, -, -, hreq, -, -, -, hphase, -, houtcome⟩ := Txn.fields_of_fixedPart hyx
  refine ⟨y, hy, hphase, houtcome.trans ?_, ?_⟩
  · simp [Txn.finalOutcome, hfresh, hrequested, htransfer]
  · rw [Txn.residue, hreq.trans hrequested]
    simp

/-- The SYNC of a FLUSH by its result and phase, and one of no owner; what is issued after it. -/
theorem syncCompletion_spec : Obligations.SyncCompletion := by
  refine ⟨fun s d f x hrun hnodup hslot hx _ hrequested htransfer => ⟨fun status rest => ?_, fun hactive hfresh => ?_,
    fun status rest hstatus hactive hfresh => ?_, fun status rest g hdraining hg => ?_⟩, fun s d hrun hslot status rest => ?_⟩
  · obtain ⟨hrequests, hslots, hsent⟩ := syncEnd_link f (completionOk .sync 4 status rest) (s.lessSlot d)
    have hframes := settle_framesSent (s := s) hsent
    rw [hslots] at hframes
    exact ⟨_, exec_sync hrun hslot status rest, settle_issuedInOrder (u := syncEnd f _ (s.lessSlot d)) hnodup hrequests
      (fun z hz => (List.mem_filter.1 (hslots ▸ hz)).1), hframes⟩
  · have hexec := exec_sync hrun hslot 0 []
    obtain ⟨hothers, y, hy, hphase, houtcome, hresidue⟩ := settle_syncDone (s := s.lessSlot d) hx hactive hfresh hrequested htransfer
    rw [show completionOk .sync 4 0 [] = true from rfl] at hexec
    exact ⟨_, y, hexec, hy, hphase, houtcome, hresidue, (State.OthersKept.of_same (t := s.lessSlot d) rfl f).trans hothers⟩
  · have hexec := exec_sync hrun hslot status rest
    rw [completionOk_of_status hstatus] at hexec
    obtain ⟨y, hy, hfailure, hmoves⟩ := settle_syncFailed_active (s := s.lessSlot d) hx hactive hfresh
    exact ⟨_, y, hexec, hy, hfailure, hmoves.not_active,
      settle_syncFailed_residue (s := s.lessSlot d) hx hactive hfresh hrequested hy, hmoves⟩
  · obtain ⟨y, hy, hfailure, hmoves⟩ := settle_syncEnd_draining (s := s.lessSlot d) hx hdraining hg (completionOk .sync 4 status rest)
    exact ⟨_, y, exec_sync hrun hslot status rest, hy, hfailure, hmoves⟩
  · refine ⟨_, exec_sync hrun hslot status rest, settle_fixedPart _, settle_slot _, settle_refusals _, settle_intakes _, settle_mem _,
      fun z hz hdtag => ?_, fun hnodup => settle_issuedInOrder (u := s.lessSlot d) hnodup (List.Sublist.refl _)
        fun z hz => (List.mem_filter.1 hz).1⟩
    obtain ⟨l, hl, howned⟩ := settle_slots_owned (s.lessSlot d)
    have hz : z ∈ (s.lessSlot d).dli.slots ++ l := hl ▸ hz
    rcases List.mem_append.1 hz with hz | hz
    · have hne := (List.mem_filter.1 hz).2
      simp [hdtag] at hne
    · exact howned z hz

end Sys2Proof.Machine

namespace Sys2Proof

/-- Settles O40. -/
theorem syncCompletion : Obligations.SyncCompletion := Machine.syncCompletion_spec

end Sys2Proof


/-! PROOF. CIPHER_COMPLETION (R12, R48, R49, R50, R57, R58) and WRITE_DATA (R31, R49, R51). -/

namespace Sys2Proof.Machine

open Sys2Proof

/-! ## The unit replaced by its image (R12, R58) -/

theorem ofFn_getD {n : Nat} (u : Fin n → Byte) (i : Fin n) : (List.ofFn u).getD i.val 0 = u i := by
  simp [List.getD_eq_getElem?_getD]

theorem putUnit_mem (b : Fin 8) (u : Fin 4096 → Byte) (s : State) :
    (∀ i : Fin 4096, Memory.read (putUnit b u s).ubp.mem (4096 * b.val + i.val) = u i) ∧
    ∀ a, (a < 4096 * b.val ∨ 4096 * b.val + 4096 ≤ a) → Memory.read (putUnit b u s).ubp.mem a = Memory.read s.ubp.mem a := by
  have hread := placePage_mem (b := b) (page := List.ofFn u) List.length_ofFn s
  refine ⟨fun i => ?_, fun a ha => ?_⟩
  · have hi := i.isLt
    rw [putUnit, hread, if_pos ⟨by omega, by omega⟩, Nat.add_sub_cancel_left]
    exact ofFn_getD u i
  · rw [putUnit, hread, if_neg (by omega)]

/-- The image of the unit in the buffer of `j` under the key `k` (R12, R58). -/
def State.imageOf (s : State) (k : Key) (j : Job) : Fin 4096 → Byte :=
  (if j.state = .decrypting then (Config.cipher k (BitVec.ofNat 64 j.unit)).symm
    else Config.cipher k (BitVec.ofNat 64 j.unit)) (bufferUnit j.buf s)

/-- The state that a job takes when the CE has finished its unit (R48, R49, R50). -/
def Job.ciphered (j : Job) : JobState :=
  if j.state = .decrypting then if j.kind = .read then .deliverWait else .dataQueue else .mediaWrite

/-- The finish of the CE: the unit's image in its buffer, and the job moved on (R58). -/
theorem cipherEnd_spec {s : State} {j : Job} {k : Key} (hj : s.ubp.jobs.find? (fun j => j.ciphering) = some j)
    (hk : s.ce.key = some k) :
    (cipherEnd s).ubp.mem = (putUnit j.buf (s.imageOf k j) s).ubp.mem ∧ (cipherEnd s).dli.sent = s.dli.sent ∧
    (∃ f : Job → PageOp, (cipherEnd s).ubp.jobs =
      s.ubp.jobs.map (fun i => if i.buf = j.buf then { i with state := j.ciphered, pageOp := f i } else i)) ∧
    (j.state = .encrypting → s.dli.media = .ok → j.unit < s.dli.usable.getD 0 →
      (cipherEnd s).Asked (.pageWrite j.unit) (.job j.buf)) := by
  have hciphering := List.find?_some hj
  simp only [Job.ciphering, Bool.or_eq_true, beq_iff_eq] at hciphering
  have hend : cipherEnd s = if j.state = .decrypting
      then updJob j.buf (fun y => { y with state := j.ciphered }) (putUnit j.buf (s.imageOf k j) s)
      else requestWrite j.buf j.unit (updJob j.buf (fun y => { y with state := j.ciphered }) (putUnit j.buf (s.imageOf k j) s)) := by
    unfold cipherEnd
    rw [hj, hk]
    dsimp only
    rcases hciphering with hstate | hstate
    · cases hkind : j.kind <;> simp only [hstate, Job.ciphered, State.imageOf, if_true, hkind, reduceCtorEq, if_false]
    · simp only [hstate, Job.ciphered, State.imageOf, reduceCtorEq, if_false]
  rw [hend]
  obtain ⟨u, hu⟩ : ∃ u, u = putUnit j.buf (s.imageOf k j) s := ⟨_, rfl⟩
  have hsent : u.dli = s.dli := by rw [hu, (putUnit_frame _ _ _).2.2.2.2.2.1]
  have hjobs : u.ubp.jobs = s.ubp.jobs := by rw [hu, putUnit_jobs]
  rw [← hu]
  clear hu hend
  split
  next hstate =>
    refine ⟨rfl, congrArg Dli.sent hsent, ⟨Job.pageOp, ?_⟩, fun h => by simp [h] at hstate⟩
    rw [updJob_jobs, hjobs]
  next hstate =>
    refine ⟨?_, ?_, ⟨fun _ => .requested, ?_⟩, fun _ hok hu => ?_⟩
    · simp [requestWrite, updJob]
    · rw [requestWrite, makeRequest_dli]
      split <;> simp [hsent]
    · rw [requestWrite, (makeRequest_frame _ _ _).2.2.2.2.1, updJob_jobs, updJob_jobs, hjobs, List.map_map]
      refine List.map_congr_left fun i _ => ?_
      by_cases hi : i.buf = j.buf <;> simp [hi]
    · refine .inl ⟨{ op := .pageWrite j.unit, owner := .job j.buf }, ?_, rfl, rfl⟩
      rw [requestWrite, makeRequest_dli, if_pos (by simp [State.admissible, hsent, hok, hu])]
      simp

theorem exec_cipherCompletion {s : State} (hrun : s.power = .running) :
    exec .cipherCompletion s = .next (settle (cipherEnd s)) := by
  show Machine.execCipherCompletion s = _
  simp [Machine.execCipherCompletion, State.whenRunning, hrun]

/-- The job that the CE has finished waits for its delivery, its data or its page write. -/
theorem Job.ciphered_cases (j : Job) : (j.state = .decrypting ∧ j.kind = .read ∧ j.ciphered = .deliverWait) ∨
    (j.state = .decrypting ∧ j.kind ≠ .read ∧ j.ciphered = .dataQueue) ∨ (j.state ≠ .decrypting ∧ j.ciphered = .mediaWrite) := by
  unfold Job.ciphered
  split
  next hstate =>
    split
    next hkind => exact .inl ⟨hstate, hkind, rfl⟩
    next hkind => exact .inr (.inl ⟨hstate, hkind, rfl⟩)
  next hstate => exact .inr (.inr ⟨hstate, rfl⟩)

/-- The finish of the CE starts no delivery, no data wait and no work of the CE. -/
theorem cipherEnd_starts_nothing {s u : State} {j : Job} {f : Job → PageOp} (hjobs : u.ubp.jobs =
    s.ubp.jobs.map (fun i => if i.buf = j.buf then { i with state := j.ciphered, pageOp := f i } else i)) :
    CiphersFrom s u ∧ WaitsFrom s u ∧ DeliversFrom s u := by
  have hstates : j.ciphered ≠ .delivering ∧ j.ciphered ≠ .dataWait ∧ j.ciphered ≠ .decrypting ∧ j.ciphered ≠ .encrypting := by
    rcases j.ciphered_cases with ⟨-, -, h⟩ | ⟨-, -, h⟩ | ⟨-, h⟩ <;> simp [h]
  obtain ⟨hdelivering, hwait, hdecrypting, hencrypting⟩ := hstates
  refine ⟨.of_map hjobs fun i _ => ?_, fun k hk hstate => ?_, .of_map hjobs fun i => ?_⟩
  · by_cases hi : i.buf = j.buf <;> simp [hi, Job.ciphering, hdecrypting, hencrypting]
  · obtain ⟨i, hi, rfl⟩ := List.mem_map.1 (hjobs ▸ hk)
    by_cases hbuf : i.buf = j.buf
    · simp [hbuf, hwait] at hstate
    · rw [if_neg hbuf] at hstate ⊢
      exact ⟨i, hi, rfl, hstate⟩
  · by_cases hi : i.buf = j.buf <;> simp [hi, hdelivering]

/-- The unit replaced by its image, its job moved on, and what the CE, the intakes, the ULI and the DLI take next. -/
theorem cipherCompletion_spec : Obligations.CipherCompletion := by
  intro s j k hrun hbufs hfind hkey
  obtain ⟨hmem, hsent, ⟨f, hjobs⟩, hasked⟩ := cipherEnd_spec hfind hkey
  have hciphering := List.find?_some hfind
  simp only [Job.ciphering, Bool.or_eq_true, beq_iff_eq] at hciphering
  have hub : (cipherEnd s).BuffersOk := (JobsFrom.cipherEnd s).buffers hbufs
  have hexec := exec_cipherCompletion hrun
  have hslots := cipherEnd_slots s
  obtain ⟨u, hu⟩ : ∃ u, u = cipherEnd s := ⟨_, rfl⟩
  rw [← hu] at hmem hsent hjobs hasked hub hexec hslots
  obtain ⟨hce, hwaits, hdelivers⟩ := cipherEnd_starts_nothing hjobs
  have hj : u.job? j.buf = some { j with state := j.ciphered, pageOp := f j } :=
    State.job?_of_mem hub (j := { j with state := j.ciphered, pageOp := f j })
      (by rw [hjobs]; exact List.mem_map.2 ⟨j, List.mem_of_find?_eq_some hfind, if_pos rfl⟩)
  obtain ⟨j', hj', hgoes⟩ := (settle_follows u).job? hj
  obtain ⟨hbuf, howner, hunit, -⟩ := hgoes.fields
  have hstate : j.ciphered.Leads j'.state := hgoes.state hub
  obtain ⟨himage, hother⟩ := putUnit_mem j.buf (s.imageOf k j) s
  have hframes := settle_framesSent (s := s) hsent
  rw [hslots] at hframes
  refine ⟨_, j', hexec, fun i => ?_, fun a ha => ?_, hj', hunit, howner, (settle_cipherInOrder hub).before hce,
    (settle_waitsInOrder hub).before hwaits, (settle_deliversLowest hub).before hdelivers, hframes, ?_, ?_, ?_⟩
  · rw [settle_mem, hmem]
    exact himage i
  · rw [settle_mem, hmem]
    exact hother a ha
  · intro hdecrypting hkind
    simpa [JobState.Leads, Job.ciphered, hdecrypting, hkind] using hstate
  · intro hdecrypting hkind
    simpa [JobState.Leads, Job.ciphered, hdecrypting, hkind] using hstate
  · intro hencrypting
    exact ⟨by simpa [JobState.Leads, Job.ciphered, hencrypting] using hstate,
      fun hok hu => settle_asked (hasked hencrypting hok hu)⟩

/-! ## WRITE_DATA (R31, R49, R51) -/

theorem exec_writeData {s : State} (hrun : s.power = .running) (tag : Byte) (sector : List Byte) :
    exec (.writeData tag sector) s = .next (settle (takeWriteData tag sector s)) := by
  show Machine.execWriteData tag sector s = _
  simp [Machine.execWriteData, hrun]

theorem takeWriteData_open {s : State} {tag : Byte} {sector : List Byte} {i : Intake} {j : Job} (htag : tag.toNat ≤ 15)
    (hlength : sector.length = 512) (hi : s.intake? (tagOf tag) = some i) (hj : s.waitingJob (tagOf tag) = some j) :
    takeWriteData tag sector s = takeSector i j sector s := by
  rw [takeWriteData, if_neg (by omega), hi, hj]

theorem takeWriteData_dropped {s : State} {tag : Byte} (h : 15 < tag.toNat ∨ s.intake? (tagOf tag) = none)
    (sector : List Byte) : takeWriteData tag sector s = s := by
  unfold takeWriteData
  rcases h with htag | hnone
  · rw [if_pos (.inl htag)]
  · rw [hnone]
    split <;> rfl

theorem takeSector_read {sector : List Byte} (h : sector.length = 512) (i : Intake) (j : Job) (s : State) (a : Nat) :
    Memory.read (takeSector i j sector s).ubp.mem a =
      if sectorAddress j.buf i.next ≤ a ∧ a < sectorAddress j.buf i.next + 512
      then sector.getD (a - sectorAddress j.buf i.next) 0 else Memory.read s.ubp.mem a := by
  have hread := Memory.read_store s.ubp.mem (sectorAddress j.buf i.next) sector a
  rw [h] at hread
  rw [takeSector_mem, placeSector, if_pos h]
  exact hread

theorem placeSector_uli (b n : Fin 8) (sector : List Byte) (s : State) : (placeSector b n sector s).uli = s.uli := by
  simp

/-- The last sector owed closes the intake, and its job waits for the CE (R31, R49). -/
theorem takeSector_last {i : Intake} (h : i.owed ≤ 1) (j : Job) (sector : List Byte) (s : State) :
    (takeSector i j sector s).intake? i.tag = none ∧ (takeSector i j sector s).ubp.jobs =
      s.ubp.jobs.map (fun y => if y.buf = j.buf then { y with state := .encryptWait } else y) := by
  rw [takeSector, if_pos h]
  refine ⟨?_, ?_⟩
  · have hgone : ∀ l : List Intake, (l.filter (fun x => x.tag != i.tag)).find? (fun x => x.tag == i.tag) = none :=
      fun l => List.find?_eq_none.2 fun x hx => by simpa using (List.mem_filter.1 hx).2
    exact hgone _
  · rw [updJob_jobs]
    exact congrArg (List.map _) (placeSector_jobs j.buf i.next sector s)

/-- A sector before the last counts its intake down, and the jobs stay (R31). -/
theorem takeSector_more {i : Intake} (h : 1 < i.owed) {s : State} (hi : s.intake? i.tag = some i) (j : Job)
    (sector : List Byte) : (takeSector i j sector s).intake? i.tag =
      some { i with owed := i.owed - 1, next := i.next + 1, timer := some 50 } ∧
    (takeSector i j sector s).ubp.jobs = s.ubp.jobs := by
  rw [takeSector, if_neg (by omega)]
  refine ⟨?_, placeSector_jobs j.buf i.next sector s⟩
  show List.find? _ ((placeSector j.buf i.next sector s).uli.intakes.map _) = _
  rw [placeSector_uli, List.find?_map]
  have hsame : ((fun x : Intake => x.tag == i.tag) ∘ fun x =>
      if x.tag = i.tag then { x with owed := i.owed - 1, next := i.next + 1, timer := some 50 } else x) =
      fun x => x.tag == i.tag := by
    funext x
    by_cases hx : x.tag = i.tag <;> simp [hx]
  rw [hsame, show List.find? (fun x : Intake => x.tag == i.tag) s.uli.intakes = some i from hi]
  simp

theorem takeSector_waitsFrom (i : Intake) (j : Job) (sector : List Byte) (s : State) (hi : s.intake? i.tag = some i) :
    WaitsFrom s (takeSector i j sector s) := by
  intro k hk hstate
  by_cases howed : i.owed ≤ 1
  · obtain ⟨y, hy, rfl⟩ := List.mem_map.1 ((takeSector_last howed j sector s).2 ▸ hk)
    by_cases hbuf : y.buf = j.buf
    · simp [hbuf] at hstate
    · rw [if_neg hbuf] at hstate ⊢
      exact ⟨y, hy, rfl, hstate⟩
  · rw [(takeSector_more (by omega) hi j sector).2] at hk
    exact ⟨k, hk, rfl, hstate⟩

/-- The job of the last sector owed waits for the CE, or is with it (R49, R57). -/
theorem settle_takeSector_last {s : State} (hb : s.BuffersOk) {i : Intake} (howed : i.owed ≤ 1) {j : Job} (hj : j ∈ s.ubp.jobs)
    (sector : List Byte) : ∃ k, (settle (takeSector i j sector s)).job? j.buf = some k ∧ k.owner = j.owner ∧
      k.unit = j.unit ∧ k.count = j.count ∧ (k.state = .encryptWait ∨ k.state = .encrypting) := by
  have hub : (takeSector i j sector s).BuffersOk := (JobsFrom.takeSector i j sector s).buffers hb
  have hmem : { j with state := .encryptWait } ∈ (takeSector i j sector s).ubp.jobs := by
    rw [(takeSector_last howed j sector s).2]
    exact List.mem_map.2 ⟨j, hj, if_pos rfl⟩
  obtain ⟨k, hk, hgoes⟩ := (settle_follows _).job? (State.job?_of_mem hub hmem)
  obtain ⟨-, howner, hunit, -, hcount, -⟩ := hgoes.fields
  exact ⟨k, hk, howner, hunit, hcount, by simpa [JobState.Leads] using hgoes.state hub⟩

/-- The job of a sector before the last waits on (R51). -/
theorem settle_takeSector_more {s : State} (hb : s.BuffersOk) {i : Intake} (howed : 1 < i.owed) (hi : s.intake? i.tag = some i)
    {j : Job} (hj : j ∈ s.ubp.jobs) (hwait : j.state = .dataWait) (sector : List Byte) :
    (∃ k ∈ (settle (takeSector i j sector s)).ubp.jobs, { k with pageOp := j.pageOp } = j) ∧
    ((∀ r ∈ s.dli.requests, r.owner ≠ .job j.buf) → j ∈ (settle (takeSector i j sector s)).ubp.jobs) := by
  have hub : (takeSector i j sector s).BuffersOk := (JobsFrom.takeSector i j sector s).buffers hb
  obtain ⟨k, hk, hgoes⟩ := (settle_follows (takeSector i j sector s)).job (j := j)
    (by rw [(takeSector_more howed hi j sector).2]; exact hj)
  have hstate : k.state = j.state := by
    have h := hgoes.state hub
    rw [hwait] at h ⊢
    simpa [JobState.Leads] using h
  have hsame : k = { j with pageOp := k.pageOp } := by
    have h := hgoes.same
    rwa [hstate] at h
  refine ⟨⟨k, hk, by rw [hsame]⟩, fun hnone => ?_⟩
  rcases hgoes.pageOp with hop | ⟨⟨r, hr, howner⟩, -⟩
  · rw [hop] at hsame
    have hkj : k = j := hsame
    rwa [hkj] at hk
  · rw [(takeSector_frame i j sector s).2.2.2.2.1] at hr
    exact absurd howner (hnone r hr)

/-- A sector for an open intake placed, counted and its job led on; one for none dropped. -/
theorem writeDataPlaced_spec : Obligations.WriteDataPlaced := by
  intro s tag sector hrun hlength
  refine ⟨fun i j htag hi hj => ?_, fun hnone => ⟨fun hsettled => ?_, ?_⟩⟩
  · have hexec := exec_writeData hrun tag sector
    rw [takeWriteData_open htag hlength hi hj] at hexec
    have hmem := List.mem_of_find?_eq_some hj
    have hwait : j.state = .dataWait := by
      have h := List.find?_some hj
      simp only [Bool.and_eq_true, beq_iff_eq] at h
      exact h.2
    have htagi : i.tag = tagOf tag := by simpa using List.find?_some hi
    rw [← htagi] at hi ⊢
    refine ⟨_, hexec, fun a => ?_, fun hb => ?_, fun howed => ?_, fun howed => ?_⟩
    · rw [settle_mem]
      exact takeSector_read hlength i j s a
    · exact (settle_waitsInOrder ((JobsFrom.takeSector i j sector s).buffers hb)).before (takeSector_waitsFrom i j sector s hi)
    · rw [settle_intake?]
      exact ⟨(takeSector_last howed j sector s).1, fun hb => settle_takeSector_last hb howed hmem sector⟩
    · rw [settle_intake?]
      exact ⟨(takeSector_more howed hi j sector).1, fun hb => settle_takeSector_more hb howed hi hmem hwait sector⟩
  · rw [exec_writeData hrun, takeWriteData_dropped hnone, hsettled]
  · refine ⟨_, exec_writeData hrun tag sector, ?_⟩
    rw [takeWriteData_dropped hnone]
    refine ⟨settle_intakes s, settle_refusals s, settle_fixedPart s, (settle_frame s).2.2.2.1, fun j hj => ?_, fun a => by
      rw [settle_mem]⟩
    obtain ⟨k, hk, hgoes⟩ := (settle_follows s).job hj
    obtain ⟨hbuf, howner, hunit, -, -, -, hsent, habandoned⟩ := hgoes.fields
    exact ⟨k, hk, hbuf, howner, hunit, hsent, habandoned⟩

end Sys2Proof.Machine

namespace Sys2Proof

/-- Settles O43. -/
theorem cipherCompletion : Obligations.CipherCompletion := Machine.cipherCompletion_spec

/-- Settles O29. -/
theorem writeDataPlaced : Obligations.WriteDataPlaced := Machine.writeDataPlaced_spec

end Sys2Proof


/-! PROOF. ABORT (R23, R24, R34, R60): the unit jobs disposed of at a failure, and the jobs held. -/

namespace Sys2Proof.Machine

open Sys2Proof

/-! ## Requests whose jobs stand (R52) -/

/-- A request of `t` that is not one of `s` is of a job that stands in `t`, or the sweep's. -/
def Binds (s t : State) : Prop :=
  (∀ j ∈ s.ubp.jobs, ∃ k ∈ t.ubp.jobs, k.buf = j.buf) ∧
  ∀ r ∈ t.dli.requests, r ∈ s.dli.requests ∨ ∀ b, r.owner = .job b → ∃ k ∈ t.ubp.jobs, k.buf = b

theorem Follows.keepsBuffers {s t : State} (h : Follows s t) : ∀ j ∈ s.ubp.jobs, ∃ k ∈ t.ubp.jobs, k.buf = j.buf :=
  fun _ hj => (h.job hj).imp fun _ hk => ⟨hk.1, hk.2.fields.1⟩

theorem Binds.of_kept {s t : State} (h : Follows s t) (hrequests : ∀ r ∈ t.dli.requests, r ∈ s.dli.requests) : Binds s t :=
  ⟨h.keepsBuffers, fun r hr => .inl (hrequests r hr)⟩

theorem Binds.trans {s t u : State} (h1 : Binds s t) (h2 : Binds t u) : Binds s u := by
  obtain ⟨hkept, hbound⟩ := h1
  obtain ⟨hkept', hbound'⟩ := h2
  refine ⟨fun j hj => ?_, fun r hr => ?_⟩
  · obtain ⟨k, hk, hbuf⟩ := hkept j hj
    obtain ⟨i, hi, hbuf'⟩ := hkept' k hk
    exact ⟨i, hi, hbuf'.trans hbuf⟩
  · rcases hbound' r hr with hr | hr
    · refine (hbound r hr).imp id fun h b hb => ?_
      obtain ⟨k, hk, rfl⟩ := h b hb
      exact hkept' k hk
    · exact .inr hr

/-- A request made adds at most itself. -/
theorem makeRequest_requests (op : DOp) (o : Owner) (s : State) {r : DReq} (hr : r ∈ (makeRequest op o s).dli.requests) :
    r ∈ s.dli.requests ∨ r.owner = o := by
  rw [makeRequest_dli] at hr
  split at hr
  · rcases List.mem_append.1 hr with hr | hr
    · exact .inl hr
    · exact .inr (by rw [List.mem_singleton.1 hr])
  · exact .inl hr

theorem Binds.startJob {b : Fin 8} {x : Txn} {s : State} (hb : s.freeBuffer = some b) (hx : s.txns.find? s.eligible = some x) :
    Binds s (startJob b x (x.nextUnit.getD 0) s) := by
  refine ⟨(Follows.startJob hb hx).keepsBuffers, fun r hr => ?_⟩
  have hstands : ∃ k ∈ (Machine.startJob b x (x.nextUnit.getD 0) s).ubp.jobs, k.buf = b :=
    ⟨_, by rw [startJob_jobs (State.freeBuffer_spec hb)]; exact List.mem_append_right _ (List.mem_singleton_self _), rfl⟩
  rw [startJob_dli] at hr
  split at hr
  · exact .inl hr
  · refine (makeRequest_requests _ _ s hr).imp id fun howner c hc => ?_
    rw [howner, Owner.job.injEq] at hc
    exact hc ▸ hstands

/-- The sweep released asks for its window alone. -/
theorem releaseHold_requests (s : State) {r : DReq} (hr : r ∈ (releaseHold s).dli.requests) :
    r ∈ s.dli.requests ∨ r.owner = .sweep := by
  unfold releaseHold at hr
  split at hr
  · unfold makeDue at hr
    split at hr
    · exact .inl hr
    · split at hr
      · exact .inl hr
      · split at hr
        · split at hr
          · exact makeRequest_requests _ _ (s.setSwu { s.swu with state := .issuing, discardOut := true }) hr
          · exact .inl (by simpa [requestCursor] using hr)
        · exact .inl hr
  · exact .inl hr

theorem binds_closing : Closing Binds where
  refl s := .of_kept (.refl s) fun _ h => h
  trans := .trans
  startJob _ _ _ hb hx := .startJob hb hx
  dataWaits s := .of_kept (.dataWaits s) fun _ h => h
  releaseHold s := ⟨(Follows.releaseHold s).keepsBuffers, fun _ hr =>
    (releaseHold_requests s hr).imp id fun h b hb => by simp [h] at hb⟩
  issue d r s _ hr := .of_kept (.issue d (State.chosenRequest_mem hr)) fun q hq => by
    rw [(issue_dli d r s).1] at hq
    exact List.mem_of_mem_erase hq
  cipherTake s := .of_kept (.cipherTake s) fun _ h => by simpa using h
  grant s := .of_kept (.grant s) fun _ h => by simpa using h
  judge s := .of_kept (.judge s) fun _ h => by simpa using h

/-- Where a buffer is bound to no job, what follows an event has left no request of it that was not there. -/
theorem settle_unbound {s : State} {b : Fin 8} (hb : ∀ k ∈ (settle s).ubp.jobs, k.buf ≠ b)
    (hnone : ∀ r ∈ s.dli.requests, r.owner ≠ .job b) : ∀ r ∈ (settle s).dli.requests, r.owner ≠ .job b := by
  intro r hr howner
  rcases (binds_closing.settle s).2 r hr with hr | h
  · exact hnone r hr howner
  · obtain ⟨k, hk, hbuf⟩ := h b howner
    exact hb k hk hbuf

/-! ## The unit jobs at a failure (R60) -/

/-- A job that a failure leaves keeps its buffer, its owner and its page operation. -/
theorem Job.lot_fields {j k : Job} {t : Fin 16} (h : (if j.isOf t then j.atFailure else some j) = some k) :
    j.buf = k.buf ∧ j.owner = k.owner ∧ j.SameOp k := by
  split at h
  · rw [j.atFailure_eq] at h
    split at h
    · rw [← Option.some.inj h]
      exact ⟨rfl, rfl, rfl, rfl, rfl⟩
    · split at h
      · rw [← Option.some.inj h]
        exact ⟨rfl, rfl, .refl j⟩
      · cases h
  · rw [← Option.some.inj h]
    exact ⟨rfl, rfl, .refl j⟩

theorem failTxn_jobs_user {t : Fin 16} {s : State} {x : Txn} (hx : s.txn? t = some x) (hactive : x.phase = .active)
    (hfresh : x.failure = none) (huser : x.isUserTransfer = true) (f : Failure) : (failTxn t f s).ubp.jobs =
      s.ubp.jobs.filterMap (fun j => if j.isOf t then j.atFailure else some j) := by
  have hjobs : (failTxn t f s).ubp.jobs =
      (disposeWork x (updTxn t (fun y => { y with failure := some f, flushMark := none }) s)).ubp.jobs := by
    rw [failTxn_of_active hx hactive hfresh]
    split <;> simp
  rw [hjobs, disposeWork_jobs, if_pos huser, State.tag_of_txn? hx]
  rfl

/-- A job that a failure leaves stands on after it (R48, R54, R60). -/
theorem settle_job_stands {u : State} (hb : u.BuffersOk) {i : Job} (hi : i ∈ u.ubp.jobs)
    (hstate : i.state = .mediaRead ∨ i.state = .mediaWrite ∨ i.state = .delivering) :
    ∃ k ∈ (settle u).ubp.jobs, { k with pageOp := i.pageOp } = i := by
  obtain ⟨k, hk, hgoes⟩ := (settle_follows u).job hi
  have hsame : k.state = i.state := by
    have h := hgoes.state hb
    rcases hstate with h' | h' | h' <;> simpa [JobState.Leads, h'] using h
  refine ⟨k, hk, ?_⟩
  have h := hgoes.same
  rw [hsame] at h
  rw [h]

/-- A failure disposes of each job of its transaction by its state, and every other goes on (R60). -/
theorem settle_failTxn_disposed {t : Fin 16} {s : State} {x : Txn} (hx : s.txn? t = some x) (hactive : x.phase = .active)
    (hfresh : x.failure = none) (huser : x.isUserTransfer = true) (htags : s.TagsOk) (hbufs : s.BuffersOk) (f : Failure) :
    s.JobsDisposed (settle (failTxn t f s)) t := by
  have hjobs := failTxn_jobs_user hx hactive hfresh huser f
  have hub : (failTxn t f s).BuffersOk := (JobsFrom.failTxn t f s).buffers hbufs
  have hut : (failTxn t f s).TagsOk := by rw [State.TagsOk, failTxn_tags]; exact htags
  have hnotFlush : x.kind ≠ .flush := fun h => by simp [Txn.isUserTransfer, h] at huser
  have hdli := failTxn_dli hx hactive hfresh f
  rw [if_neg hnotFlush, if_pos huser] at hdli
  obtain ⟨y, hy, hfailure, -, hmoves⟩ := settle_failTxn_txn? hx hactive hfresh f
  have hfailed := failTxn_txn? hx hactive hfresh f
  obtain ⟨u, hu⟩ : ∃ u, u = failTxn t f s := ⟨_, rfl⟩
  rw [← hu] at hjobs hub hut hdli hy hfailed ⊢
  have hstands : ∀ j ∈ s.ubp.jobs, j.isOf t = true → ∀ i, j.atFailure = some i → i ∈ u.ubp.jobs := fun j hj hof i hi => by
    rw [hjobs, List.mem_filterMap]
    exact ⟨j, hj, by rw [if_pos hof, hi]⟩
  refine ⟨fun j hj hof => ⟨fun hread => ?_, fun hstays => ?_, fun hread hstays => ⟨fun k hk hbuf => ?_, fun hfree => ?_⟩⟩,
    fun j hj hof => ?_⟩
  · have hi := hstands j hj hof _ (by rw [j.atFailure_eq, if_pos hread])
    simp only [Job.isIssuedRead, Bool.and_eq_true, beq_iff_eq] at hread
    exact settle_job_stands hub hi (.inl hread.1)
  · have hread : j.isIssuedRead = false := by
      simp only [Job.staysAtFailure, Bool.or_eq_true, beq_iff_eq] at hstays
      rcases hstays with h | h <;> simp [Job.isIssuedRead, h]
    have hi := hstands j hj hof _ (by rw [j.atFailure_eq, hread, if_neg (by simp), if_pos hstays])
    simp only [Job.staysAtFailure, Bool.or_eq_true, beq_iff_eq] at hstays
    exact settle_job_stands hub hi (.inr hstays)
  · have hends : j.atFailure = none := by simp [j.atFailure_eq, hread, hstays]
    have hfree : ∀ i ∈ u.ubp.jobs, i.buf ≠ j.buf := by
      intro i hi hib
      rw [hjobs, List.mem_filterMap] at hi
      obtain ⟨i₀, hi₀, hlot⟩ := hi
      obtain rfl := hbufs.eq_of_buf hi₀ hj ((Job.lot_fields hlot).1.trans hib)
      rw [if_pos hof, hends] at hlot
      cases hlot
    exact settle_free_notGiven hfree hut hy hmoves.not_active k hk hbuf
  · refine settle_unbound hfree fun r hr howner => ?_
    rw [hdli] at hr
    have hkept := (List.mem_filter.1 hr).2
    have hends : j.atFailure = none := by simp [j.atFailure_eq, hread, hstays]
    have hgone : j.buf ∈ s.endingBuffers t := State.mem_endingBuffers.2 ⟨j, hj, hof, hends, rfl⟩
    simp [howner, ownerIn, hgone] at hkept
  · have hi : j ∈ u.ubp.jobs := by
      rw [hjobs, List.mem_filterMap]
      exact ⟨j, hj, by simp [hof]⟩
    obtain ⟨k, hk, hgoes⟩ := (settle_follows u).job hi
    obtain ⟨hbuf, howner, hunit, -, -, -, -, habandoned⟩ := hgoes.fields
    exact ⟨k, hk, hbuf, howner, hunit, habandoned⟩

/-! ## The jobs held (R44) -/

/-- What follows an event starts no job for a record that is not ACTIVE. -/
theorem settle_jobsHeld {s : State} (htags : s.TagsOk) {z y : Txn} {t : Fin 16} (hz : s.txn? t = some z)
    (hne : z.phase ≠ .active) (hy : (settle s).txn? t = some y) : y.jobsHeld = z.jobsHeld := by
  have htag := State.tag_of_txn? hz
  have hmem := State.mem_of_txn? hz
  obtain ⟨w, -, hwtag, -, huniq, hright⟩ := settle_startedRight hmem fun x hx h => htags.eq_of_tag hx hmem h
  obtain rfl := huniq y (State.mem_of_txn? hy) ((State.tag_of_txn? hy).trans htag.symm)
  have hnone : (settle s).started s.ubp.jobs y.tag = [] := by
    rw [State.started, List.filter_eq_nil_iff]
    intro k hk hstarted
    simp only [Bool.and_eq_true, beq_iff_eq, List.all_eq_true, bne_iff_ne] at hstarted
    obtain ⟨howner, hnew⟩ := hstarted
    rcases (settle_follows s).of_job hk with ⟨i, hi, hgoes⟩ | hnewly
    · exact hnew i hi hgoes.fields.1.symm
    · obtain ⟨x, hx, hxtag, -, hxactive⟩ := hnewly.owner
      obtain rfl := htags.eq_of_tag hx hmem (hxtag.trans (howner.trans hwtag))
      exact hne hxactive
  have hholds := hright.holds
  rwa [hnone, List.length_nil, Nat.add_zero] at hholds

/-- A failure lowers the jobs held by those that end or become abandoned (R60). -/
theorem settle_failTxn_jobsHeld {t : Fin 16} {s : State} {x y : Txn} (hx : s.txn? t = some x) (hactive : x.phase = .active)
    (hfresh : x.failure = none) (huser : x.isUserTransfer = true) (htags : s.TagsOk) (f : Failure)
    (hy : (settle (failTxn t f s)).txn? t = some y) :
    y.jobsHeld = x.jobsHeld - (s.ubp.jobs.filter (fun j => j.isOf t && !j.staysAtFailure)).length := by
  have hut : (failTxn t f s).TagsOk := by rw [State.TagsOk, failTxn_tags]; exact htags
  have hleaving : s.leaving x = (s.ubp.jobs.filter (fun j => j.isOf t && !j.staysAtFailure)).length := by
    rw [State.leaving, if_pos huser, State.tag_of_txn? hx, List.filter_filter]
    refine congrArg List.length (List.filter_congr fun j _ => ?_)
    by_cases hof : j.isOf t = true
    · have hkept : j.abandoned = false := by
        simp only [Job.isOf, Bool.and_eq_true, Bool.not_eq_true'] at hof
        exact hof.2
      rw [j.leavesAtFailure_eq hkept, hof, Bool.and_true, Bool.true_and]
    · simp [hof]
  have hfailed := failTxn_txn? hx hactive hfresh f
  have hphase : (x.failed f (s.leaving x) (s.stillWaits t)).phase ≠ .active := by
    unfold Txn.failed
    cases s.stillWaits t <;> simp
  rw [settle_jobsHeld hut hfailed hphase hy, ← hleaving]
  rfl

/-! ## ABORT (R34) -/

theorem exec_abort {s : State} {tag : Byte} (htakes : s.TakesRequests) (htag : tag.toNat ≤ 15) (lba : BitVec 32)
    (count : BitVec 16) : exec (.abort tag lba count) s = .next (settle (failTxn (tagOf tag) .aborted s)) := by
  show Host.Outcome.next (requestArrives { kind := 6, tag := tag, lba := lba, count := count } s) = _
  rw [requestArrives_of_takesRequests htakes, takeRequest_abort htag]

/-- Settles O25: ABORT fails the ACTIVE record it names, its jobs disposed of, and leaves every other. -/
theorem abortFailsActive : Obligations.AbortFailsActive := by
  refine ⟨fun s tag lba count x htakes htag hx hactive hfresh => ?_, fun s tag lba count htakes htag hnone => ?_⟩
  · obtain ⟨y, hy, hfailure, hdone, hmoves⟩ := settle_failTxn_txn? hx hactive hfresh .aborted
    refine ⟨_, y, exec_abort htakes htag lba count, hy, hfailure, hdone, hmoves, fun huser => ?_, fun huser htags hbufs =>
      ⟨settle_failTxn_disposed hx hactive hfresh huser htags hbufs .aborted,
        settle_failTxn_jobsHeld hx hactive hfresh huser htags .aborted hy⟩⟩
    rw [settle_intake?]
    refine intake?_of_filter ?_
    rw [failTxn_intakes hx hactive hfresh, if_pos huser, List.filter_filter]
    simp
  · have hexec := exec_abort htakes htag lba count
    rw [failTxn_of_inactive hnone] at hexec
    refine ⟨fun hsettled => by rw [hexec, hsettled], _, hexec, settle_fixedPart s, settle_intakes s, settle_refusals s,
      (settle_frame s).2.2.2.1, settle_mem s, fun j hj => ?_⟩
    obtain ⟨k, hk, hgoes⟩ := (settle_follows s).job hj
    obtain ⟨hbuf, howner, hunit, -, -, -, hsent, habandoned⟩ := hgoes.fields
    exact ⟨k, hk, hbuf, howner, hunit, hsent, habandoned⟩

end Sys2Proof.Machine


/-! PROOF. IDENT and MEDIA_LOST on the link (R72, R73, R74): where the media is not OK nothing is asked for, and a sweep that
rests takes no part in what owners take early. -/

namespace Sys2Proof.Machine

open Sys2Proof

/-! ## What a job's or a FLUSH's completion asks for (R76) -/

/-- From `s` to `t` nothing is issued, and only SYNCs are asked for: requested where the media is OK. -/
structure Answers (s t : State) : Prop where
  slots : t.dli.slots = s.dli.slots
  media : t.dli.media = s.dli.media
  swu : t.swu = s.swu
  requests : ∀ r ∈ t.dli.requests, r ∈ s.dli.requests ∨ (s.dli.media = .ok ∧ ∃ f, r.owner = .flush f)
  errors : ∀ e ∈ t.dli.errors, e ∈ s.dli.errors ∨ ∃ f, e.owner = .flush f

theorem Answers.of_same {s t : State} (hdli : t.dli = s.dli) (hswu : t.swu = s.swu) : Answers s t where
  slots := by rw [hdli]
  media := by rw [hdli]
  swu := hswu
  requests r hr := .inl (hdli ▸ hr)
  errors e he := .inl (hdli ▸ he)

theorem Answers.refl (s : State) : Answers s s := .of_same rfl rfl

theorem Answers.trans {s t u : State} (h1 : Answers s t) (h2 : Answers t u) : Answers s u where
  slots := h2.slots.trans h1.slots
  media := h2.media.trans h1.media
  swu := h2.swu.trans h1.swu
  requests r hr := (h2.requests r hr).elim (h1.requests r) fun ⟨hok, hflush⟩ => .inr ⟨h1.media ▸ hok, hflush⟩
  errors e he := (h2.errors e he).elim (h1.errors e) .inr

theorem Answers.failTxn (t : Fin 16) (f : Failure) (s : State) : Answers s (failTxn t f s) where
  slots := failTxn_slots t f s
  media := by
    have h := congrArg Dli.media (failTxn_mediaPart t f s)
    exact h
  swu := by simp
  requests r hr := .inl ((failTxn_lists t f s).1.mem hr)
  errors e he := .inl ((failTxn_lists t f s).2.mem he)

theorem Answers.progress (t : Fin 16) (s : State) : Answers s (progress t s) := .of_same (by simp) (by simp)

theorem Answers.endJob (j : Job) (s : State) : Answers s (endJob j s) := .of_same (by simp) (by simp)

theorem Answers.requestSync (t : Fin 16) (s : State) : Answers s (requestSync t s) where
  slots := requestSync_slots t s
  media := by
    have h := congrArg Dli.media (requestSync_mediaPart t s)
    exact h
  swu := by simp [Machine.requestSync]
  requests r hr := by
    rw [Machine.requestSync, makeRequest_dli] at hr
    split at hr
    next hok =>
      refine (List.mem_append.1 hr).imp id fun hr => ⟨by simpa [State.admissible] using hok, t, ?_⟩
      rw [List.mem_singleton.1 hr]
    next => exact .inl hr
  errors e he := by
    rw [Machine.requestSync, makeRequest_dli] at he
    split at he
    next => exact .inl he
    next => exact (List.mem_append.1 he).imp id fun he => ⟨t, by rw [List.mem_singleton.1 he]⟩

theorem Answers.syncIfUnmarked (t : Fin 16) (s : State) : Answers s (syncIfUnmarked t s) := by
  unfold Machine.syncIfUnmarked
  split
  · split
    · exact .requestSync t s
    · exact .refl s
  · exact .refl s

theorem Answers.foldl {α : Type} {f : State → α → State} (h : ∀ s a, Answers s (f s a)) (l : List α) (s : State) :
    Answers s (l.foldl f s) := by
  induction l generalizing s with
  | nil => exact .refl s
  | cons a l ih => exact (h s a).trans (ih _)

theorem Answers.leaveMarks (b : Fin 8) (s : State) : Answers s (leaveMarks b s) := by
  unfold Machine.leaveMarks
  exact (Answers.of_same (t := s.setTxns _) (by rfl) (by rfl)).trans
    (.foldl (f := fun s t => Machine.syncIfUnmarked t s) (fun s t => .syncIfUnmarked t s) _ _)

theorem Answers.endAbandoned (j : Job) (op : DOp) (s : State) : Answers s (endAbandoned j op s) := by
  unfold Machine.endAbandoned
  split
  · exact (Answers.of_same (t := dropJob j.buf s) (by rfl) (by rfl)).trans (.leaveMarks j.buf _)
  · exact .of_same rfl rfl

theorem Answers.readEnd (j : Job) (ok : Bool) (page : List Byte) (s : State) : Answers s (readEnd j ok page s) := by
  unfold Machine.readEnd
  split
  · exact .of_same (by simp) (by simp)
  · exact ((Answers.endJob j s).trans (.failTxn _ _ _)).trans (.progress _ _)

theorem Answers.writeEnd (j : Job) (ok : Bool) (s : State) : Answers s (writeEnd j ok s) := by
  unfold Machine.writeEnd
  split
  · exact ((((Answers.endJob j s).trans (.of_same (t := addDone j.owner j.count (Machine.endJob j s)) (by rfl) (by rfl))).trans
      (.leaveMarks j.buf _)).trans (.of_same (t := activityRequest _) (by simp) (by simp))).trans (.progress _ _)
  · exact (((Answers.endJob j s).trans (.leaveMarks _ _)).trans (.failTxn _ _ _)).trans (.progress _ _)

theorem Answers.jobCompletion (b : Fin 8) (op : DOp) (ok : Bool) (page : List Byte) (s : State) :
    Answers s (jobCompletion b op ok page s) := by
  unfold Machine.jobCompletion
  split
  · exact .refl s
  · split
    · split
      · exact (Answers.of_same (by simp) (by simp)).trans (.endAbandoned _ _ _)
      · exact .endAbandoned _ _ s
    · split
      · exact .readEnd _ _ _ s
      · exact .writeEnd _ _ s
      · exact .refl s

theorem Answers.syncEnd (t : Fin 16) (ok : Bool) (s : State) : Answers s (syncEnd t ok s) := by
  unfold Machine.syncEnd
  split
  · exact .refl s
  · split
    · split
      · exact .of_same (by simp [setDone]) (by simp [setDone])
      · exact .failTxn _ _ s
    · exact .progress t s
    · exact .refl s

theorem Answers.ownerTakes {o : Owner} (h : o ≠ .sweep) (op : DOp) (ok lost : Bool) (page : List Byte) (s : State) :
    Answers s (ownerTakes op o ok lost page s) := by
  cases o with
  | job b => exact .jobCompletion b op ok page s
  | flush t => exact .syncEnd t ok s
  | sweep => exact absurd rfl h
  | nobody => exact .refl s

/-! ## The link without media (R66, R73) -/

/-- The media is not OK, and the link holds nothing. -/
def State.LinkShut (s : State) : Prop := s.dli.media ≠ .ok ∧ s.dli.requests = [] ∧ s.dli.slots = []

theorem State.LinkShut.of_link {s t : State} (h : s.LinkShut) (hmedia : t.dli.media = s.dli.media)
    (hrequests : t.dli.requests = s.dli.requests) (hslots : t.dli.slots = s.dli.slots) : t.LinkShut := by
  obtain ⟨hne, hnone, hfree⟩ := h
  exact ⟨by rwa [hmedia], hrequests.trans hnone, hslots.trans hfree⟩

theorem State.LinkShut.of_dli {s t : State} (h : s.LinkShut) (hdli : t.dli = s.dli) : t.LinkShut :=
  h.of_link (by rw [hdli]) (by rw [hdli]) (by rw [hdli])

theorem State.LinkShut.answers {s t : State} (h : s.LinkShut) (hst : Answers s t) : t.LinkShut := by
  refine h.of_link hst.media ?_ hst.slots
  obtain ⟨hne, hnone, -⟩ := h
  rw [hnone, List.eq_nil_iff_forall_not_mem]
  intro r hr
  rcases hst.requests r hr with hr | ⟨hok, -⟩
  · simp [hnone] at hr
  · exact hne hok

/-- A window made due without media asks the link for nothing. -/
theorem makeDue_dli_of_lost {s : State} (h : s.dli.media ≠ .ok) : (makeDue s).dli = s.dli := by
  unfold makeDue
  split
  · rfl
  · rw [if_pos (.inr h)]
    rfl

theorem State.LinkShut.makeDue {s : State} (h : s.LinkShut) : (makeDue s).LinkShut := h.of_dli (makeDue_dli_of_lost h.1)

theorem State.LinkShut.afterAdvance {s : State} (h : s.LinkShut) (c : Nat) (skipped : Bool) : (afterAdvance c skipped s).LinkShut := by
  unfold Machine.afterAdvance
  split
  · exact h.of_dli (by simp)
  · split
    · exact h.of_dli (by simp)
    · exact h.makeDue

theorem State.LinkShut.windowResult {s : State} (h : s.LinkShut) (r : WindowResult) (n : Nat) : (windowResult r n s).LinkShut := by
  have hswu (w : Swu) : (s.setSwu w).LinkShut := h.of_dli rfl
  unfold Machine.windowResult
  dsimp only
  split
  · exact hswu _
  · split
    · exact (hswu _).makeDue
    · exact (hswu _).makeDue
    · exact (hswu _).afterAdvance _ _
    · exact (hswu _).afterAdvance _ _

theorem State.LinkShut.ownerTakes {s : State} (h : s.LinkShut) (op : DOp) (o : Owner) (ok lost : Bool) (page : List Byte) :
    (ownerTakes op o ok lost page s).LinkShut := by
  by_cases ho : o = .sweep
  · subst ho
    unfold Machine.ownerTakes
    dsimp only
    split
    · exact h.windowResult _ _
    · exact h
  · exact h.answers (.ownerTakes ho op ok lost page s)

theorem linkShut_closing : Closing (fun s t => s.LinkShut → t.LinkShut) where
  refl _ h := h
  trans h1 h2 h := h2 (h1 h)
  startJob b x s _ _ h := by
    obtain ⟨hne, hrequests, hslots⟩ := AsksNothing.startJob b x (x.nextUnit.getD 0) s h.1
    exact ⟨hne, hrequests.trans h.2.1, hslots.trans h.2.2⟩
  dataWaits s h := h.of_dli rfl
  releaseHold s h := by
    unfold Machine.releaseHold
    split
    · exact h.makeDue
    · exact h
  issue d r s _ hr h := by
    have hmem := State.chosenRequest_mem hr
    simp [h.2.1] at hmem
  cipherTake s h := h.of_dli (by simp)
  grant s h := h.of_dli (by simp)
  judge s h := h.of_dli (by simp)

theorem State.LinkShut.settle {s : State} (h : s.LinkShut) : (settle s).LinkShut := linkShut_closing.settle s h

theorem State.LinkShut.takeError {s : State} (h : s.LinkShut) (o : Owner) : (takeError o s).LinkShut := by
  unfold Machine.takeError
  split
  · exact h
  next e _ =>
    have hleft : (s.setDli { s.dli with errors := s.dli.errors.erase e }).LinkShut := h.of_link rfl rfl rfl
    exact (hleft.ownerTakes _ _ _ _ _).settle

theorem State.LinkShut.takeEarly {s : State} (h : s.LinkShut) (early : List Owner) : (takeEarly early s).LinkShut := by
  unfold Machine.takeEarly
  induction early generalizing s with
  | nil => exact h
  | cons o early ih => exact ih (h.takeError o)

theorem Answers.failAll (f : Failure) (l : List Txn) (s : State) : Answers s (failAll f l s) := by
  unfold Machine.failAll
  exact .foldl (f := fun s x => Machine.failTxn x.tag f s) (fun s x => .failTxn x.tag f s) l s

/-- The lock event withdraws from the link alone (R60, R77, R94). -/
theorem Answers.lockEvent (c : Cause) (s : State) : Answers s (lockEvent c s) := by
  have hlocked : Answers s (s.lockedTable c) := by
    rw [State.lockedTable, failVolume_eq]
    exact (Answers.of_same (by simp) (by simp)).trans (.failAll _ _ _)
  obtain ⟨hdli, -⟩ := lockEvent_table c s
  exact hlocked.trans (.of_same hdli (by
    rw [hlocked.swu]
    simp))

theorem Answers.acLoss (s : State) : Answers s (acLoss s) := by
  unfold Machine.acLoss
  split
  · exact .lockEvent _ s
  · split
    · exact .of_same rfl rfl
    · exact .refl s

/-! ## A sweep that rests (R147) -/

/-- The sweep is PAUSED with nothing of it outstanding, and no ERROR completion is given to it. -/
structure State.SweepRests (s : State) (c : Nat) : Prop where
  state : s.swu.state = .paused
  hold : s.swu.hold = false
  discardOut : s.swu.discardOut = false
  writeOut : s.swu.writeOut = false
  cursor : s.swu.cursor = some c
  errors : ∀ e ∈ s.dli.errors, e.owner ≠ .sweep

theorem State.SweepRests.of_answers {s t : State} {c : Nat} (h : s.SweepRests c) (hst : Answers s t) : t.SweepRests c where
  state := by rw [hst.swu]; exact h.state
  hold := by rw [hst.swu]; exact h.hold
  discardOut := by rw [hst.swu]; exact h.discardOut
  writeOut := by rw [hst.swu]; exact h.writeOut
  cursor := by rw [hst.swu]; exact h.cursor
  errors e he := by
    rcases hst.errors e he with he | ⟨f, howner⟩
    · exact h.errors e he
    · simp [howner]

theorem State.SweepRests.settle {s : State} {c : Nat} (h : s.SweepRests c) : (settle s).SweepRests c := by
  obtain ⟨hswu, -⟩ := (settle_sweep s).still (by simp [h.state])
  refine ⟨by rw [hswu]; exact h.state, by rw [hswu]; exact h.hold, by rw [hswu]; exact h.discardOut,
    by rw [hswu]; exact h.writeOut, by rw [hswu]; exact h.cursor, fun e he => ?_⟩
  obtain ⟨l, hl, hnew⟩ := (settle_follows s).errors
  rw [hl, List.mem_append] at he
  rcases he with he | he
  · exact h.errors e he
  · rcases (hnew e he).1 with ⟨-, -, hissuing⟩ | ⟨b, hjob, -⟩
    · simp [h.state] at hissuing
    · simp [hjob]

theorem State.SweepRests.takeError {s : State} {c : Nat} (h : s.SweepRests c) (o : Owner) : (takeError o s).SweepRests c := by
  unfold Machine.takeError
  split
  · exact h
  next e he =>
    have howner : e.owner = o := by simpa using List.find?_some he
    have ho : o ≠ .sweep := howner ▸ h.errors e (List.mem_of_find?_eq_some he)
    have hleft : (s.setDli { s.dli with errors := s.dli.errors.erase e }).SweepRests c :=
      { h with errors := fun e' he' => h.errors e' (List.mem_of_mem_erase he') }
    exact (hleft.of_answers (.ownerTakes ho _ _ _ _ _)).settle

theorem State.SweepRests.takeEarly {s : State} {c : Nat} (h : s.SweepRests c) (early : List Owner) :
    (takeEarly early s).SweepRests c := by
  unfold Machine.takeEarly
  induction early generalizing s with
  | nil => exact h
  | cons o early ih => exact ih (h.takeError o)

end Sys2Proof.Machine


/-! PROOF. A loss of the media (R73, R74): what is completed ERROR and what the lock event of the loss withdraws, what the link
holds after it, and IDENT's four parts. -/

namespace Sys2Proof.Machine

open Sys2Proof

/-! ## The lock event's table (R94) -/

theorem stopCipher_jobs_mem (s : State) : ∀ k ∈ (stopCipher s).ubp.jobs, k ∈ s.ubp.jobs := by
  have hfold : ∀ (l : List Job) (v : State), ∀ k ∈ (l.foldl (fun acc j => endJob j acc) v).ubp.jobs, k ∈ v.ubp.jobs := by
    intro l
    induction l with
    | nil => exact fun _ _ h => h
    | cons j l ih =>
      intro v k hk
      have hmem := ih (endJob j v) k hk
      rw [endJob_jobs] at hmem
      exact (List.mem_filter.1 hmem).1
  exact hfold _ s

theorem failAll_active {f : Failure} {l : List Txn} {s : State} {y : Txn} (hy : y ∈ (failAll f l s).txns)
    (hphase : y.phase = .active) : y ∈ s.txns := by
  induction l generalizing s with
  | nil => exact hy
  | cons x l ih => exact failTxn_active (ih hy) hphase

/-- A volume that fails has no ACTIVE record left (R90, R94). -/
theorem failVolume_not_active {s : State} (htags : s.TagsOk) (hactive : s.ActiveOk) (v : TxVolume) (f : Failure) {y : Txn}
    (hy : y ∈ (failVolume v f s).txns) (hv : y.volume = v) : y.phase ≠ .active := by
  intro hphase
  have hmem : y ∈ s.txns := by
    rw [failVolume_eq] at hy
    exact failAll_active hy hphase
  have htags' : (failVolume v f s).TagsOk := by
    rw [State.TagsOk, failVolume_eq, failAll_tags]
    exact htags
  obtain ⟨n, hn⟩ := failVolume_txn? htags hmem hphase (hactive y hmem hphase) f
  rw [hv, State.txn?_of_mem htags' hy, Option.some.injEq] at hn
  rw [hn] at hphase
  revert hphase
  cases s.stillWaits y.tag <;> simp [Txn.failed]

/-- The lock event leaves no ACTIVE record on the user volume, also where the part is not in UNLOCKED (R94). -/
theorem lockEvent_not_active (c : Cause) {s : State} (htags : s.TagsOk) (hactive : s.ActiveOk) {y : Txn}
    (hy : y ∈ (lockEvent c s).txns) (huser : y.volume = .user) : y.phase ≠ .active := by
  have hparts := stopCipher_txns_fixedPart s
  have htags' : ((stopCipher s).setCe { key := none }).TagsOk := by
    have h := congrArg (List.map Txn.tag) hparts
    rw [List.map_map, List.map_map] at h
    have h : (stopCipher s).txns.map Txn.tag = s.txns.map Txn.tag := h
    show ((stopCipher s).txns.map Txn.tag).Nodup
    rw [h]
    exact htags
  refine failVolume_not_active (s := (stopCipher s).setCe { key := none }) htags' (fun z hz hphase => ?_) .user (.volumeChanged c)
    (by rw [lockEvent_txns] at hy; exact hy) huser
  obtain ⟨x, hx, hxz⟩ := mem_of_fixedPart hparts.symm hz
  obtain ⟨-, -, -, -, -, -, -, hfailure, hphase', -, -⟩ := Txn.fields_of_fixedPart hxz
  exact hfailure.symm.trans (hactive x hx (hphase'.trans hphase))

/-! ## What a loss completes (R60, R73, R77) -/

/-- The request of the loss's list has gone with its owner: its job has ended with a failed transaction, or its FLUSH has
failed. -/
def State.WithdrawnWith (s v : State) (r : DReq) : Prop :=
  (∃ b j, r.owner = .job b ∧ s.job? b = some j ∧ j.state = .mediaRead ∧ (∀ k ∈ v.ubp.jobs, k.buf ≠ b) ∧
    ∀ x ∈ v.txns, x.tag = j.owner → x.phase ≠ .active) ∨
  ∃ f y, r.owner = .flush f ∧ v.txn? f = some y ∧ y.failure = some (.volumeChanged .mediaLost)

/-- From the loss of the media in `s` to `v`: what the link held is completed ERROR, or withdrawn with its owner. -/
structure State.Lost (s v : State) : Prop where
  slots : ∀ z ∈ s.dli.slots, z.owner ≠ .nobody → { op := z.op, owner := z.owner, issued := true } ∈ v.dli.errors
  requests : ∀ r ∈ s.dli.requests, { op := r.op, owner := r.owner, issued := false } ∈ v.dli.errors ∨ s.WithdrawnWith v r
  jobs : ∀ k ∈ v.ubp.jobs, ∃ j ∈ s.ubp.jobs, j.buf = k.buf ∧ j.owner = k.owner ∧ j.SameOp k
  buffers : v.BuffersOk
  tags : v.TagsOk

theorem loseMedia_errors (s : State) :
    (∀ z ∈ s.dli.slots, z.owner ≠ .nobody → { op := z.op, owner := z.owner, issued := true } ∈ (loseMedia s).dli.errors) ∧
    ∀ r ∈ s.dli.requests, { op := r.op, owner := r.owner, issued := false } ∈ (loseMedia s).dli.errors := by
  unfold loseMedia
  refine ⟨fun z hz hne => ?_, fun r hr => ?_⟩
  · refine List.mem_append_left _ (List.mem_append_right _ (List.mem_map.2 ⟨z, List.mem_filter.2 ⟨hz, by simpa using hne⟩, rfl⟩))
  · exact List.mem_append_right _ (List.mem_map.2 ⟨r, hr, rfl⟩)

/-- The state in which the owners meet the loss: the link emptied, P and U perhaps new. -/
theorem State.Lost.of_loss {s v : State} (htags : s.TagsOk) (hb : s.BuffersOk) (herrors : v.dli.errors = (loseMedia s).dli.errors)
    (hjobs : v.ubp.jobs = s.ubp.jobs) (htxns : v.txns = s.txns) : s.Lost v where
  slots z hz hne := herrors ▸ (loseMedia_errors s).1 z hz hne
  requests r hr := .inl (herrors ▸ (loseMedia_errors s).2 r hr)
  jobs k hk := ⟨k, hjobs ▸ hk, rfl, rfl, .refl k⟩
  buffers := by rw [State.BuffersOk, hjobs]; exact hb
  tags := by rw [State.TagsOk, htxns]; exact htags

theorem State.WithdrawnWith.mono {s v w : State} {r : DReq} (h : s.WithdrawnWith v r)
    (hjobs : ∀ k ∈ w.ubp.jobs, ∃ i ∈ v.ubp.jobs, i.buf = k.buf)
    (hactive : ∀ x ∈ w.txns, x.phase = .active → ∃ y ∈ v.txns, y.tag = x.tag ∧ y.phase = .active)
    (hfailed : ∀ f y, v.txn? f = some y → y.failure = some (.volumeChanged .mediaLost) →
      ∃ x, w.txn? f = some x ∧ x.failure = some (.volumeChanged .mediaLost)) : s.WithdrawnWith w r := by
  rcases h with ⟨b, j, howner, hj, hstate, hgone, hover⟩ | ⟨f, y, howner, hy, hfailure⟩
  · refine .inl ⟨b, j, howner, hj, hstate, fun k hk hbuf => ?_, fun x hx htag hphase => ?_⟩
    · obtain ⟨i, hi, hik⟩ := hjobs k hk
      exact hgone i hi (hik.trans hbuf)
    · obtain ⟨y, hy, hyx, hyphase⟩ := hactive x hx hphase
      exact hover y hy (hyx.trans htag) hyphase
  · obtain ⟨x, hx, hfailure'⟩ := hfailed f y hy hfailure
    exact .inr ⟨f, x, howner, hx, hfailure'⟩

theorem State.WithdrawnWith.of_fixedPart {s v w : State} {r : DReq} (h : s.WithdrawnWith v r)
    (hjobs : ∀ k ∈ w.ubp.jobs, ∃ i ∈ v.ubp.jobs, i.buf = k.buf)
    (hparts : w.txns.map Txn.fixedPart = v.txns.map Txn.fixedPart) : s.WithdrawnWith w r := by
  refine h.mono hjobs (fun x hx hphase => ?_) fun f y hy hfailure => ?_
  · obtain ⟨y, hy, hyx⟩ := mem_of_fixedPart hparts.symm hx
    obtain ⟨htag, -, -, -, -, -, -, -, hphase', -, -⟩ := Txn.fields_of_fixedPart hyx
    exact ⟨y, hy, htag, hphase'.trans hphase⟩
  · obtain ⟨x, hx, hxy⟩ := txn?_of_fixedPart hparts hy
    obtain ⟨-, -, -, -, -, -, -, hfailure', -, -, -⟩ := Txn.fields_of_fixedPart hxy
    exact ⟨x, hx, hfailure'.trans hfailure⟩

theorem State.Lost.of_fixedPart {s v w : State} (h : s.Lost v) (hdli : w.dli = v.dli) (hjobs : ∀ k ∈ w.ubp.jobs, k ∈ v.ubp.jobs)
    (hb : w.BuffersOk) (hparts : w.txns.map Txn.fixedPart = v.txns.map Txn.fixedPart) : s.Lost w where
  slots z hz hne := by rw [hdli]; exact h.slots z hz hne
  requests r hr := by
    rw [hdli]
    exact (h.requests r hr).imp id fun hw => hw.of_fixedPart (fun k hk => ⟨k, hjobs k hk, rfl⟩) hparts
  jobs k hk := h.jobs k (hjobs k hk)
  buffers := hb
  tags := by
    have hsame := congrArg (List.map Txn.tag) hparts
    rw [List.map_map, List.map_map] at hsame
    have hsame : w.txns.map Txn.tag = v.txns.map Txn.tag := hsame
    rw [State.TagsOk, hsame]
    exact h.tags

/-- The record that a failure has reached is not ACTIVE, and keeps the failure it has. -/
theorem failTxn_keeps_failure {t g : Fin 16} {f : Failure} {s : State} {y : Txn} (hy : s.txn? g = some y)
    (hfailure : y.failure = some f) (f' : Failure) : ∃ x, (failTxn t f' s).txn? g = some x ∧ x.failure = some f := by
  by_cases hgt : g = t
  · subst hgt
    rw [failTxn_of_inactive fun x hx => .inr ?_]
    · exact ⟨y, hy, hfailure⟩
    · rw [hy, Option.some.injEq] at hx
      simp [← hx, hfailure]
  · exact ⟨y, (failTxn_txn?_of_ne hgt f' s).trans hy, hfailure⟩

/-- A failure withdraws what the link held for the jobs it ends and for a FLUSH that was not issued (R60, R77). -/
theorem State.Lost.failTxn {s v : State} (h : s.Lost v) (hb : s.BuffersOk) (hok : s.RequestsOk) (t : Fin 16) :
    s.Lost (failTxn t (.volumeChanged .mediaLost) v) := by
  rcases failTxn_cases t (.volumeChanged .mediaLost) v with ⟨x, hx, hactive, hfresh⟩ | hsame
  swap
  · rwa [hsame]
  have hdli := failTxn_dli hx hactive hfresh (.volumeChanged .mediaLost)
  have hfrom := JobsFrom.failTxn t (.volumeChanged .mediaLost) v
  have hfailed := failTxn_txn? hx hactive hfresh (.volumeChanged .mediaLost)
  have hbufs := hfrom.buffers h.buffers
  have htags : (Machine.failTxn t (.volumeChanged .mediaLost) v).TagsOk := by rw [State.TagsOk, failTxn_tags]; exact h.tags
  have hjobs : ∀ k ∈ (Machine.failTxn t (.volumeChanged .mediaLost) v).ubp.jobs, ∃ j ∈ v.ubp.jobs, j.buf = k.buf ∧
      j.owner = k.owner ∧ j.SameOp k := by
    intro k hk
    rcases failTxn_jobs t (.volumeChanged .mediaLost) v with hsame | ⟨-, -, -, -, -, hsame⟩
    · exact ⟨k, hsame ▸ hk, rfl, rfl, .refl k⟩
    · rw [hsame, List.mem_filterMap] at hk
      obtain ⟨j, hj, hlot⟩ := hk
      exact ⟨j, hj, Job.lot_fields hlot⟩
  have hkept : ∀ r, s.WithdrawnWith v r → s.WithdrawnWith (Machine.failTxn t (.volumeChanged .mediaLost) v) r := fun r hr =>
    hr.mono (fun k hk => (hjobs k hk).imp fun _ h => ⟨h.1, h.2.1⟩) (fun y hy hphase => ⟨y, failTxn_active hy hphase, rfl, hphase⟩)
      fun f y hy hfailure => failTxn_keeps_failure hy hfailure _
  have hending : ∀ b ∈ v.endingBuffers t, ∃ j, s.job? b = some j ∧ j.owner = t ∧ j.state ≠ .mediaWrite ∧
      ∀ d, (j.state, j.pageOp) ≠ (.mediaRead, .issued d) := by
    intro b hmem
    obtain ⟨k, hk, hof, hends, rfl⟩ := State.mem_endingBuffers.1 hmem
    obtain ⟨j, hj, hbuf, howner, -, hstate, hop⟩ := h.jobs k hk
    simp only [Job.isOf, Bool.and_eq_true, beq_iff_eq] at hof
    refine ⟨j, hbuf ▸ State.job?_of_mem hb hj, howner.trans hof.1, fun hw => ?_, fun d hd => ?_⟩
    · simp [Job.atFailure, hstate.trans hw] at hends
    · obtain ⟨hr, hi⟩ := Prod.mk.inj hd
      simp [Job.atFailure, hstate.trans hr, hop.trans hi] at hends
  have hfound : (x.failed (.volumeChanged .mediaLost) (v.leaving x) (v.stillWaits t)).phase ≠ .active := by
    unfold Txn.failed
    cases v.stillWaits t <;> simp
  refine ⟨fun z hz hne => ?_, fun r hr => ?_, fun k hk => ?_, hbufs, htags⟩
  · have hmem := h.slots z hz hne
    rw [hdli]
    split
    · simp [withdrawSync, hmem]
    · split
      · refine List.mem_filter.2 ⟨hmem, ?_⟩
        cases howner : z.owner with
        | job b =>
          simp only [ownerIn, Bool.not_eq_true', List.contains_eq_mem, decide_eq_false_iff_not]
          intro hin
          obtain ⟨j, hj, -, hwrite, hread⟩ := hending b hin
          obtain ⟨i, hi, hop, hstate⟩ := hok.jobSlots z hz b howner
          obtain rfl := Option.some.inj (hj.symm.trans hi)
          rcases hstate with ⟨hstate, -⟩ | ⟨hstate, -⟩
          · exact hread z.dtag (by rw [hstate, hop])
          · exact hwrite hstate
        | flush f => rfl
        | sweep => rfl
        | nobody => rfl
      · exact hmem
  · rcases h.requests r hr with hmem | hgone
    swap
    · exact .inr (hkept r hgone)
    rw [hdli]
    split
    next hflush =>
      by_cases howner : r.owner = .flush t
      · exact .inr (.inr ⟨t, _, howner, hfailed, rfl⟩)
      · exact .inl (List.mem_filter.2 ⟨hmem, by simp [howner]⟩)
    next =>
      split
      next huser =>
        by_cases hin : ownerIn (v.endingBuffers t) r.owner = true
        · cases howner : r.owner with
          | job b =>
            rw [howner] at hin
            have hin : b ∈ v.endingBuffers t := by simpa [ownerIn] using hin
            obtain ⟨j, hj, hjowner, hwrite, -⟩ := hending b hin
            obtain ⟨i, hi, -, hstate⟩ := hok.jobRequests r hr b howner
            obtain rfl := Option.some.inj (hj.symm.trans hi)
            have hread : j.state = .mediaRead := by
              rcases hstate with ⟨hstate, -⟩ | ⟨hstate, -⟩
              · exact hstate
              · exact absurd hstate hwrite
            refine .inr (.inl ⟨b, j, howner, hj, hread, fun k hk hbuf => ?_, fun y hy htag => ?_⟩)
            · obtain ⟨k₀, hk₀, hof, hends, hbuf₀⟩ := State.mem_endingBuffers.1 hin
              rw [failTxn_jobs_user hx hactive hfresh huser, List.mem_filterMap] at hk
              obtain ⟨i, hi, hlot⟩ := hk
              obtain rfl := h.buffers.eq_of_buf hi hk₀ ((Job.lot_fields hlot).1.trans (hbuf.trans hbuf₀.symm))
              rw [if_pos hof, hends] at hlot
              cases hlot
            · have hyt := State.txn?_of_mem htags hy
              rw [htag, hjowner, hfailed, Option.some.injEq] at hyt
              exact hyt ▸ hfound
          | flush f => simp [howner, ownerIn] at hin
          | sweep => simp [howner, ownerIn] at hin
          | nobody => simp [howner, ownerIn] at hin
        · exact .inl (List.mem_filter.2 ⟨hmem, by simpa using hin⟩)
      next => exact .inl hmem
  · obtain ⟨j, hj, hbuf, howner, hunit, hstate, hop⟩ := hjobs k hk
    obtain ⟨i, hi, hbuf', howner', hunit', hstate', hop'⟩ := h.jobs j hj
    exact ⟨i, hi, hbuf'.trans hbuf, howner'.trans howner, hunit.trans hunit', hstate.trans hstate', hop.trans hop'⟩

theorem State.Lost.failAll {s v : State} (h : s.Lost v) (hb : s.BuffersOk) (hok : s.RequestsOk) (l : List Txn) :
    s.Lost (failAll (.volumeChanged .mediaLost) l v) := by
  induction l generalizing v with
  | nil => exact h
  | cons x l ih => exact ih (h.failTxn hb hok x.tag)

/-- The lock event of the loss (R93, R94). -/
theorem State.Lost.lockEvent {s v : State} (h : s.Lost v) (hb : s.BuffersOk) (hok : s.RequestsOk) :
    s.Lost (lockEvent .mediaLost v) := by
  have hstopped : s.Lost ((stopCipher v).setCe { key := none }) :=
    h.of_fixedPart (by simp) (fun k hk => stopCipher_jobs_mem v k hk) ((JobsFrom.stopCipher v).buffers h.buffers)
      (stopCipher_txns_fixedPart v)
  have hlocked : s.Lost (v.lockedTable .mediaLost) := by
    rw [State.lockedTable, failVolume_eq]
    exact hstopped.failAll hb hok _
  obtain ⟨hdli, hubp, -⟩ := lockEvent_table .mediaLost v
  exact hlocked.of_fixedPart hdli (fun k hk => hubp ▸ hk) (by rw [State.BuffersOk, hubp]; exact hlocked.buffers)
    (by rw [lockEvent_txns])

/-! ## What follows the loss -/

/-- A report of the media touches the sweep and what it asks for. -/
theorem reportMedia_link (s : State) : (reportMedia s).dli.slots = s.dli.slots ∧
    (∀ e ∈ s.dli.errors, e ∈ (reportMedia s).dli.errors) ∧
    (∀ r ∈ (reportMedia s).dli.requests, r ∈ s.dli.requests ∨ (r.owner = .sweep ∧ s.swu.discardOut = false)) ∧
    (s.swu.discardOut = true → (reportMedia s).swu.discardOut = true) := by
  have hsame : ∀ {t : State}, t.dli = s.dli → t.swu.discardOut = s.swu.discardOut → t.dli.slots = s.dli.slots ∧
      (∀ e ∈ s.dli.errors, e ∈ t.dli.errors) ∧
      (∀ r ∈ t.dli.requests, r ∈ s.dli.requests ∨ (r.owner = .sweep ∧ s.swu.discardOut = false)) ∧
      (s.swu.discardOut = true → t.swu.discardOut = true) := fun hdli hout =>
    ⟨by rw [hdli], fun e he => hdli ▸ he, fun r hr => .inl (hdli ▸ hr), fun h => hout.trans h⟩
  unfold reportMedia
  split
  swap
  · exact hsame rfl rfl
  unfold sweepReportOk
  split
  swap
  · exact hsame rfl rfl
  unfold makeDue
  split
  · exact hsame rfl rfl
  next hidle =>
    have hout : s.swu.discardOut = false := by simp only [not_or, Bool.not_eq_true] at hidle; exact hidle.1
    split
    · exact hsame rfl rfl
    · split
      · split
        · refine ⟨requestWindow_slots _ _ s, fun e he => ?_, fun r hr => ?_, fun h => by simp [hout] at h⟩
          · rw [requestWindow, makeRequest_dli]
            split
            · exact he
            · exact List.mem_append_left _ he
          · exact (makeRequest_requests _ _ (s.setSwu { s.swu with state := .issuing, discardOut := true }) hr).imp id
              fun h => ⟨h, hout⟩
        · exact hsame (by simp) (by simp [requestCursor])
      · exact hsame rfl rfl

theorem settle_errors {s : State} {e : PendingError} (h : e ∈ s.dli.errors) : e ∈ (settle s).dli.errors := by
  obtain ⟨l, hl, -⟩ := (settle_follows s).errors
  exact hl ▸ List.mem_append_left _ h

/-- What follows the loss gives no buffer to a transaction that has failed at it. -/
theorem State.Lost.completed {s v w : State} (h : s.Lost v) (herrors : ∀ e ∈ v.dli.errors, e ∈ w.dli.errors)
    (hjobs : w.ubp.jobs = v.ubp.jobs) (htxns : w.txns = v.txns) :
    (∀ z ∈ s.dli.slots, z.owner ≠ .nobody → { op := z.op, owner := z.owner, issued := true } ∈ (settle w).dli.errors) ∧
    ∀ r ∈ s.dli.requests, { op := r.op, owner := r.owner, issued := false } ∈ (settle w).dli.errors ∨
      (∃ b j, r.owner = .job b ∧ s.job? b = some j ∧ j.state = .mediaRead ∧
        ∀ k ∈ (settle w).ubp.jobs, k.buf = b → k.owner ≠ j.owner) ∨
      ∃ f y, r.owner = .flush f ∧ (settle w).txn? f = some y ∧ y.failure = some (.volumeChanged .mediaLost) := by
  refine ⟨fun z hz hne => settle_errors (herrors _ (h.slots z hz hne)), fun r hr => ?_⟩
  rcases h.requests r hr with hmem | ⟨b, j, howner, hj, hstate, hgone, hover⟩ | ⟨f, y, howner, hy, hfailure⟩
  · exact .inl (settle_errors (herrors _ hmem))
  · refine .inr (.inl ⟨b, j, howner, hj, hstate, fun k hk hbuf hk' => ?_⟩)
    rcases (settle_follows w).of_job hk with ⟨i, hi, hgoes⟩ | hstarted
    · exact hgone i (hjobs ▸ hi) (hgoes.fields.1.symm.trans hbuf)
    · obtain ⟨x, hx, htag, -, hactive⟩ := hstarted.owner
      exact hover x (htxns ▸ hx) (htag.trans hk') hactive
  · obtain ⟨x, hx, hxy⟩ := settle_txn?_some (s := w) ((State.txn?_congr htxns f).trans hy)
    obtain ⟨-, -, -, -, -, -, -, hfailure', -, -, -⟩ := Txn.fields_of_fixedPart hxy
    exact .inr (.inr ⟨f, x, howner, hx, hfailure'.trans hfailure⟩)

/-- The loss taken by the AC, with what follows, completes what the link held (R73). -/
theorem lossCompleted {s v w : State} (hac : v.ac = s.ac) (herrors : v.dli.errors = (loseMedia s).dli.errors)
    (hjobs : v.ubp.jobs = s.ubp.jobs) (htxns : v.txns = s.txns) (hkept : ∀ e ∈ (acLoss v).dli.errors, e ∈ w.dli.errors)
    (hwjobs : w.ubp.jobs = (acLoss v).ubp.jobs) (hwtxns : w.txns = (acLoss v).txns) : s.LossCompleted (settle w) := by
  have hoverlay : s.ac.presentation = .overlay → (acLoss v).dli = v.dli := by
    intro hpresented
    rw [acLoss, if_neg (by rw [hac, hpresented]; exact fun h => h rfl)]
    split <;> rfl
  have hunlocked : s.ac.presentation = .overlay →
      (∀ z ∈ s.dli.slots, z.owner ≠ .nobody → { op := z.op, owner := z.owner, issued := true } ∈ (settle w).dli.errors) ∧
      ∀ r ∈ s.dli.requests, { op := r.op, owner := r.owner, issued := false } ∈ (settle w).dli.errors := by
    intro hpresented
    have hin : ∀ e ∈ (loseMedia s).dli.errors, e ∈ (settle w).dli.errors := fun e he =>
      settle_errors (hkept e (by rw [hoverlay hpresented, herrors]; exact he))
    exact ⟨fun z hz hne => hin _ ((loseMedia_errors s).1 z hz hne), fun r hr => hin _ ((loseMedia_errors s).2 r hr)⟩
  refine ⟨hunlocked, fun htags hb hok => ?_⟩
  by_cases hpresented : s.ac.presentation = .overlay
  · exact ⟨(hunlocked hpresented).1, fun r hr => .inl ((hunlocked hpresented).2 r hr)⟩
  · have hlock : acLoss v = lockEvent .mediaLost v := by rw [acLoss, if_pos (by rw [hac]; exact hpresented)]
    rw [hlock] at hkept hwjobs hwtxns
    exact ((State.Lost.of_loss htags hb herrors hjobs htxns).lockEvent hb hok).completed hkept hwjobs hwtxns

theorem acLoss_requests (v : State) : ∀ r ∈ (acLoss v).dli.requests, r ∈ v.dli.requests := by
  have hall : ∀ (f : Failure) (l : List Txn) (u : State), ∀ r ∈ (failAll f l u).dli.requests, r ∈ u.dli.requests := by
    intro f l
    induction l with
    | nil => exact fun _ _ h => h
    | cons x l ih => exact fun u r hr => (failTxn_lists x.tag f u).1.mem (ih (failTxn x.tag f u) r hr)
  unfold acLoss
  split
  · intro r hr
    rw [(lockEvent_table .mediaLost v).1, State.lockedTable, failVolume_eq] at hr
    have hmem := hall _ _ _ r hr
    simpa using hmem
  · split
    · exact fun _ h => h
    · exact fun _ h => h

/-- Where an ACTIVE transfer on USER stands after a loss, OVERLAY was presented and no lock event was raised (R93, R94). -/
theorem acLoss_works {v : State} (htags : v.TagsOk) (hactive : v.ActiveOk) (h : (acLoss v).Works) :
    (acLoss v).ubp.jobs = v.ubp.jobs := by
  by_cases hpresented : v.ac.presentation = .overlay
  · rw [acLoss, if_neg (by simp [hpresented])]
    split <;> rfl
  · rw [acLoss, if_pos hpresented] at h
    obtain ⟨x, hx, huser, hphase⟩ := h
    exact absurd hphase (lockEvent_not_active .mediaLost htags hactive hx (x.isUserTransfer_iff.1 huser).2)

/-- After a loss what the link holds has been asked for since (R73). -/
theorem linkFreed {s v w : State} (hslots : v.dli.slots = []) (hrequests : v.dli.requests = [])
    (hswu : v.swu = s.swu) (hjobs : v.ubp.jobs = s.ubp.jobs) (htxns : v.txns = s.txns) (hw : w = reportMedia (acLoss v))
    (htags : s.TagsOk) (hok : s.RequestsOk) (hactive : s.ActiveOk) : s.LinkFreed (settle w) := by
  have hanswers := Answers.acLoss v
  obtain ⟨hwslots, -, hwrequests, hwout⟩ := reportMedia_link (acLoss v)
  have hsweep : s.swu.discardOut = true → w.swu.discardOut = true := fun h => by
    rw [hw]
    exact hwout (by rw [hanswers.swu, hswu]; exact h)
  have hwjobs : w.ubp.jobs = (acLoss v).ubp.jobs := by rw [hw]; simp
  have hwtxns : w.txns = (acLoss v).txns := by rw [hw]; simp
  have hfree : w.dli.slots = [] := by rw [hw, hwslots, hanswers.slots, hslots]
  have hworks : w.Works → w.ubp.jobs = s.ubp.jobs := fun h => by
    rw [hwjobs, acLoss_works (v := v) (by rw [State.TagsOk, htxns]; exact htags) (by rw [State.ActiveOk, htxns]; exact hactive)
      (by unfold State.Works at h ⊢; rwa [← hwtxns]), hjobs]
  have hnew : ∀ o : Owner, (o = .sweep ∧ s.swu.discardOut = false) ∨ w.Joins o → o ≠ .nobody ∧ o ∉ s.opOwners := by
    intro o ho
    rcases ho with ⟨rfl, hout⟩ | ⟨rfl, hout, -⟩ | ⟨b, rfl, hb, hworking⟩
    · exact ⟨by simp, fun hmem => by simp [hok.sweep hmem] at hout⟩
    · exact ⟨by simp, fun hmem => by simp [hsweep (hok.sweep hmem)] at hout⟩
    · refine ⟨by simp, fun hmem => ?_⟩
      have hheld : ∃ j, s.job? b = some j := by
        rcases (State.mem_opOwners.1 hmem).2 with ⟨r, hr, howner⟩ | ⟨z, hz, howner⟩ | ⟨e, he, howner⟩
        · exact (hok.jobRequests r hr b howner).imp fun _ h => h.1
        · exact (hok.jobSlots z hz b howner).imp fun _ h => h.1
        · exact (hok.jobErrors e he b howner).imp fun _ h => h.1
      obtain ⟨j, hj⟩ := hheld
      exact hb j (hworks hworking ▸ State.mem_of_job? hj) (State.buf_of_job? hj)
  have hasked : ∀ r ∈ w.dli.requests, r.owner = .sweep ∧ s.swu.discardOut = false := by
    intro r hr
    rw [hw] at hr
    rcases hwrequests r hr with hr | ⟨howner, hout⟩
    · have hnone := acLoss_requests v r hr
      simp [hrequests] at hnone
    · exact ⟨howner, by rw [← hswu, ← hanswers.swu]; exact hout⟩
  have hfollows := settle_follows w
  have hafter : ∀ o : Owner, (∃ z ∈ (settle w).dli.slots, z.owner = o) ∨ (∃ r ∈ (settle w).dli.requests, r.owner = o) →
      o ≠ .nobody ∧ o ∉ s.opOwners := by
    rintro o (⟨z, hz, rfl⟩ | ⟨r, hr, rfl⟩)
    · obtain ⟨l, hl, hfrom⟩ := hfollows.slots
      rw [hl, hfree, List.nil_append] at hz
      rcases hfrom z hz with ⟨r, hr, -, howner⟩ | hjoins
      · exact hnew _ (.inl (howner ▸ hasked r hr))
      · exact hnew _ (.inr hjoins)
    · rcases hfollows.requests r hr with hr | hjoins
      · exact hnew _ (.inl (hasked r hr))
      · exact hnew _ (.inr hjoins)
  intro o ho
  have hone : o ≠ .nobody → o ∈ s.opOwners := fun hne => by
    refine State.mem_opOwners.2 ⟨hne, ?_⟩
    rcases ho with ho | ho
    · exact .inr (.inl (by simpa using ho))
    · exact .inl (by simpa using ho)
  refine ⟨fun z hz hzo => ?_, fun r hr hro => ?_⟩
  · obtain ⟨hne, hnot⟩ := hafter o (.inl ⟨z, hz, hzo⟩)
    exact hnot (hone hne)
  · obtain ⟨hne, hnot⟩ := hafter o (.inr ⟨r, hr, hro⟩)
    exact hnot (hone hne)

/-! ## IDENT and MEDIA_LOST (R72, R73) -/

theorem exec_ident_powered {s : State} (hpower : s.power ≠ .off) (p : BitVec 32) (early : List Owner) :
    exec (.ident p early) s = .next (identTaken p early s) := by
  show execIdent p early s = _
  simp [execIdent, State.whenPowered, hpower]

theorem exec_mediaLost {s : State} (hpower : s.power ≠ .off) (early : List Owner) :
    exec (.mediaLost early) s = .next (mediaLost early s) := by
  show execMediaLost early s = _
  simp [execMediaLost, State.whenPowered, hpower]

theorem mediaLost_taken {s : State} (h : s.dli.media ≠ .absent) (early : List Owner) :
    mediaLost early s = settle (acLoss (takeEarly early (loseMedia s))) := by
  rw [mediaLost, if_neg h]

theorem identTaken_loss {s : State} {p : BitVec 32} (hmedia : s.dli.media = .ok)
    (hnew : p.toNat < 32768 ∨ s.dli.usable ≠ some (min p.toNat 536870912)) (early : List Owner) :
    identTaken p early s = settle (reportMedia (acLoss (takeEarly early (identify p (loseMedia s))))) := by
  rw [identTaken, if_pos hmedia, if_neg ?_]
  rintro ⟨hsame, hsome⟩
  unfold usablePages at hsame hsome
  split at hsame
  next h => simp [h] at hsome
  next h => exact hnew.elim (fun hp => h hp) fun hne => hne hsame.symm

theorem identTaken_refresh {s : State} {p : BitVec 32} (hmedia : s.dli.media = .ok) (hp : 32768 ≤ p.toNat)
    (hsame : s.dli.usable = some (min p.toNat 536870912)) (early : List Owner) : identTaken p early s = settle (identify p s) := by
  have husable : usablePages p.toNat = some (min p.toNat 536870912) := by
    rw [usablePages, if_neg (by omega)]
    rfl
  rw [identTaken, if_pos hmedia, if_pos ⟨by rw [husable, hsame], by rw [husable]; rfl⟩]

/-- The AC marks a loss seen by a verify for an unlock (R86). -/
theorem acLoss_seen {v : State} (hpresented : v.ac.presentation = .overlay) (hscope : v.ac.scope = some .unlock) :
    (acLoss v).ac = { v.ac with lossSeen := true } := by
  rw [acLoss, if_neg (by simp [hpresented]), if_pos hscope]
  rfl

/-- What IDENT gives (R4, R72). -/
theorem identTaken_gives (p : BitVec 32) (early : List Owner) (s : State) :
    (identTaken p early s).dli.reported = some p ∧
    (identTaken p early s).dli.usable = (if p.toNat < 32768 then none else some (min p.toNat 536870912)) ∧
    (identTaken p early s).dli.clamped = decide (536870912 < p.toNat) ∧
    (identTaken p early s).dli.media = (if p.toNat < 32768 then .unusable else .ok) ∧
    (identTaken p early s).dli.identWait = none := by
  have hpart := identTaken_mediaPart p early s
  have hreported := congrArg Dli.reported hpart
  have husable := congrArg Dli.usable hpart
  have hclamped := congrArg Dli.clamped hpart
  have hmedia := congrArg Dli.media hpart
  have hwait := congrArg Dli.identWait hpart
  exact ⟨hreported, husable, hclamped, hmedia, hwait⟩

/-- While the condition is OK and U the same, IDENT leaves what the link holds and the records (R72). -/
theorem identTaken_refresh_keeps {s : State} {p : BitVec 32} (hmedia : s.dli.media = .ok) (hp : 32768 ≤ p.toNat)
    (hsame : s.dli.usable = some (min p.toNat 536870912)) (early : List Owner) :
    (identTaken p early s).ac = s.ac ∧ (identTaken p early s).atr = s.atr ∧ (identTaken p early s).uli.attn = s.uli.attn ∧
    (∀ x ∈ s.dli.slots, x ∈ (identTaken p early s).dli.slots) ∧
    (∀ r ∈ s.dli.requests, (identTaken p early s).Asked r.op r.owner) ∧
    (identTaken p early s).txns.map (fun x => (x.tag, x.failure, x.phase, x.done)) =
      s.txns.map (fun x => (x.tag, x.failure, x.phase, x.done)) := by
  rw [identTaken_refresh hmedia hp hsame]
  refine ⟨by simp [identify], by simp [identify], by simp [identify], fun x hx => ?_, fun r hr => ?_, ?_⟩
  · obtain ⟨l, hl, -⟩ := (settle_follows (identify p s)).slots
    exact hl ▸ List.mem_append_left _ hx
  · exact settle_asked (.inl ⟨r, hr, rfl, rfl⟩)
  · have hparts : (settle (identify p s)).txns.map Txn.fixedPart = s.txns.map Txn.fixedPart := settle_fixedPart (identify p s)
    have hfields := congrArg (List.map (fun x : Txn => (x.tag, x.failure, x.phase, x.done))) hparts
    rw [List.map_map, List.map_map] at hfields
    exact hfields

/-- A resting sweep that nothing holds back makes its window due at a report of OK (R147). -/
theorem reportMedia_windowDue {v : State} {c u : Nat} (h : v.SweepRests c) (hmedia : v.dli.media = .ok)
    (husable : v.dli.usable = some u) : (settle (reportMedia v)).WindowDue c u := by
  have hdue : v.MayMakeDue c u := ⟨h.discardOut, h.writeOut, h.hold, hmedia, husable, h.cursor⟩
  rw [reportMedia, if_pos hmedia, sweepReportOk, if_pos ⟨h.state, h.hold⟩]
  exact hdue.windowDue.1

/-- IDENT that reports the condition OK anew resumes the sweep (R147). -/
theorem identTaken_resumes {s : State} {p : BitVec 32} (early : List Owner) (hp : 32768 ≤ p.toNat)
    (hnew : s.dli.media ≠ .ok ∨ s.dli.usable ≠ some (min p.toNat 536870912)) (hstate : s.swu.state = .paused)
    (hhold : s.swu.hold = false) (hout : s.swu.discardOut = false) (hwrite : s.swu.writeOut = false)
    (hnone : .sweep ∉ s.opOwners) {c : Nat} (hc : s.swu.cursor = some c) :
    (identTaken p early s).WindowDue c (min p.toNat 536870912) := by
  have herrors : ∀ e ∈ s.dli.errors, e.owner ≠ .sweep := fun e he howner =>
    hnone (State.mem_opOwners.2 ⟨by simp, .inr (.inr ⟨e, he, howner⟩)⟩)
  have husable : usablePages p.toNat = some (min p.toNat 536870912) := by
    rw [usablePages, if_neg (by omega)]
    rfl
  have hcondition : identMedia p.toNat = .ok := by rw [identMedia, if_neg (by omega)]
  by_cases hmedia : s.dli.media = .ok
  · rw [identTaken_loss hmedia (hnew.imp (fun h => absurd hmedia h) id)]
    have hrests : (identify p (loseMedia s)).SweepRests c := by
      refine ⟨hstate, hhold, hout, hwrite, hc, fun e he howner => ?_⟩
      have he : e ∈ s.dli.errors ++ _ ++ _ := he
      rcases List.mem_append.1 he with he | he
      · rcases List.mem_append.1 he with he | he
        · exact herrors e he howner
        · obtain ⟨z, hz, rfl⟩ := List.mem_map.1 he
          exact hnone (State.mem_opOwners.2 ⟨by simp, .inr (.inl ⟨z, (List.mem_filter.1 hz).1, howner⟩)⟩)
      · obtain ⟨r, hr, rfl⟩ := List.mem_map.1 he
        exact hnone (State.mem_opOwners.2 ⟨by simp, .inl ⟨r, hr, howner⟩⟩)
    have hpart : (acLoss (takeEarly early (identify p (loseMedia s)))).dli.mediaPart = (identify p (loseMedia s)).dli.mediaPart := by
      simp
    obtain ⟨hm, hu, -⟩ := Dli.fields_of_mediaPart_eq hpart
    exact reportMedia_windowDue ((hrests.takeEarly early).of_answers (.acLoss _)) (hm.trans hcondition) (hu.trans husable)
  · rw [identTaken, if_neg hmedia]
    exact reportMedia_windowDue (v := identify p s) ⟨hstate, hhold, hout, hwrite, hc, herrors⟩ hcondition husable

theorem loseMedia_shut (s : State) : (loseMedia s).LinkShut := ⟨by simp [loseMedia], rfl, rfl⟩

/-- MEDIA_LOST empties the link (R73). -/
theorem mediaLost_shut {s : State} (h : s.dli.media ≠ .absent) (early : List Owner) : (mediaLost early s).LinkShut := by
  rw [mediaLost_taken h]
  exact (((loseMedia_shut s).takeEarly early).answers (.acLoss _)).settle

/-- IDENT with P below 32,768 while OK empties the link (R72). -/
theorem identTaken_shut {s : State} {p : BitVec 32} (hmedia : s.dli.media = .ok) (hp : p.toNat < 32768) (early : List Owner) :
    (identTaken p early s).LinkShut := by
  rw [identTaken_loss hmedia (.inl hp)]
  have hidentified : (identify p (loseMedia s)).LinkShut := ⟨by simp [identify, identMedia, hp], rfl, rfl⟩
  have hshut := (hidentified.takeEarly early).answers (.acLoss _)
  rw [reportMedia, if_neg hshut.1]
  exact hshut.settle

/-- Settles O44: what IDENT gives, keeps and resumes, and what a loss leaves of the link. -/
theorem identAndMediaLost : Obligations.IdentAndMediaLost := by
  intro s early hpower
  refine ⟨fun p => ⟨_, exec_ident_powered hpower p early, ?_⟩, fun hpresent => ⟨_, exec_mediaLost hpower early, ?_⟩, fun hpresent =>
    ⟨_, exec_mediaLost hpower [], ?_⟩, fun p hmedia hnew => ⟨⟨_, exec_ident_powered hpower p early, fun hp => ?_, fun hpresented hscope => ?_⟩,
      _, exec_ident_powered hpower p [], ?_, fun htags _ hok hactive => ?_⟩, fun habsent => ?_⟩
  · obtain ⟨hreported, husable, hclamped, hmedia, hwait⟩ := identTaken_gives p early s
    exact ⟨hreported, husable, hclamped, hmedia, hwait, fun hok hp hsame => identTaken_refresh_keeps hok hp hsame early,
      fun hp hnew _ hstate hhold hout hwrite hnone c hc =>
        identTaken_resumes early hp hnew hstate hhold hout hwrite hnone hc⟩
  · obtain ⟨-, hrequests, hslots⟩ := mediaLost_shut hpresent early
    have hpart : (mediaLost early s).dli.mediaPart = (loseMedia s).dli.mediaPart := by simp [mediaLost_taken hpresent]
    have hmedia := congrArg Dli.media hpart
    have hreported := congrArg Dli.reported hpart
    have husable := congrArg Dli.usable hpart
    have hclamped := congrArg Dli.clamped hpart
    refine ⟨hmedia, hslots, hrequests, hreported, husable, hclamped, mediaLost_identWait early hpresent, fun hpresented hscope => ?_⟩
    have hac : (takeEarly early (loseMedia s)).ac = s.ac := by simp [loseMedia]
    rw [mediaLost_taken hpresent, (settle_frame _).2.2.2.1, acLoss_seen (by rw [hac]; exact hpresented) (by rw [hac]; exact hscope),
      hac]
    exact ⟨rfl, rfl, rfl⟩
  · rw [mediaLost_taken hpresent]
    exact lossCompleted (v := loseMedia s) rfl rfl rfl rfl (fun _ h => h) rfl rfl
  · obtain ⟨-, hrequests, hslots⟩ := identTaken_shut hmedia hp early
    exact ⟨hslots, hrequests⟩
  · have hac : (takeEarly early (identify p (loseMedia s))).ac = s.ac := by simp [loseMedia, identify]
    have hreport : ∀ v : State, (reportMedia v).ac = v.ac := fun v => by simp
    rw [identTaken_loss hmedia hnew, (settle_frame _).2.2.2.1, hreport,
      acLoss_seen (by rw [hac]; exact hpresented) (by rw [hac]; exact hscope), hac]
    exact ⟨rfl, rfl, rfl⟩
  · rw [identTaken_loss hmedia hnew]
    exact lossCompleted (v := identify p (loseMedia s)) rfl rfl rfl rfl (reportMedia_link _).2.1 (by simp [takeEarly]) (by simp [takeEarly])
  · rw [identTaken_loss hmedia hnew]
    exact linkFreed (v := identify p (loseMedia s)) rfl rfl rfl rfl rfl rfl htags hok hactive
  · rw [exec_mediaLost hpower, mediaLost, if_pos habsent]

end Sys2Proof.Machine


/-! PROOF. The entries that edit the stack (R89, R106, R107, R108, R111, R113): digits, SHIFT_TAPs and command keys. -/

namespace Sys2Proof.Machine

open Sys2Proof

/-! ## An entry taken (R106) -/

/-- The state less the entry at the head of the FIFO. -/
def State.popped (s : State) (rest : List KeyEntry) : State := s.setKps { s.kps with fifo := rest }

@[simp] theorem State.popped_frame (s : State) (rest : List KeyEntry) : (s.popped rest).ac = s.ac ∧
    (s.popped rest).ecp = s.ecp ∧ (s.popped rest).cu = s.cu ∧ (s.popped rest).ce = s.ce ∧ (s.popped rest).ks = s.ks ∧
    (s.popped rest).ind = s.ind ∧ (s.popped rest).swu = s.swu ∧ (s.popped rest).dli = s.dli ∧
    (s.popped rest).kps.fifo = rest ∧ (s.popped rest).draws = s.draws :=
  ⟨rfl, rfl, rfl, rfl, rfl, rfl, rfl, rfl, rfl, rfl⟩

theorem KeyEntry.Is.unflagged {e : KeyEntry} {k : EntryKey} {sh : Bool} (h : e.Is k sh) : e.flagged = false := by
  simp [KeyEntry.flagged, h.2.2.1, h.2.2.2]

/-- The end of the event in which the ECP has taken an entry: what `u` holds, with the timers that the entry reloads. -/
theorem settle_afterTake (u : State) :
    (settle (afterTake u)).ecp = { u.ecp with timer := if u.composing && u.ecp.ready then some 100 else none } ∧
    (settle (afterTake u)).ac = { u.ac with admin := if u.ac.access = .adminSession then some 300 else u.ac.admin } ∧
    (settle (afterTake u)).kps = u.kps ∧ (settle (afterTake u)).cu = u.cu ∧ (settle (afterTake u)).ce = u.ce := by
  simp

theorem exec_digit {s : State} {e : KeyEntry} {rest : List KeyEntry} (h : s.TakesEntry e rest) {d : Digit} {sh : Bool}
    (he : e.Is (.digit d) sh) (htable : sh = true → s.ecp.adminTable = false) :
    exec (if sh then .shiftedDigitTaken else .digitTaken) s = .next (settle (afterTake (digitEntry d (s.popped rest)))) := by
  have hflagged := he.unflagged
  obtain ⟨hkey, hshifted, -⟩ := he
  cases sh with
  | false =>
    exact (State.whenRunning_of_running h.1 _).trans (congrArg _ (takeEntry_of_takes h (by simp [hkey, hflagged, hshifted])))
  | true =>
    exact (State.whenRunning_of_running h.1 _).trans
      (congrArg _ (takeEntry_of_takes h (by simp [hkey, hflagged, hshifted, htable])))

theorem exec_shiftTapTaken {s : State} {e : KeyEntry} {rest : List KeyEntry} (h : s.TakesEntry e rest)
    (he : e.Is .shiftTap false) : exec .shiftTapTaken s = .next (settle (afterTake (tapTaken (s.popped rest)))) :=
  (State.whenRunning_of_running h.1 _).trans
    (congrArg _ (takeEntry_of_takes h (by simp [he.1, he.unflagged])))

theorem exec_commandKey {s : State} {e : KeyEntry} {rest : List KeyEntry} (h : s.TakesEntry e rest) {d : Digit}
    (he : e.Is (.digit d) true) (htable : s.ecp.adminTable = true) :
    exec .shiftedDigitTaken s = .next (settle (afterTake (selectCommand d (s.popped rest)))) :=
  (State.whenRunning_of_running h.1 _).trans
    (congrArg _ (takeEntry_of_takes h (by simp [he.1, he.2.1, he.unflagged, htable])))

theorem exec_key {s : State} {e : KeyEntry} {rest : List KeyEntry} (h : s.TakesEntry e rest) {sh : Bool} (he : e.Is .key sh) :
    exec (if sh then .shiftedKeyTaken else .keyTaken) s = .next (settle (afterTake (keyEntry sh (s.popped rest)))) := by
  have hflagged := he.unflagged
  obtain ⟨hkey, hshifted, -⟩ := he
  cases sh <;>
    exact (State.whenRunning_of_running h.1 _).trans (congrArg _ (takeEntry_of_takes h (by simp [hkey, hflagged, hshifted])))

/-! ## The stack (R107) -/

theorem push_ecp (d : Digit) (s : State) : (push d s).ecp = if s.ecp.stack.length < 15
    then { s.ecp with stack := s.ecp.stack ++ [d] } else { s.ecp with overlong := true } := by
  unfold push
  split <;> rfl

/-- An entry under the base table pushes in the sub-states of R111. -/
theorem digitEntry_base (d : Digit) {s : State} (h : s.ecp.adminTable = false) :
    digitEntry d s = if s.ac.access.pushes then push d s else s := by
  simp [digitEntry, h]

theorem digitEntry_admin (d : Digit) {s : State} (h : s.ecp.adminTable = true) :
    digitEntry d s = if s.ecp.command.isSome then push d s else s := by
  simp [digitEntry, h]

theorem tapTaken_eq (s : State) : tapTaken s = if (s.ecp.adminTable = true ∧ s.ecp.command.isSome) ∨
    (s.ecp.adminTable = false ∧ s.ac.access.pushes = true) then pop s else s := by
  unfold tapTaken
  cases htable : s.ecp.adminTable <;> simp

/-- Where digits are pushed the ECP is composing while it holds one (R108). -/
theorem State.composing_of_pushes {s : State} (h : s.ac.access.pushes = true) (hstack : s.ecp.stack ≠ []) :
    s.composing = true := by
  unfold State.composing
  cases haccess : s.ac.access <;> simp [haccess, Access.pushes] at h ⊢
  all_goals exact hstack

theorem State.composing_of_session {s : State} (h : s.ac.access = .adminSession) : s.composing = s.ecp.command.isSome := by
  simp [State.composing, h]

theorem State.composing_of_entry {s : State} (h : s.ac.access = .lockedEntry ∨ s.ac.access = .lockedAdminEntry ∨
    s.ac.access = .blankRepeat ∨ s.ac.access = .change) : s.composing = true := by
  unfold State.composing
  rcases h with h | h | h | h <;> rw [h]

theorem State.composing_of_keyed {s : State} (h : s.ac.access = .blankFirst ∨ s.ac.access = .presented) :
    s.composing = !s.ecp.stack.isEmpty := by
  unfold State.composing
  rcases h with h | h <;> rw [h]

/-! ## The four kinds of entry -/

/-- A digit under the base table (R107, R111). -/
theorem digit_base {s : State} {e : KeyEntry} {rest : List KeyEntry} (h : s.TakesEntry e rest) {d : Digit} {sh : Bool}
    (he : e.Is (.digit d) sh) (htable : s.ecp.adminTable = false) :
    ∃ t, exec (if sh then .shiftedDigitTaken else .digitTaken) s = .next t ∧ t.kps.fifo = rest ∧
      t.ac.access = s.ac.access ∧ t.ecp.copy = s.ecp.copy ∧
      (s.ac.access.pushes = true → s.ecp.stack.length < 15 → t.ecp.stack = s.ecp.stack ++ [d] ∧
        t.ecp.overlong = s.ecp.overlong ∧ t.ecp.timer = some 100) ∧
      (s.ac.access.pushes = true → 15 ≤ s.ecp.stack.length → t.ecp.stack = s.ecp.stack ∧
        t.ecp.overlong = true ∧ t.ecp.timer = some 100) ∧
      (s.ac.access.pushes = false → t.ecp.stack = s.ecp.stack ∧ t.ecp.overlong = s.ecp.overlong) := by
  refine ⟨_, exec_digit h he fun _ => htable, ?_⟩
  have hready : s.ecp.ready = true := h.2.1
  obtain ⟨hac, hkps⟩ : (digitEntry d (s.popped rest)).ac = (s.popped rest).ac ∧
      (digitEntry d (s.popped rest)).kps = (s.popped rest).kps := ⟨by simp, by simp⟩
  obtain ⟨hecp, htac, htkps, -⟩ := settle_afterTake (digitEntry d (s.popped rest))
  rw [hecp, htac, htkps, hac, hkps]
  rw [digitEntry_base d (by exact htable)]
  refine ⟨rfl, rfl, ?_, fun hpushes hroom => ?_, fun hpushes hfull => ?_, fun hnone => ?_⟩
  · split
    · rw [push_ecp]
      split <;> rfl
    · rfl
  · have hpushed : (push d (s.popped rest)).ecp = { s.ecp with stack := s.ecp.stack ++ [d] } := by
      rw [push_ecp, if_pos (by exact hroom)]
      rfl
    rw [if_pos (by exact hpushes), State.composing_of_pushes (by simpa using hpushes) (by simp [hpushed]), hpushed]
    exact ⟨rfl, rfl, by simp [hready]⟩
  · have hpushed : (push d (s.popped rest)).ecp = { s.ecp with overlong := true } := by
      rw [push_ecp, if_neg (by exact Nat.not_lt.2 hfull)]
      rfl
    have hheld : s.ecp.stack ≠ [] := fun hnil => by simp [hnil] at hfull
    rw [if_pos (by exact hpushes), State.composing_of_pushes (by simpa using hpushes) (by simpa [hpushed] using hheld), hpushed]
    exact ⟨rfl, rfl, by simp [hready]⟩
  · rw [if_neg (by simp [hnone])]
    exact ⟨rfl, rfl⟩

/-- A digit under the admin table (R113). -/
theorem digit_admin {s : State} {e : KeyEntry} {rest : List KeyEntry} (h : s.TakesEntry e rest) {d : Digit}
    (he : e.Is (.digit d) false) (htable : s.ecp.adminTable = true) : ∃ t, exec .digitTaken s = .next t ∧
      t.kps.fifo = rest ∧ t.ac.access = s.ac.access ∧ t.ecp.command = s.ecp.command ∧
      t.ecp.stack = (if s.ecp.command.isSome ∧ s.ecp.stack.length < 15 then s.ecp.stack ++ [d] else s.ecp.stack) ∧
      (t.ecp.overlong = true ↔ s.ecp.overlong = true ∨ (s.ecp.command.isSome = true ∧ 15 ≤ s.ecp.stack.length)) ∧
      (s.ac.access = .adminSession → t.ecp.timer = if s.ecp.command.isSome then some 100 else none) ∧
      (s.ac.access = .adminSession → t.ac.admin = some 300) := by
  refine ⟨_, exec_digit h he (by simp), ?_⟩
  have hready : s.ecp.ready = true := h.2.1
  obtain ⟨hac, hkps⟩ : (digitEntry d (s.popped rest)).ac = (s.popped rest).ac ∧
      (digitEntry d (s.popped rest)).kps = (s.popped rest).kps := ⟨by simp, by simp⟩
  obtain ⟨hecp, htac, htkps, -⟩ := settle_afterTake (digitEntry d (s.popped rest))
  have hpushed : (digitEntry d (s.popped rest)).ecp = if s.ecp.command.isSome then
      (if s.ecp.stack.length < 15 then { s.ecp with stack := s.ecp.stack ++ [d] } else { s.ecp with overlong := true })
      else s.ecp := by
    rw [digitEntry_admin d (by exact htable)]
    by_cases hpending : s.ecp.command.isSome = true
    · rw [if_pos (by exact hpending), if_pos hpending, push_ecp]
      rfl
    · rw [if_neg (by exact hpending), if_neg hpending]
      rfl
  have hcommand : (digitEntry d (s.popped rest)).ecp.command = s.ecp.command := by
    rw [hpushed]
    (repeat' split) <;> rfl
  refine ⟨by rw [htkps, hkps]; rfl, by rw [htac, hac]; rfl, by rw [hecp]; exact hcommand, ?_, ?_, fun hsession => ?_,
    fun hsession => ?_⟩
  · rw [hecp, hpushed]
    by_cases hpending : s.ecp.command.isSome = true
    · by_cases hroom : s.ecp.stack.length < 15 <;> simp [hpending, hroom]
    · simp [hpending]
  · rw [hecp, hpushed]
    by_cases hpending : s.ecp.command.isSome = true
    · by_cases hroom : s.ecp.stack.length < 15
      · simp [hpending, hroom, Nat.not_le.2 hroom]
      · simp [hpending, hroom, Nat.not_lt.1 hroom]
    · simp [hpending]
  · have hready' : (digitEntry d (s.popped rest)).ecp.ready = true := by
      rw [hpushed]
      (repeat' split) <;> exact hready
    rw [hecp, State.composing_of_session (by rw [hac]; exact hsession), hcommand, hready', Bool.and_true]
  · rw [htac, hac]
    simp [hsession]

/-- SHIFT_TAP (R107, R108, R111, R113). -/
theorem shiftTap_taken {s : State} {e : KeyEntry} {rest : List KeyEntry} (h : s.TakesEntry e rest)
    (he : e.Is .shiftTap false) : ∃ t, exec .shiftTapTaken s = .next t ∧ t.kps.fifo = rest ∧
      t.ac.access = s.ac.access ∧ t.ecp.overlong = s.ecp.overlong ∧
      t.ecp.stack = (if (s.ecp.adminTable = true ∧ s.ecp.command.isSome) ∨
        (s.ecp.adminTable = false ∧ s.ac.access.pushes = true) then s.ecp.stack.dropLast else s.ecp.stack) ∧
      (s.ecp.adminTable = false → s.ac.access = .blankFirst ∨ s.ac.access = .presented →
        t.ecp.timer = if 2 ≤ s.ecp.stack.length then some 100 else none) ∧
      (s.ac.access = .lockedEntry ∨ s.ac.access = .lockedAdminEntry ∨ s.ac.access = .blankRepeat ∨
        s.ac.access = .change → t.ecp.timer = some 100) ∧
      (s.ac.access = .adminSession → t.ac.admin = some 300 ∧
        t.ecp.timer = if s.ecp.command.isSome then some 100 else none) := by
  refine ⟨_, exec_shiftTapTaken h he, ?_⟩
  have hready : s.ecp.ready = true := h.2.1
  have htap : (tapTaken (s.popped rest)).ac = s.ac ∧ (tapTaken (s.popped rest)).kps.fifo = rest ∧
      (tapTaken (s.popped rest)).ecp = { s.ecp with stack := if (s.ecp.adminTable = true ∧ s.ecp.command.isSome) ∨
        (s.ecp.adminTable = false ∧ s.ac.access.pushes = true) then s.ecp.stack.dropLast else s.ecp.stack } := by
    rw [tapTaken_eq]
    by_cases htakes : (s.ecp.adminTable = true ∧ s.ecp.command.isSome) ∨ (s.ecp.adminTable = false ∧ s.ac.access.pushes = true)
    · rw [if_pos (by exact htakes), if_pos htakes]
      exact ⟨rfl, rfl, rfl⟩
    · rw [if_neg (by exact htakes), if_neg htakes]
      exact ⟨rfl, rfl, rfl⟩
  obtain ⟨u, hu⟩ : ∃ u, u = tapTaken (s.popped rest) := ⟨_, rfl⟩
  rw [← hu] at htap ⊢
  obtain ⟨hac, hfifo, hecp⟩ := htap
  obtain ⟨htecp, htac, htkps, -⟩ := settle_afterTake u
  have hready' : u.ecp.ready = true := by rw [hecp]; exact hready
  refine ⟨by rw [htkps, hfifo], by rw [htac, hac], by rw [htecp, hecp], by rw [htecp, hecp], fun htable hkeyed => ?_, fun hentry => ?_,
    fun hsession => ⟨by rw [htac, hac]; simp [hsession], ?_⟩⟩
  · have hpushes : s.ac.access.pushes = true := by rcases hkeyed with h | h <;> rw [h] <;> rfl
    have hstack : u.ecp.stack = s.ecp.stack.dropLast := by rw [hecp]; simp [htable, hpushes]
    have hempty : u.ecp.stack.isEmpty = !decide (2 ≤ s.ecp.stack.length) := by
      rw [hstack, Bool.eq_iff_iff]
      simp only [List.isEmpty_iff, ← List.length_eq_zero_iff, List.length_dropLast, Bool.not_eq_true', decide_eq_false_iff_not]
      omega
    rw [htecp, State.composing_of_keyed (by rw [hac]; exact hkeyed), hready', Bool.and_true, hempty]
    by_cases hlength : 2 ≤ s.ecp.stack.length <;> simp [hlength]
  · rw [htecp, State.composing_of_entry (by rw [hac]; exact hentry), hready']
    rfl
  · rw [htecp, State.composing_of_session (by rw [hac]; exact hsession), hready', hecp, Bool.and_true]

/-- A shifted digit under the admin table (R113). -/
theorem commandKey_taken {s : State} {e : KeyEntry} {rest : List KeyEntry} (h : s.TakesEntry e rest) {d : Digit}
    (he : e.Is (.digit d) true) (htable : s.ecp.adminTable = true) (hsession : s.ac.access = .adminSession) :
    ∃ t, exec .shiftedDigitTaken s = .next t ∧ t.kps.fifo = rest ∧ t.ac.access = .adminSession ∧
      t.ac.admin = some 300 ∧ t.ecp.command = (if d = 0 then none else some d) ∧
      (d ≠ 0 ∨ s.ecp.command.isSome → t.ecp.stack = [] ∧ t.ecp.copy = none ∧ t.ecp.overlong = false) ∧
      (d ≠ 0 → t.ecp.timer = some 100) := by
  refine ⟨_, exec_commandKey h he htable, ?_⟩
  have hready : s.ecp.ready = true := h.2.1
  have hselects : (selectCommand d (s.popped rest)).ac = s.ac ∧ (selectCommand d (s.popped rest)).kps.fifo = rest ∧
      (selectCommand d (s.popped rest)).ecp.ready = true ∧
      (selectCommand d (s.popped rest)).ecp.command = (if d = 0 then none else some d) ∧
      (d ≠ 0 ∨ s.ecp.command.isSome → (selectCommand d (s.popped rest)).ecp.stack = [] ∧
        (selectCommand d (s.popped rest)).ecp.copy = none ∧ (selectCommand d (s.popped rest)).ecp.overlong = false) := by
    unfold selectCommand
    by_cases hd : d = 0
    · rw [if_pos hd, if_pos hd]
      split
      next => exact ⟨rfl, rfl, hready, rfl, fun _ => ⟨rfl, rfl, rfl⟩⟩
      next hnone =>
        have hnone : s.ecp.command = none := by simpa using hnone
        exact ⟨rfl, rfl, hready, hnone, fun hsome => by simp [hd, hnone] at hsome⟩
    · rw [if_neg hd, if_neg hd]
      exact ⟨rfl, rfl, hready, rfl, fun _ => ⟨rfl, rfl, rfl⟩⟩
  obtain ⟨u, hu⟩ : ∃ u, u = selectCommand d (s.popped rest) := ⟨_, rfl⟩
  rw [← hu] at hselects ⊢
  obtain ⟨hac, hfifo, hready', hcommand, hcleared⟩ := hselects
  obtain ⟨htecp, htac, htkps, -⟩ := settle_afterTake u
  refine ⟨by rw [htkps, hfifo], by rw [htac, hac]; exact hsession, by rw [htac, hac]; simp [hsession], by rw [htecp]; exact hcommand,
    fun hd => by rw [htecp]; exact hcleared hd, fun hd => ?_⟩
  rw [htecp, State.composing_of_session (by rw [hac]; exact hsession), hready', hcommand, if_neg hd]
  rfl

/-- Settles O49: digits under either table, SHIFT_TAPs and command keys. -/
theorem entriesEditStack : Obligations.EntriesEditStack := by
  intro s e rest h
  exact ⟨fun d sh c he hc htable => hc ▸ digit_base h he htable, fun d he htable => digit_admin h he htable,
    fun he => shiftTap_taken h he, fun d he htable hsession => commandKey_taken h he htable hsession⟩

end Sys2Proof.Machine


/-! PROOF. KEY and shifted KEY (R83, R84, R89, R92, R111, R116): entries begun, the checks of a submission, the hand-over of a
verify, and the change asked for. -/

namespace Sys2Proof.Machine

open Sys2Proof

theorem givesNone_afterTake {s u : State} (hind : u.ind = s.ind) (hheld : u.ac.held = s.ac.held) :
    s.GivesNone (settle (afterTake u)) :=
  givesNone_settle (t := afterTake u) (by simp [hind]) (by simp [hheld])

/-! ## A verify handed over (R106, R125) -/

/-- The hand-over starts a verify of this kind on these digits. -/
def Handover.Starts (h : Handover) (k : VerifyKind) (d : List Digit) : Prop :=
  ∀ u : State, takeHandover h u = startVerify k d none none u

theorem Handover.starts_unlock (d : List Digit) : (Handover.unlock d).Starts .unlock d := fun _ => rfl
theorem Handover.starts_admin (d : List Digit) : (Handover.admin d).Starts .admin d := fun _ => rfl
theorem Handover.starts_eraseConfirm (d : List Digit) : (Handover.eraseConfirm d).Starts .eraseConfirm d := fun _ => rfl

theorem handOver_verify {h : Handover} {k : VerifyKind} {d : List Digit} (hh : h.Starts k d) (s : State) :
    (handOver h s).ac = s.ac ∧ (handOver h s).ind = s.ind ∧ (handOver h s).ks = s.ks ∧
    (handOver h s).ecp = { s.ecp with
      ready := false, stack := [], overlong := false, copy := none, command := none, timer := none } ∧
    (s.cu.work = .idle → (handOver h s).cu = { s.cu with
      work := .verify, kind := some k, digits := some d, target := none, result := none, purpose := none, task := .idle }) := by
  unfold handOver
  by_cases hidle : s.cu.work = .idle
  · rw [if_pos (by exact hidle), hh]
    exact ⟨rfl, rfl, rfl, rfl, fun _ => rfl⟩
  · rw [if_neg (by exact hidle)]
    exact ⟨rfl, rfl, rfl, rfl, fun h => absurd h hidle⟩

/-! ## The submissions (R84) -/

theorem State.submissionFault_format {s : State} (h : s.ecp.stack.length < 7 ∨ s.ecp.overlong = true) (admin : Bool) :
    s.submissionFault admin = some .format := by
  rw [State.submissionFault, if_pos h]

theorem State.submissionFault_wellFormed {s : State} (hlength : 7 ≤ s.ecp.stack.length) (hover : s.ecp.overlong = false) :
    s.submissionFault true = none ∧ s.submissionFault false =
      if s.swu.state ≠ .idle ∨ s.ks.dev.fields.erasePending ∨ s.dli.media ≠ .ok then some .refused else none := by
  have hwell : ¬ (s.ecp.stack.length < 7 ∨ s.ecp.overlong = true) := by simp [hover]; omega
  exact ⟨by rw [State.submissionFault, if_neg hwell, if_pos rfl], by rw [State.submissionFault, if_neg hwell, if_neg (by simp)]⟩

/-- A submission that fails a check goes back to LOCKED.IDLE with the verdict (R84). -/
theorem submit_faulty {s : State} {admin : Bool} {v : Verdict} (h : s.submissionFault admin = some v) :
    submit admin s = showVerdict v (moveTo .lockedIdle s) := by
  rw [submit, h]

theorem submit_unlock {s : State} (h : s.submissionFault false = none) : submit false s =
    handOver (.unlock s.ecp.stack) ((enter .lockedVerifying s).setAc
      { (enter .lockedVerifying s).ac with scope := some .unlock, lossSeen := false }) := by
  rw [submit, h]
  rfl

theorem submit_admin {s : State} (h : s.submissionFault true = none) : submit true s =
    handOver (.admin s.ecp.stack) ((enter .lockedAdminVerifying s).setAc
      { (enter .lockedAdminVerifying s).ac with scope := some .admin }) := by
  rw [submit, h]
  rfl

/-- What a move that gives a verdict leaves at the end of an entry (R99, R110). -/
theorem settle_verdictMove {s u : State} (hac : u.ac = s.ac) (hind : u.ind = s.ind) (hcu : u.cu = s.cu) (a : Access) (v : Verdict) :
    (settle (afterTake (showVerdict v (moveTo a u)))).ac.access = a ∧
    s.Gives (settle (afterTake (showVerdict v (moveTo a u)))) v ∧
    (settle (afterTake (showVerdict v (moveTo a u)))).cu.work = s.cu.work ∧
    (settle (afterTake (showVerdict v (moveTo a u)))).ecp.stack = [] ∧
    (settle (afterTake (showVerdict v (moveTo a u)))).ecp.overlong = false :=
  ⟨by simp, .afterTake (gives_showVerdict v (by simp [hind]) (by simp [hac]) (by simp [hac])), by simp [hcu], by simp, by simp⟩

/-- An unlock submitted (R84). -/
theorem submit_unlock_settled {s u : State} (hac : u.ac = s.ac) (hind : u.ind = s.ind) (hcu : u.cu = s.cu) (hecp : u.ecp = s.ecp)
    (hfault : u.submissionFault false = none) :
    (settle (afterTake (submit false u))).ac.access = .lockedVerifying ∧
    (settle (afterTake (submit false u))).ac.scope = some .unlock ∧ (settle (afterTake (submit false u))).ac.lossSeen = false ∧
    (settle (afterTake (submit false u))).ecp.ready = false ∧ (settle (afterTake (submit false u))).ecp.stack = [] ∧
    (settle (afterTake (submit false u))).ecp.overlong = false ∧ s.GivesNone (settle (afterTake (submit false u))) ∧
    (s.cu.work = .idle → (settle (afterTake (submit false u))).cu.work = .verify ∧
      (settle (afterTake (submit false u))).cu.kind = some .unlock ∧
      (settle (afterTake (submit false u))).cu.digits = some s.ecp.stack) := by
  obtain ⟨hhac, hhind, -, hhecp, hhcu⟩ := handOver_verify (Handover.starts_unlock u.ecp.stack) ((enter .lockedVerifying u).setAc
      { (enter .lockedVerifying u).ac with scope := some .unlock, lossSeen := false })
  rw [← submit_unlock hfault] at hhac hhind hhecp hhcu
  obtain ⟨htecp, htac, -, htcu, -⟩ := settle_afterTake (submit false u)
  refine ⟨by simp [hhac], by simp [hhac], by simp [hhac], by simp [hhecp], by simp [hhecp],
    by simp [hhecp], givesNone_afterTake (by simp [hhind, hind]) (by simp [hhac, hac]), fun hidle => ?_⟩
  rw [htcu, hhcu (by simp [hcu, hidle])]
  exact ⟨rfl, rfl, by rw [hecp]⟩

/-- An admin PIN submitted (R84). -/
theorem submit_admin_settled {s u : State} (hcu : u.cu = s.cu) (hecp : u.ecp = s.ecp) (hfault : u.submissionFault true = none) :
    (settle (afterTake (submit true u))).ac.access = .lockedAdminVerifying ∧
    (settle (afterTake (submit true u))).ac.scope = some .admin ∧
    (settle (afterTake (submit true u))).ecp.ready = false ∧ (settle (afterTake (submit true u))).ecp.stack = [] ∧
    (settle (afterTake (submit true u))).ecp.overlong = false ∧
    (s.cu.work = .idle → (settle (afterTake (submit true u))).cu.work = .verify ∧
      (settle (afterTake (submit true u))).cu.kind = some .admin ∧
      (settle (afterTake (submit true u))).cu.digits = some s.ecp.stack) := by
  obtain ⟨hhac, -, -, hhecp, hhcu⟩ := handOver_verify (Handover.starts_admin u.ecp.stack) ((enter .lockedAdminVerifying u).setAc
      { (enter .lockedAdminVerifying u).ac with scope := some .admin })
  rw [← submit_admin hfault] at hhac hhecp hhcu
  obtain ⟨htecp, htac, -, htcu, -⟩ := settle_afterTake (submit true u)
  refine ⟨by simp [hhac], by simp [hhac], by simp [hhecp], by simp [hhecp], by simp [hhecp],
    fun hidle => ?_⟩
  rw [htcu, hhcu (by simp [hcu, hidle])]
  exact ⟨rfl, rfl, by rw [hecp]⟩

/-- Settles O50, a conjunct for each sub-state in which KEY can come. -/
theorem keySubmits : Obligations.KeySubmits := by
  intro s e rest sh c h he hc
  obtain ⟨u, hu⟩ : ∃ u, u = s.popped rest := ⟨_, rfl⟩
  have hready : s.ecp.ready = true := h.2.1
  have hexec := exec_key h he
  rw [← hc, ← hu] at hexec
  obtain ⟨hac, hecp, hcu, hce, hks, hind, hswu, hdli, hfifo, -⟩ := s.popped_frame rest
  rw [← hu] at hac hecp hcu hce hks hind hswu hdli hfifo
  clear hu
  have hbase : s.ecp.adminTable = false → keyEntry sh u = baseKey sh u := fun htable => by simp [keyEntry, hecp, htable]
  refine ⟨_, hexec, by simp [hfifo], fun htable haccess => ?_, fun htable haccess => ⟨fun hfault => ?_, fun hlength hover hheld => ?_,
    fun hlength hover hidle herase hmedia => ?_⟩, fun htable haccess => ⟨fun hfault => ?_, fun hlength hover => ?_⟩,
    fun htable haccess hstack => ?_, fun htable haccess hstack hshifted i hi => ?_, fun htable haccess => ?_,
    fun htable hnone => ?_⟩
  · have hkey : keyEntry sh u = moveTo (if sh then .lockedAdminEntry else .lockedEntry) u := by
      rw [hbase htable, baseKey, hac, haccess]
    rw [hkey]
    refine ⟨by simp, by simp, by simp, ?_, givesNone_afterTake (by simp [hind]) (by simp [hac])⟩
    rw [(settle_afterTake _).1, State.composing_of_entry (by cases sh <;> simp)]
    simp [hecp, hready]
  · have hkey : keyEntry sh u = showVerdict .format (moveTo .lockedIdle u) := by
      rw [hbase htable, baseKey, hac, haccess]
      exact submit_faulty (State.submissionFault_format (by rw [hecp]; exact hfault) false)
    rw [hkey]
    exact settle_verdictMove hac hind hcu _ _
  · have hkey : keyEntry sh u = showVerdict .refused (moveTo .lockedIdle u) := by
      rw [hbase htable, baseKey, hac, haccess]
      refine submit_faulty ?_
      rw [(State.submissionFault_wellFormed (by rw [hecp]; exact hlength) (by rw [hecp]; exact hover)).2,
        if_pos (by rw [hswu, hks, hdli]; exact hheld)]
    rw [hkey]
    exact settle_verdictMove hac hind hcu _ _
  · have hkey : keyEntry sh u = submit false u := by rw [hbase htable, baseKey, hac, haccess]
    have hfault : u.submissionFault false = none := by
      rw [(State.submissionFault_wellFormed (by rw [hecp]; exact hlength) (by rw [hecp]; exact hover)).2,
        if_neg (by rw [hswu, hks, hdli]; simp [hidle, herase, hmedia])]
    rw [hkey]
    exact submit_unlock_settled hac hind hcu hecp hfault
  · have hkey : keyEntry sh u = showVerdict .format (moveTo .lockedIdle u) := by
      rw [hbase htable, baseKey, hac, haccess]
      exact submit_faulty (State.submissionFault_format (by rw [hecp]; exact hfault) true)
    rw [hkey]
    exact settle_verdictMove hac hind hcu _ _
  · have hkey : keyEntry sh u = submit true u := by rw [hbase htable, baseKey, hac, haccess]
    rw [hkey]
    exact submit_admin_settled hcu hecp
      (State.submissionFault_wellFormed (by rw [hecp]; exact hlength) (by rw [hecp]; exact hover)).1
  · have hkey : keyEntry sh u = showVerdict .format (moveTo .presented u) := by
      rw [hbase htable, baseKey, hac, haccess]
      dsimp only
      rw [if_pos (by rw [hecp]; exact hstack), cancelWith, cancel, hac, haccess]
      rfl
    rw [hkey]
    obtain ⟨haccess', hgives, -, hstack', hover'⟩ := settle_verdictMove hac hind hcu .presented .format
    exact ⟨haccess', hstack', hover', hgives, by simp [hce, Access.unlocked]⟩
  · have hkey : keyEntry sh u = if i = 7 then showVerdict .refused (clearComposition u) else moveTo .change u := by
      rw [hbase htable, baseKey, hac, haccess]
      dsimp only
      rw [if_neg (by rw [hecp, hstack]; simp), if_pos hshifted, changeRequest, hac, hi]
    rw [hkey]
    refine ⟨by split <;> simp, by split <;> simp, fun hne => ?_, fun heq => ?_⟩
    · rw [if_neg hne]
      refine ⟨by simp, ?_⟩
      rw [(settle_afterTake _).1, State.composing_of_entry (by simp)]
      simp [hecp, hready]
    · rw [if_pos heq]
      exact ⟨by simp [hac, haccess], .afterTake (gives_showVerdict _ (by simp [hind]) (by simp [hac]) (by simp [hac]))⟩
  · have hkey : keyEntry sh u = u := by
      rw [hbase htable, baseKey, hac]
      rcases haccess with h | h | h <;> rw [h]
    have hcomposing : u.composing = false := by
      unfold State.composing
      rw [hac]
      rcases haccess with h | h | h <;> rw [h]
    have hnotSession : s.ac.access ≠ .adminSession := by rcases haccess with h | h | h <;> simp [h]
    rw [hkey]
    obtain ⟨htecp, htac, -, htcu, htce⟩ := settle_afterTake u
    rw [htecp, htac, htcu, htce, hcomposing, hac, hecp, if_neg hnotSession]
    exact ⟨rfl, rfl, hcu, hce, givesNone_afterTake hind (by rw [hac])⟩
  · have hkey : keyEntry sh u = moveTo .lockedIdle u := by simp [keyEntry, hecp, htable, adminKey, hnone]
    rw [hkey]
    simp

end Sys2Proof.Machine


/-! PROOF. A PIN taken twice (R112, R114, R115, R131): the checks of the first entry, the copy, and the second entry handed
over. -/

namespace Sys2Proof.Machine

open Sys2Proof

/-! ## The checks of a first entry (R112) -/

theorem uniform_iff (l : List Digit) : uniform l = true ↔ ∀ a ∈ l, ∀ b ∈ l, a = b := by
  cases l with
  | nil => simp [uniform]
  | cons d l =>
    simp only [uniform, List.all_eq_true, beq_iff_eq]
    refine ⟨fun h a ha b hb => ?_, fun h e he => h e (List.mem_cons_of_mem _ he) d List.mem_cons_self⟩
    have hsame : ∀ e ∈ d :: l, e = d := fun e he => (List.mem_cons.1 he).elim id (h e)
    rw [hsame a ha, hsame b hb]

theorem risingRun_iff (l : List Digit) : risingRun l = true ↔ l.IsChain (fun a b => b.val = a.val + 1) := by
  induction l with
  | nil => simp [risingRun]
  | cons a l ih =>
    cases l with
    | nil => simp [risingRun]
    | cons b l => rw [risingRun, Bool.and_eq_true, decide_eq_true_iff, ih, List.isChain_cons_cons]

theorem fallingRun_iff (l : List Digit) : fallingRun l = true ↔ l.IsChain (fun a b => b.val + 1 = a.val) := by
  induction l with
  | nil => simp [fallingRun]
  | cons a l ih =>
    cases l with
    | nil => simp [fallingRun]
    | cons b l => rw [fallingRun, Bool.and_eq_true, decide_eq_true_iff, ih, List.isChain_cons_cons]

theorem firstEntryFault_format {l : List Digit} {long : Bool} (h : l.length < 7 ∨ long = true) :
    firstEntryFault l long = some .format := if_pos h

theorem firstEntryFault_refused {l : List Digit} (hlength : 7 ≤ l.length) (h : (∀ a ∈ l, ∀ b ∈ l, a = b) ∨
    l.IsChain (fun a b => b.val = a.val + 1) ∨ l.IsChain (fun a b => b.val + 1 = a.val)) :
    firstEntryFault l false = some .refused := by
  rw [← uniform_iff, ← risingRun_iff, ← fallingRun_iff] at h
  rw [firstEntryFault, if_neg (by simp; omega)]
  split
  · rfl
  next hvaried => rw [if_pos (h.resolve_left hvaried)]

theorem firstEntryFault_none {l : List Digit} (hlength : 7 ≤ l.length) (hvaried : ¬ ∀ a ∈ l, ∀ b ∈ l, a = b)
    (hrising : ¬ l.IsChain (fun a b => b.val = a.val + 1)) (hfalling : ¬ l.IsChain (fun a b => b.val + 1 = a.val)) :
    firstEntryFault l false = none := by
  rw [← uniform_iff] at hvaried
  rw [← risingRun_iff] at hrising
  rw [← fallingRun_iff] at hfalling
  rw [firstEntryFault, if_neg (by simp; omega), if_neg hvaried, if_neg (by simp [hrising, hfalling])]

/-! ## A composition that ends with a verdict (R109, R112, R115) -/

/-- From `s` to `t` the composition has ended with the verdict `v`, and the CU has been asked for nothing. -/
structure State.EndsWith (s t : State) (v : Verdict) : Prop where
  gives : s.Gives t v
  stack : t.ecp.stack = []
  overlong : t.ecp.overlong = false
  copy : t.ecp.copy = none
  command : t.ecp.command = none
  ready : t.ecp.ready = s.ecp.ready
  access : t.ac.access = s.ac.access.restingPlace
  admin : s.ac.access = .adminSession → t.ac.admin = some 300
  cu : s.ac.access = .adminSession → t.cu = s.cu
  asks : s.NoCuWrite t

/-- The state in which the ECP interprets an entry is `s`, but for the FIFO. -/
structure State.Interprets (s u : State) : Prop where
  ac : u.ac = s.ac
  ecp : u.ecp = s.ecp
  cu : u.cu = s.cu
  ce : u.ce = s.ce
  ks : u.ks = s.ks
  ind : u.ind = s.ind
  draws : u.draws = s.draws

theorem State.popped_interprets (s : State) (rest : List KeyEntry) : s.Interprets (s.popped rest) :=
  ⟨rfl, rfl, rfl, rfl, rfl, rfl, rfl⟩

theorem State.Interprets.cred {s u : State} (h : s.Interprets u) : u.cred = s.cred := by
  funext i
  rw [State.cred, h.ks]
  rfl

theorem settle_cancelWith {s u : State} (h : s.Interprets u) (v : Verdict) : s.EndsWith (settle (afterTake (cancelWith v u))) v where
  gives := .afterTake (gives_showVerdict v (by simp [cancel, h.ind]) (by simp [cancel, h.ac]) (by simp [cancel, h.ac]))
  stack := by simp [cancelWith, cancel]
  overlong := by simp [cancelWith, cancel]
  copy := by simp [cancelWith, cancel]
  command := by simp [cancelWith, cancel]
  ready := by simp [cancelWith, cancel, h.ecp]
  access := by simp [cancelWith, cancel, h.ac]
  admin hsession := by simp [cancelWith, cancel, h.ac, hsession, Access.restingPlace]
  cu hsession := by simp [cancelWith, cancel, h.ac, h.cu, hsession, Access.restingPlace]
  asks := settle_onlySweepAsks ⟨[], by simp [cancelWith, cancel, h.ks], by simp⟩

/-! ## Work handed over by the ECP (R106) -/

/-- The state with the ECP WAITING for the CU. -/
def State.handedOver (s : State) : State :=
  s.setEcp { s.ecp with ready := false, stack := [], overlong := false, copy := none, command := none, timer := none }

theorem handOver_of_idle {s : State} (h : s.cu.work = .idle) (o : Handover) : handOver o s = takeHandover o s.handedOver := if_pos h

theorem handOver_of_busy {s : State} (h : s.cu.work ≠ .idle) (o : Handover) :
    handOver o s = s.handedOver.setCu { s.handedOver.cu with waiting := some o } := if_neg h

/-- What the end of a command in SESSION leaves (R89, R132). -/
theorem reportEnd_session {s : State} (v : Verdict) (hovertaken : s.cu.overtaken = false) (hsession : s.ac.access = .adminSession) :
    reportEnd v s = showVerdict v ((clearComposition (ecpReady (cuIdle s))).setAc
      { (clearComposition (ecpReady (cuIdle s))).ac with admin := some 300 }) := by
  rw [reportEnd, hovertaken, hsession]
  rfl

/-- The command ends in SESSION with a verdict, the CU done. -/
theorem settle_reportEnd_session {s u : State} (h : s.Interprets u) (hovertaken : s.cu.overtaken = false)
    (hsession : s.ac.access = .adminSession) (v : Verdict) :
    s.Gives (settle (afterTake (reportEnd v u.handedOver))) v ∧ (settle (afterTake (reportEnd v u.handedOver))).CuDone ∧
    s.NoCuWrite (settle (afterTake (reportEnd v u.handedOver))) ∧
    (settle (afterTake (reportEnd v u.handedOver))).ac.access = .adminSession ∧
    (settle (afterTake (reportEnd v u.handedOver))).ecp.copy = none ∧
    (settle (afterTake (reportEnd v u.handedOver))).ecp.command = none := by
  have hover' : u.handedOver.cu.overtaken = false := by
    rw [State.handedOver]
    simpa [h.cu] using hovertaken
  have hsession' : u.handedOver.ac.access = .adminSession := by
    rw [State.handedOver]
    simpa [h.ac] using hsession
  rw [reportEnd_session v hover' hsession']
  refine ⟨.afterTake (gives_showVerdict v ?_ ?_ ?_), ⟨?_, ?_⟩, settle_onlySweepAsks ⟨[], ?_, by simp⟩, ?_, ?_, ?_⟩ <;>
    simp [State.handedOver, cuIdle, ecpReady, h.ind, h.ac, h.ks, hsession]

/-! ## The first and the second entry (R112) -/

/-- The entry after which the composition stands with its copy. -/
theorem firstEntry_copied {s : State} (h : firstEntryFault s.ecp.stack s.ecp.overlong = none) :
    (firstEntry s).ecp.copy = some s.ecp.stack ∧ (firstEntry s).ecp.stack = [] ∧ (firstEntry s).ecp.overlong = false ∧
    (firstEntry s).ecp.command = s.ecp.command ∧ (firstEntry s).ecp.ready = s.ecp.ready ∧ (firstEntry s).ind = s.ind ∧
    (firstEntry s).ac.held = s.ac.held ∧
    (firstEntry s).ac.access = (if s.ac.access = .blankFirst then .blankRepeat else s.ac.access) := by
  have hfirst : firstEntry s = if s.ac.access = .blankFirst
      then enter .blankRepeat (s.setEcp { s.ecp with copy := some s.ecp.stack, stack := [], overlong := false })
      else s.setEcp { s.ecp with copy := some s.ecp.stack, stack := [], overlong := false } := by
    rw [firstEntry, h]
  rw [hfirst]
  by_cases hblank : s.ac.access = .blankFirst
  · rw [if_pos hblank, if_pos hblank]
    simp
  · rw [if_neg hblank, if_neg hblank]
    exact ⟨rfl, rfl, rfl, rfl, rfl, rfl, rfl, rfl⟩

/-- The sub-state, or the command pending in SESSION, takes a PIN twice, for this purpose (R112). -/
def State.TakesPin (s : State) (p : EnrolFor) : Prop :=
  (s.ecp.adminTable = false ∧ (s.ac.access = .blankFirst ∨ s.ac.access = .blankRepeat) ∧ p = .blank) ∨
  (s.ecp.adminTable = false ∧ s.ac.access = .change ∧ p = .change) ∨
  (s.ecp.adminTable = true ∧ s.ac.access = .adminSession ∧ ((s.ecp.command = some 1 ∧ p = .userSlot) ∨
    (s.ecp.command = some 6 ∧ p = .recovery) ∨ (s.ecp.command = some 7 ∧ p = .adminPin)))

theorem State.takesPin_of {s : State} (h : (s.ecp.adminTable = false ∧
      (s.ac.access = .blankFirst ∨ s.ac.access = .blankRepeat ∨ s.ac.access = .change)) ∨
    (s.ecp.adminTable = true ∧ s.ac.access = .adminSession ∧
      (s.ecp.command = some 1 ∨ s.ecp.command = some 6 ∨ s.ecp.command = some 7))) : ∃ p, s.TakesPin p := by
  rcases h with ⟨htable, h | h | h⟩ | ⟨htable, hsession, h | h | h⟩
  · exact ⟨.blank, .inl ⟨htable, .inl h, rfl⟩⟩
  · exact ⟨.blank, .inl ⟨htable, .inr h, rfl⟩⟩
  · exact ⟨.change, .inr (.inl ⟨htable, h, rfl⟩)⟩
  · exact ⟨.userSlot, .inr (.inr ⟨htable, hsession, .inl ⟨h, rfl⟩⟩)⟩
  · exact ⟨.recovery, .inr (.inr ⟨htable, hsession, .inr (.inl ⟨h, rfl⟩)⟩)⟩
  · exact ⟨.adminPin, .inr (.inr ⟨htable, hsession, .inr (.inr ⟨h, rfl⟩)⟩)⟩

theorem keyEntry_of_takesPin {s u : State} (hu : s.Interprets u) {p : EnrolFor} (h : s.TakesPin p) (sh : Bool) :
    keyEntry sh u = pinEntry p u := by
  rw [keyEntry, hu.ecp]
  rcases h with ⟨htable, haccess, rfl⟩ | ⟨htable, haccess, rfl⟩ | ⟨htable, -, ⟨hc, rfl⟩ | ⟨hc, rfl⟩ | ⟨hc, rfl⟩⟩
  · rw [htable, if_neg (by simp), baseKey, hu.ac]
    rcases haccess with h | h <;> rw [h]
  · rw [htable, if_neg (by simp), baseKey, hu.ac, haccess]
  all_goals
    rw [htable, if_pos rfl, adminKey, hu.ecp, hc]
    rfl

/-- The purpose goes by the sub-state, in SESSION by the command (R112, R114). -/
theorem State.TakesPin.purpose {s : State} {p : EnrolFor} (h : s.TakesPin p) :
    (s.ac.access = .blankFirst ∨ s.ac.access = .blankRepeat → p = .blank) ∧ (s.ac.access = .change → p = .change) ∧
    (s.ac.access = .adminSession → (s.ecp.command = some 6 → p = .recovery) ∧ (s.ecp.command = some 7 → p = .adminPin) ∧
      (s.ecp.command = some 1 → p = .userSlot)) := by
  rcases h with ⟨-, h | h, rfl⟩ | ⟨-, h, rfl⟩ | ⟨-, h, ⟨hc, rfl⟩ | ⟨hc, rfl⟩ | ⟨hc, rfl⟩⟩ <;> simp [h]
  all_goals simp [hc]

/-- While a PIN is taken the entry timer runs behind the copy (R108). -/
theorem State.TakesPin.composing {s u : State} {p : EnrolFor} (h : s.TakesPin p)
    (haccess : u.ac.access = (if s.ac.access = .blankFirst then .blankRepeat else s.ac.access))
    (hcommand : u.ecp.command = s.ecp.command) : u.composing = true := by
  rcases h with ⟨-, hplace | hplace, -⟩ | ⟨-, hplace, -⟩ | ⟨-, hsession, hc⟩
  · exact State.composing_of_entry (.inr (.inr (.inl (by rw [haccess, if_pos hplace]))))
  · exact State.composing_of_entry (.inr (.inr (.inl (by rw [haccess, hplace]; rfl))))
  · exact State.composing_of_entry (.inr (.inr (.inr (by rw [haccess, hplace]; rfl))))
  · rw [State.composing_of_session (by rw [haccess, hsession]; rfl), hcommand]
    rcases hc with ⟨hc, -⟩ | ⟨hc, -⟩ | ⟨hc, -⟩ <;> simp [hc]

/-! ## What an end of the CU's work leaves of the composition -/

theorem reportEnd_keeps_cleared (v : Verdict) {s : State} (hstack : s.ecp.stack = []) (hlong : s.ecp.overlong = false) :
    (reportEnd v s).ecp.stack = [] ∧ (reportEnd v s).ecp.overlong = false := by
  unfold reportEnd
  dsimp only
  split
  · exact ⟨hstack, hlong⟩
  · split <;> simp [ecpReady, cuIdle, hstack, hlong]

theorem reportEnd_keeps_session (v : Verdict) {s : State} (h : s.ac.access = .adminSession) :
    (reportEnd v s).ac.access = .adminSession := by
  unfold reportEnd
  dsimp only
  split
  · exact h
  · rw [h]
    simp [ecpReady, cuIdle, h]

/-- The work handed over leaves the composition cleared, and SESSION where it was. -/
theorem handOver_enrol_cleared (p : EnrolFor) (c : List Digit) (u : State) :
    (handOver (.enrol p c) u).ecp.stack = [] ∧ (handOver (.enrol p c) u).ecp.overlong = false ∧
    (u.ac.access = .adminSession → (handOver (.enrol p c) u).ac.access = .adminSession) := by
  by_cases hidle : u.cu.work = .idle
  · rw [handOver_of_idle hidle]
    unfold takeHandover
    dsimp only
    split
    · exact ⟨rfl, rfl, id⟩
    · obtain ⟨hstack, hlong⟩ := reportEnd_keeps_cleared .refused (s := u.handedOver) rfl rfl
      exact ⟨hstack, hlong, fun h => reportEnd_keeps_session .refused h⟩
  · rw [handOver_of_busy hidle]
    exact ⟨rfl, rfl, id⟩

/-- An enrolment handed over to an idle CU with its target (R125, R131). -/
theorem settle_handOver_enrol {s u : State} (h : s.Interprets u) (hidle : s.cu.work = .idle) {p : EnrolFor} {i : Fin 8}
    (htarget : s.enrolTarget p = some i) (c : List Digit) :
    (settle (afterTake (handOver (.enrol p c) u))).ecp.ready = false ∧
    (settle (afterTake (handOver (.enrol p c) u))).ecp.copy = none ∧
    (settle (afterTake (handOver (.enrol p c) u))).ecp.command = none ∧
    (settle (afterTake (handOver (.enrol p c) u))).ac.access = s.ac.access ∧
    (settle (afterTake (handOver (.enrol p c) u))).cu.work = .verify ∧
    (settle (afterTake (handOver (.enrol p c) u))).cu.kind = some .enrol ∧
    (settle (afterTake (handOver (.enrol p c) u))).cu.digits = some c ∧
    (settle (afterTake (handOver (.enrol p c) u))).cu.target = some i ∧
    (settle (afterTake (handOver (.enrol p c) u))).cu.purpose = some p := by
  have htarget' : u.handedOver.enrolTarget p = some i := by
    rw [← htarget]
    cases p <;> simp [State.enrolTarget, State.handedOver, State.emptyUserSlot, State.cred, h.ac, h.ks]
  have hstart : handOver (.enrol p c) u = startVerify .enrol c (some i) (some p) u.handedOver := by
    rw [handOver_of_idle (by rw [h.cu]; exact hidle), takeHandover, htarget']
  obtain ⟨htecp, htac, -, htcu, -⟩ := settle_afterTake (handOver (.enrol p c) u)
  rw [htecp, htac, htcu, hstart]
  exact ⟨rfl, rfl, rfl, by show u.ac.access = _; rw [h.ac], rfl, rfl, rfl, rfl, rfl⟩

/-! ## The target of an enrolment (R131) -/

theorem find?_of_ascending {l : List (Fin 8)} (hl : l.Pairwise (· < ·)) {p : Fin 8 → Bool} {i : Fin 8} (hi : i ∈ l)
    (hp : p i = true) (hbelow : ∀ j ∈ l, j < i → p j = false) : l.find? p = some i := by
  induction l with
  | nil => simp at hi
  | cons a l ih =>
    obtain ⟨hlow, hl⟩ := List.pairwise_cons.1 hl
    rcases List.mem_cons.1 hi with rfl | hi
    · exact List.find?_cons_of_pos hp
    · rw [List.find?_cons_of_neg (by simp [hbelow a List.mem_cons_self (hlow i hi)])]
      exact ih hl hi fun j hj => hbelow j (List.mem_cons_of_mem _ hj)

theorem mem_userSlots {i : Fin 8} : i ∈ ([1, 2, 3, 4, 5, 6] : List (Fin 8)) ↔ 1 ≤ i.val ∧ i.val ≤ 6 := by
  revert i
  decide

/-- The lowest-numbered EMPTY user slot is the target of command 1. -/
theorem State.emptyUserSlot_eq {s : State} {i : Fin 8} (hlow : 1 ≤ i.val) (hhigh : i.val ≤ 6) (hempty : (s.cred i).status = .empty)
    (hbelow : ∀ j : Fin 8, 1 ≤ j.val → j.val < i.val → (s.cred j).status ≠ .empty) : s.emptyUserSlot = some i :=
  find?_of_ascending (by decide) (mem_userSlots.2 ⟨hlow, hhigh⟩) (by simpa using hempty) fun j hj hji => by
    simpa using hbelow j (mem_userSlots.1 hj).1 hji

theorem State.emptyUserSlot_none {s : State} (h : ∀ i : Fin 8, 1 ≤ i.val → i.val ≤ 6 → (s.cred i).status ≠ .empty) :
    s.emptyUserSlot = none :=
  List.find?_eq_none.2 fun i hi => by
    obtain ⟨hlow, hhigh⟩ := mem_userSlots.1 hi
    simpa using h i hlow hhigh

theorem State.emptyUserSlot_isSome {s : State} (h : ∃ i : Fin 8, 1 ≤ i.val ∧ i.val ≤ 6 ∧ (s.cred i).status = .empty) :
    ∃ i, s.emptyUserSlot = some i := by
  obtain ⟨i, hlow, hhigh, hempty⟩ := h
  refine Option.isSome_iff_exists.1 (List.find?_isSome.2 ⟨i, mem_userSlots.2 ⟨hlow, hhigh⟩, ?_⟩)
  simpa using hempty

/-- Where it has one, the target of the enrolment. -/
theorem State.TakesPin.target {s : State} {p : EnrolFor} (h : s.TakesPin p)
    (hslot : s.ac.access = .change → s.ac.sessionSlot.isSome = true)
    (hempty : s.ac.access = .adminSession → s.ecp.command = some 1 →
      ∃ i : Fin 8, 1 ≤ i.val ∧ i.val ≤ 6 ∧ (s.cred i).status = .empty) : ∃ i, s.enrolTarget p = some i := by
  rcases h with ⟨-, -, rfl⟩ | ⟨-, hchange, rfl⟩ | ⟨-, hsession, ⟨hc, rfl⟩ | ⟨-, rfl⟩ | ⟨-, rfl⟩⟩
  · exact ⟨0, rfl⟩
  · exact Option.isSome_iff_exists.1 (hslot hchange)
  · exact State.emptyUserSlot_isSome (hempty hsession hc)
  · exact ⟨7, rfl⟩
  · exact ⟨0, rfl⟩

/-- An enrolment handed over without a target is refused (R131). -/
theorem handOver_untargeted {s u : State} (h : s.Interprets u) (hidle : s.cu.work = .idle) {p : EnrolFor}
    (hnone : s.enrolTarget p = none) (c : List Digit) : handOver (.enrol p c) u = reportEnd .refused u.handedOver := by
  have hnone' : u.handedOver.enrolTarget p = none := by
    rw [← hnone]
    cases p <;> simp [State.enrolTarget, State.handedOver, State.emptyUserSlot, State.cred, h.ac, h.ks]
  rw [handOver_of_idle (by rw [h.cu]; exact hidle), takeHandover, hnone']

/-- Settles O51: the first entry by its checks, the second by the copy and its target. -/
theorem pinTakenTwice : Obligations.PinTakenTwice := by
  intro s e rest sh c h he hc hplace
  obtain ⟨p, hpin⟩ := State.takesPin_of hplace
  have hready : s.ecp.ready = true := h.2.1
  obtain ⟨u, hu⟩ : ∃ u, u = s.popped rest := ⟨_, rfl⟩
  have hi : s.Interprets u := hu ▸ s.popped_interprets rest
  have hexec := exec_key h he
  rw [← hc, ← hu, keyEntry_of_takesPin hi hpin sh] at hexec
  refine ⟨_, hexec, ?_⟩
  have hfirst : s.ecp.copy = none → pinEntry p u = firstEntry u := fun hcopy => by rw [pinEntry, hi.ecp, hcopy]
  have hfault : ∀ v, s.ecp.copy = none → firstEntryFault s.ecp.stack s.ecp.overlong = some v →
      s.EndsWith (settle (afterTake (pinEntry p u))) v := fun v hcopy hv => by
    have hcancel : pinEntry p u = cancelWith v u := by rw [hfirst hcopy, firstEntry, hi.ecp, hv]
    rw [hcancel]
    exact settle_cancelWith hi v
  have hmismatch : ∀ q, s.ecp.copy = some q → (s.ecp.overlong = true ∨ s.ecp.stack ≠ q) →
      s.EndsWith (settle (afterTake (pinEntry p u))) .refused := fun q hcopy hne => by
    have hcancel : pinEntry p u = cancelWith .refused u := by
      rw [pinEntry, hi.ecp, hcopy]
      exact if_neg (by rcases hne with h | h <;> simp [h])
    rw [hcancel]
    exact settle_cancelWith hi _
  have hmatch : ∀ q, s.ecp.copy = some q → s.ecp.overlong = false → s.ecp.stack = q →
      pinEntry p u = handOver (.enrol p q) u := fun q hcopy hlong hstack => by
    rw [pinEntry, hi.ecp, hcopy]
    exact if_pos ⟨hlong, hstack⟩
  have hcopied : s.ecp.copy = none → firstEntryFault s.ecp.stack s.ecp.overlong = none →
      (firstEntry u).ecp.copy = some s.ecp.stack ∧ (firstEntry u).ecp.stack = [] ∧ (firstEntry u).ecp.overlong = false ∧
      (firstEntry u).ecp.command = s.ecp.command ∧ (firstEntry u).ecp.ready = s.ecp.ready ∧ (firstEntry u).ind = s.ind ∧
      (firstEntry u).ac.held = s.ac.held ∧
      (firstEntry u).ac.access = (if s.ac.access = .blankFirst then .blankRepeat else s.ac.access) := fun _ hnone => by
    have hcopies := firstEntry_copied (s := u) (by rw [hi.ecp]; exact hnone)
    rwa [hi.ecp, hi.ind, hi.ac] at hcopies
  obtain ⟨hstack, hlong, hadmin⟩ : (settle (afterTake (pinEntry p u))).ecp.stack = [] ∧
      (settle (afterTake (pinEntry p u))).ecp.overlong = false ∧
      (s.ac.access = .adminSession → (settle (afterTake (pinEntry p u))).ac.admin = some 300) := by
    cases hcopy : s.ecp.copy with
    | none =>
      cases hv : firstEntryFault s.ecp.stack s.ecp.overlong with
      | some v =>
        have hends := hfault v hcopy hv
        exact ⟨hends.stack, hends.overlong, hends.admin⟩
      | none =>
        obtain ⟨-, hstack, hlong, -, -, -, -, haccess⟩ := hcopied hcopy hv
        rw [hfirst hcopy]
        refine ⟨by simp [hstack], by simp [hlong], fun hsession => ?_⟩
        rw [(settle_afterTake _).2.1, haccess, hsession]
        rfl
    | some q =>
      by_cases hagrees : s.ecp.overlong = false ∧ s.ecp.stack = q
      · rw [hmatch q hcopy hagrees.1 hagrees.2]
        obtain ⟨hstack, hlong, hkeeps⟩ := handOver_enrol_cleared p q u
        refine ⟨by simp [hstack], by simp [hlong], fun hsession => ?_⟩
        rw [(settle_afterTake _).2.1, hkeeps (by rw [hi.ac]; exact hsession)]
        rfl
      · have hends := hmismatch q hcopy (by
          by_cases hlong : s.ecp.overlong = true
          · exact .inl hlong
          · exact .inr fun hstack => hagrees ⟨by simpa using hlong, hstack⟩)
        exact ⟨hends.stack, hends.overlong, hends.admin⟩
  refine ⟨hstack, hlong, hadmin, fun hcopy => ⟨fun hbad => ?_, fun hlength hlong hpattern => ?_,
    fun hlength hlong hvaried hrising hfalling => ?_⟩, fun q hcopy => ⟨fun hne => ?_, fun hlong hsame hidle hslot hempty => ?_,
    fun hlong hsame hidle hovertaken hsession hc hnone => ?_⟩⟩
  · have hends := hfault _ hcopy (firstEntryFault_format hbad)
    exact ⟨hends.gives, hends.copy, hends.command, hends.access⟩
  · have hends := hfault _ hcopy (by rw [hlong]; exact firstEntryFault_refused hlength hpattern)
    exact ⟨hends.gives, hends.copy, hends.command, hends.access⟩
  · obtain ⟨hcopy', -, -, hcommand, hready', hind, hheld, haccess⟩ := hcopied hcopy (by
      rw [hlong]
      exact firstEntryFault_none hlength hvaried hrising hfalling)
    rw [hfirst hcopy]
    obtain ⟨htecp, htac, -⟩ := settle_afterTake (firstEntry u)
    refine ⟨by rw [htecp]; exact hcopy', by rw [htecp]; exact hcommand, ?_, givesNone_afterTake hind hheld, by rw [htac]; exact haccess⟩
    rw [htecp, hpin.composing haccess hcommand, hready', hready]
    rfl
  · have hends := hmismatch q hcopy hne
    exact ⟨hends.gives, hends.copy, hends.command, hends.access⟩
  · obtain ⟨i, htarget⟩ := hpin.target hslot hempty
    rw [hmatch q hcopy hlong hsame]
    obtain ⟨hready', hcopy', hcommand', haccess', hwork, hkind, hdigits, htarget', hpurpose⟩ :=
      settle_handOver_enrol hi hidle htarget q
    obtain ⟨hpblank, hpchange, hpsession⟩ := hpin.purpose
    rw [← htarget] at htarget'
    refine ⟨hready', hcopy', hcommand', haccess', hwork, hkind, hdigits, fun hblank => ?_, fun hchange => ?_, fun hsession =>
      ⟨fun hc => ?_, fun hc => ?_, fun hc => ?_⟩⟩
    · rw [hpblank hblank] at htarget' hpurpose ⊢
      exact ⟨htarget', hpurpose⟩
    · rw [hpchange hchange] at htarget' hpurpose ⊢
      exact ⟨htarget', hpurpose⟩
    · rw [(hpsession hsession).1 hc] at htarget' hpurpose ⊢
      exact ⟨htarget', hpurpose⟩
    · rw [(hpsession hsession).2.1 hc] at htarget' hpurpose ⊢
      exact ⟨htarget', hpurpose⟩
    · rw [(hpsession hsession).2.2 hc] at htarget' hpurpose ⊢
      exact ⟨hpurpose, fun j hlow hhigh hjempty hjbelow =>
        htarget'.trans (State.emptyUserSlot_eq hlow hhigh hjempty hjbelow)⟩
  · have htarget : s.enrolTarget p = none := by
      rw [(hpin.purpose.2.2 hsession).2.2 hc]
      exact State.emptyUserSlot_none hnone
    rw [hmatch q hcopy hlong hsame, handOver_untargeted hi hidle htarget q]
    obtain ⟨hgives, hdone, hasks, haccess, hcopy', hcommand⟩ := settle_reportEnd_session hi hovertaken hsession .refused
    exact ⟨hgives, hdone, hasks, haccess, hcopy', hcommand⟩

end Sys2Proof.Machine


/-! PROOF. The admin commands that set (R114, R115, R132): their digits, their ranges, and the write each asks for. -/

namespace Sys2Proof.Machine

open Sys2Proof

/-! ## A write of the CU (R122) -/

theorem cuWrite_cu (task : CuTask) (body : KsBody) (s : State) : (cuWrite task body s).cu =
    { s.cu with work := .writes, task := task, kind := none, digits := none, target := none } := by
  simp [cuWrite]

theorem cuWrite_asks (task : CuTask) (body : KsBody) (s : State) : (cuWrite task body s).CuAsks body := by
  obtain ⟨-, -, -, hqueue⟩ := ksRequest_ks { bySweep := false, body := body }
    (s.setCu { s.cu with work := .writes, task := task, kind := none, digits := none, target := none })
  rw [State.CuAsks, cuWrite, hqueue]
  exact List.mem_append_right _ (List.mem_singleton_self _)

/-- A hand-over whose work is one write leaves the ECP WAITING and the write asked for (R106, R122). -/
theorem settle_handOver_write {s u : State} (h : s.Interprets u) (hidle : s.cu.work = .idle) {o : Handover} {task : CuTask}
    {body : KsBody} (ho : takeHandover o u.handedOver = cuWrite task body u.handedOver) :
    (settle (afterTake (handOver o u))).CuAsks body ∧ (settle (afterTake (handOver o u))).cu.work = .writes ∧
    (settle (afterTake (handOver o u))).cu.task = task ∧ (settle (afterTake (handOver o u))).ecp.ready = false ∧
    (settle (afterTake (handOver o u))).ecp.command = none ∧ (settle (afterTake (handOver o u))).ac.access = s.ac.access := by
  rw [handOver_of_idle (by rw [h.cu]; exact hidle), ho]
  refine ⟨settle_queue (s := afterTake _) (cuWrite_asks task body u.handedOver), ?_, ?_, ?_, ?_, ?_⟩
  · simp [cuWrite_cu]
  · simp [cuWrite_cu]
  · simp [State.handedOver]
  · simp [State.handedOver]
  · simp [State.handedOver, h.ac]

/-! ## The digits keyed (R114) -/

theorem oneDigit_of_digit {s : State} {d : Digit} (hstack : s.ecp.stack = [d]) (hlong : s.ecp.overlong = false) (f : Digit → State) :
    oneDigit s f = f d := by
  rw [oneDigit, hstack, hlong]

theorem oneDigit_of_other {s : State} (h : s.ecp.stack.length ≠ 1 ∨ s.ecp.overlong = true) (f : Digit → State) :
    oneDigit s f = cancelWith .format s := by
  unfold oneDigit
  split
  next d hstack hlong => rcases h with h | h <;> simp_all
  next => rfl

theorem oneOrTwoDigits_of_value {s : State} {v : Nat} (hvalue : keyedValue s.ecp.stack = some v) (hlong : s.ecp.overlong = false)
    (f : Nat → State) : oneOrTwoDigits s f = f v := by
  rw [oneOrTwoDigits, hvalue, hlong]

theorem oneOrTwoDigits_of_other {s : State} (h : keyedValue s.ecp.stack = none ∨ s.ecp.overlong = true) (f : Nat → State) :
    oneOrTwoDigits s f = cancelWith .format s := by
  unfold oneOrTwoDigits
  split
  next v hvalue hlong => rcases h with h | h <;> simp_all
  next => rfl

theorem keyedValue_none {l : List Digit} (h : l = [] ∨ 3 ≤ l.length) : keyedValue l = none := by
  rcases h with rfl | h
  · rfl
  · match l, h with
    | _ :: _ :: _ :: _, _ => rfl

/-! ## The commands -/

/-- The commands that take one digit (R114). -/
theorem submitCommand_oneDigit {s : State} {cmd : Fin 10} (hcmd : cmd = 2 ∨ cmd = 3 ∨ cmd = 8) :
    ∃ f, submitCommand cmd s = oneDigit s f := by
  rcases hcmd with rfl | rfl | rfl <;> exact ⟨_, rfl⟩

/-- The commands that take one digit or two (R114). -/
theorem submitCommand_oneOrTwo {s : State} {cmd : Fin 10} (hcmd : cmd = 4 ∨ cmd = 5) :
    ∃ f, submitCommand cmd s = oneOrTwoDigits s f := by
  rcases hcmd with rfl | rfl <;> exact ⟨_, rfl⟩

/-- A malformed stack is FORMAT (R114, R115). -/
theorem submitCommand_format {s : State} {cmd : Fin 10} (h : ((cmd = 2 ∨ cmd = 3 ∨ cmd = 8) ∧ 2 ≤ s.ecp.stack.length) ∨
    ((cmd = 2 ∨ cmd = 3 ∨ cmd = 4 ∨ cmd = 5 ∨ cmd = 8) ∧
      (s.ecp.stack = [] ∨ s.ecp.overlong = true ∨ 3 ≤ s.ecp.stack.length))) : submitCommand cmd s = cancelWith .format s := by
  have hone : (cmd = 2 ∨ cmd = 3 ∨ cmd = 8) → (s.ecp.stack.length ≠ 1 ∨ s.ecp.overlong = true) →
      submitCommand cmd s = cancelWith .format s := fun hcmd hbad => by
    obtain ⟨f, hf⟩ := submitCommand_oneDigit (s := s) hcmd
    rw [hf, oneDigit_of_other hbad]
  have htwo : (cmd = 4 ∨ cmd = 5) → (keyedValue s.ecp.stack = none ∨ s.ecp.overlong = true) →
      submitCommand cmd s = cancelWith .format s := fun hcmd hbad => by
    obtain ⟨f, hf⟩ := submitCommand_oneOrTwo (s := s) hcmd
    rw [hf, oneOrTwoDigits_of_other hbad]
  have hlengths : s.ecp.stack = [] ∨ s.ecp.overlong = true ∨ 3 ≤ s.ecp.stack.length →
      (s.ecp.stack.length ≠ 1 ∨ s.ecp.overlong = true) ∧ (keyedValue s.ecp.stack = none ∨ s.ecp.overlong = true) := by
    rintro (hnil | hlong | hthree)
    · exact ⟨.inl (by simp [hnil]), .inl (keyedValue_none (.inl hnil))⟩
    · exact ⟨.inr hlong, .inr hlong⟩
    · exact ⟨.inl (by omega), .inl (keyedValue_none (.inr hthree))⟩
  rcases h with ⟨hcmd, hlength⟩ | ⟨hcmd, hbad⟩
  · exact hone hcmd (.inl (by omega))
  · obtain ⟨hbad₁, hbad₂⟩ := hlengths hbad
    rcases hcmd with h | h | h | h | h
    · exact hone (.inl h) hbad₁
    · exact hone (.inr (.inl h)) hbad₁
    · exact htwo (.inl h) hbad₂
    · exact htwo (.inr h) hbad₂
    · exact hone (.inr (.inr h)) hbad₁

/-- The setting that a command's value asks for, clamped (R114, R132). -/
def settingOf (cmd : Fin 10) (v : Nat) : DevUpdate :=
  if cmd = 3 then { DevUpdate.none with readOnly := some (v == 1) }
  else if cmd = 8 then { DevUpdate.none with lockOnStandby := some (v == 1) }
  else if cmd = 4 then { DevUpdate.none with autoLock := some (min 60 v) }
  else { DevUpdate.none with limit := some (max 4 (min 20 v)) }

/-- A value in range is handed over as its setting (R114). -/
theorem submitCommand_setting {s : State} {cmd : Fin 10} {v : Nat} (hvalue : keyedValue s.ecp.stack = some v)
    (hlong : s.ecp.overlong = false) (h : (∃ d : Digit, s.ecp.stack = [d] ∧ (cmd = 3 ∨ cmd = 8) ∧ v ≤ 1) ∨ cmd = 4 ∨ cmd = 5) :
    submitCommand cmd s = handOver (.setting (settingOf cmd v)) s := by
  rcases h with ⟨d, hstack, hcmd, hv⟩ | rfl | rfl
  · have hd : d.val = v := by
      rw [hstack] at hvalue
      exact Option.some.inj hvalue
    subst hd
    rcases hcmd with rfl | rfl
    · exact (oneDigit_of_digit hstack hlong _).trans (if_pos hv)
    · exact (oneDigit_of_digit hstack hlong _).trans (if_pos hv)
  · exact oneOrTwoDigits_of_value hvalue hlong _
  · exact oneOrTwoDigits_of_value hvalue hlong _

/-- A value out of range is REFUSED (R114, R115). -/
theorem submitCommand_refused {s : State} {cmd : Fin 10} {d : Digit} (hstack : s.ecp.stack = [d]) (hlong : s.ecp.overlong = false)
    (h : ((cmd = 3 ∨ cmd = 8) ∧ 2 ≤ d.val) ∨ (cmd = 2 ∧ 7 ≤ d.val)) : submitCommand cmd s = cancelWith .refused s := by
  rcases h with ⟨rfl | rfl, hd⟩ | ⟨rfl, hd⟩
  · exact (oneDigit_of_digit hstack hlong _).trans (if_neg (by omega))
  · exact (oneDigit_of_digit hstack hlong _).trans (if_neg (by omega))
  · exact (oneDigit_of_digit hstack hlong _).trans (if_neg (by omega))

theorem submitCommand_delete {s : State} {d : Digit} (hstack : s.ecp.stack = [d]) (hlong : s.ecp.overlong = false)
    (h : d.val ≤ 6) : submitCommand 2 s = handOver (.clear (deleteSlots d)) s :=
  (oneDigit_of_digit hstack hlong _).trans (if_pos h)

theorem submitCommand_erase {s : State} : submitCommand 9 s = if 7 ≤ s.ecp.stack.length ∧ s.ecp.overlong = false
    then handOver (.eraseConfirm s.ecp.stack) s else cancelWith .format s := rfl

/-- The user slots that a delete clears: those named that are not EMPTY, from 6 down (R114, R132). -/
def State.toClear (s : State) (d : Digit) : List (Fin 8) :=
  (if d.val = 0 then [6, 5, 4, 3, 2, 1] else [Fin.ofNat 8 d.val]).filter (fun i => decide ((s.cred i).status ≠ .empty))

theorem filter_notEmpty (s : State) (l : List (Fin 8)) : l.filter (fun i => (s.cred i).status != .empty) =
    l.filter (fun i => decide ((s.cred i).status ≠ .empty)) :=
  List.filter_congr fun i _ => by rw [Bool.eq_iff_iff]; simp

theorem takeHandover_delete {s u : State} (h : s.Interprets u) (d : Digit) :
    takeHandover (.clear (deleteSlots d)) u.handedOver = clearNext (s.toClear d) u.handedOver := by
  have hcred : u.handedOver.cred = s.cred := h.cred
  have hslots : deleteSlots d = if d.val = 0 then [6, 5, 4, 3, 2, 1] else [Fin.ofNat 8 d.val] := by
    unfold deleteSlots
    by_cases hd : d = 0
    · rw [if_pos hd, if_pos (by rw [hd]; rfl)]
    · have hval : d.val ≠ 0 := fun hval => hd (Fin.ext hval)
      rw [if_neg hd, if_neg hval]
  rw [takeHandover, filter_notEmpty, hslots, State.toClear, hcred]

/-! ## What each leaves in SESSION -/

/-- A verdict that ends a command in SESSION: nothing written, the composition cleared. -/
theorem State.EndsWith.session {s t : State} {v : Verdict} (h : s.EndsWith t v) (hsession : s.ac.access = .adminSession)
    (hready : s.ecp.ready = true) : s.Gives t v ∧ s.NoCuWrite t ∧ t.ecp.command = none ∧ t.ecp.stack = [] ∧ t.ecp.ready = true ∧
      t.cu = s.cu :=
  ⟨h.gives, h.asks, h.command, h.stack, h.ready.trans hready, h.cu hsession⟩

theorem clearNext_keeps_session (l : List (Fin 8)) {s : State} (h : s.ac.access = .adminSession) :
    (clearNext l s).ac.access = .adminSession := by
  cases l with
  | nil => exact reportEnd_keeps_session .accept h
  | cons i rest => simpa [clearNext] using h

theorem takeHandover_keeps_session (o : Handover) {s : State} (h : s.ac.access = .adminSession) :
    (takeHandover o s).ac.access = .adminSession := by
  unfold takeHandover
  split
  · exact h
  · exact h
  · exact h
  · split
    · exact h
    · exact reportEnd_keeps_session .refused h
  · exact clearNext_keeps_session _ h
  · simpa using h

theorem handOver_keeps_session (o : Handover) {s : State} (h : s.ac.access = .adminSession) :
    (handOver o s).ac.access = .adminSession := by
  by_cases hidle : s.cu.work = .idle
  · rw [handOver_of_idle hidle]
    exact takeHandover_keeps_session o h
  · rw [handOver_of_busy hidle]
    exact h

theorem cancelWith_keeps_session (v : Verdict) {s : State} (h : s.ac.access = .adminSession) :
    (cancelWith v s).ac.access = .adminSession := by
  simp [cancelWith, cancel, h, Access.restingPlace]

theorem pinEntry_keeps_session (p : EnrolFor) {s : State} (h : s.ac.access = .adminSession) :
    (pinEntry p s).ac.access = .adminSession := by
  unfold pinEntry
  split
  · unfold firstEntry
    split
    · exact cancelWith_keeps_session _ h
    · dsimp only
      rw [if_neg (by simp [h])]
      exact h
  · split
    · exact handOver_keeps_session _ h
    · exact cancelWith_keeps_session _ h

theorem oneDigit_keeps_session {s : State} (h : s.ac.access = .adminSession) {f : Digit → State}
    (hf : ∀ d, (f d).ac.access = .adminSession) : (oneDigit s f).ac.access = .adminSession := by
  unfold oneDigit
  split
  · exact hf _
  · exact cancelWith_keeps_session _ h

theorem oneOrTwoDigits_keeps_session {s : State} (h : s.ac.access = .adminSession) {f : Nat → State}
    (hf : ∀ v, (f v).ac.access = .adminSession) : (oneOrTwoDigits s f).ac.access = .adminSession := by
  unfold oneOrTwoDigits
  split
  · exact hf _
  · exact cancelWith_keeps_session _ h

/-- KEY with a command pending keeps the session (R114). -/
theorem submitCommand_keeps_session (cmd : Fin 10) {s : State} (h : s.ac.access = .adminSession) :
    (submitCommand cmd s).ac.access = .adminSession := by
  have hchoice {p : Prop} [Decidable p] {a b : State} (ha : a.ac.access = .adminSession) (hb : b.ac.access = .adminSession) :
      (if p then a else b).ac.access = .adminSession := by
    split
    · exact ha
    · exact hb
  have hover (o : Handover) := handOver_keeps_session o h
  have hcancel (v : Verdict) := cancelWith_keeps_session v h
  unfold submitCommand
  split
  · exact pinEntry_keeps_session _ h
  · exact oneDigit_keeps_session h fun d => hchoice (hover _) (hcancel _)
  · exact oneDigit_keeps_session h fun d => hchoice (hover _) (hcancel _)
  · exact oneOrTwoDigits_keeps_session h fun v => hover _
  · exact oneOrTwoDigits_keeps_session h fun v => hover _
  · exact pinEntry_keeps_session _ h
  · exact pinEntry_keeps_session _ h
  · exact oneDigit_keeps_session h fun d => hchoice (hover _) (hcancel _)
  · exact hchoice (hover _) (hcancel _)
  · exact h

/-- Settles O52: each command by its number and the digits keyed. -/
theorem settingsCommands : Obligations.SettingsCommands := by
  intro s e rest sh c cmd h he hc htable hsession hidle hcmd
  have hready : s.ecp.ready = true := h.2.1
  obtain ⟨u, hu⟩ : ∃ u, u = s.popped rest := ⟨_, rfl⟩
  have hi : s.Interprets u := hu ▸ s.popped_interprets rest
  have hexec := exec_key h he
  have hkey : keyEntry sh u = submitCommand cmd u := by
    rw [keyEntry, hi.ecp, htable, if_pos rfl, adminKey, hi.ecp, hcmd]
  rw [← hc, ← hu, hkey] at hexec
  have haccess : (submitCommand cmd u).ac.access = .adminSession :=
    submitCommand_keeps_session cmd (by rw [hi.ac]; exact hsession)
  have hsetting : ∀ v, keyedValue s.ecp.stack = some v → s.ecp.overlong = false →
      ((∃ d : Digit, s.ecp.stack = [d] ∧ (cmd = 3 ∨ cmd = 8) ∧ v ≤ 1) ∨ cmd = 4 ∨ cmd = 5) →
      (settle (afterTake (submitCommand cmd u))).CuAsks (.dev (settingOf cmd v)) ∧
      (settle (afterTake (submitCommand cmd u))).cu.work = .writes ∧
      (settle (afterTake (submitCommand cmd u))).cu.task = .setting ∧
      (settle (afterTake (submitCommand cmd u))).ecp.ready = false ∧
      (settle (afterTake (submitCommand cmd u))).ecp.command = none := fun v hvalue hlong hrange => by
    rw [submitCommand_setting (s := u) (by rw [hi.ecp]; exact hvalue) (by rw [hi.ecp]; exact hlong) (by rw [hi.ecp]; exact hrange)]
    obtain ⟨hasks, hwork, htask, hready', hcommand, -⟩ := settle_handOver_write hi hidle (o := .setting (settingOf cmd v)) rfl
    exact ⟨hasks, hwork, htask, hready', hcommand⟩
  have hends : ∀ v, submitCommand cmd u = cancelWith v u → s.EndsWith (settle (afterTake (submitCommand cmd u))) v := fun v hv => by
    rw [hv]
    exact settle_cancelWith hi v
  refine ⟨_, hexec, by simp [haccess], by simp [haccess], fun d hstack hlong => ⟨fun h3 hd => ?_, fun h8 hd => ?_, fun h4 => ?_,
    fun h5 => ?_, fun hrange => ?_, fun hrange => ?_, fun h2 hd slots hslots => ?_⟩, fun a b hstack hlong => ⟨fun h4 => ?_, fun h5 => ?_,
    fun hrange => ?_⟩, fun hbad => ?_, fun h9 => ⟨fun hlength hlong => ?_, fun hbad => ?_⟩⟩
  · obtain ⟨hasks, -⟩ := hsetting d.val (by rw [hstack]; rfl) hlong (.inl ⟨d, hstack, .inl h3, hd⟩)
    rwa [settingOf, if_pos h3] at hasks
  · obtain ⟨hasks, -⟩ := hsetting d.val (by rw [hstack]; rfl) hlong (.inl ⟨d, hstack, .inr h8, hd⟩)
    rwa [h8, settingOf, if_neg (by decide), if_pos rfl, ← h8] at hasks
  · obtain ⟨hasks, -⟩ := hsetting d.val (by rw [hstack]; rfl) hlong (.inr (.inl h4))
    rwa [h4, settingOf, if_neg (by decide), if_neg (by decide), if_pos rfl, Nat.min_eq_right (by omega), ← h4] at hasks
  · obtain ⟨hasks, -⟩ := hsetting d.val (by rw [hstack]; rfl) hlong (.inr (.inr h5))
    rwa [h5, settingOf, if_neg (by decide), if_neg (by decide), if_neg (by decide), Nat.min_eq_right (by omega), ← h5] at hasks
  · have hcases : (∃ d' : Digit, s.ecp.stack = [d'] ∧ (cmd = 3 ∨ cmd = 8) ∧ d.val ≤ 1) ∨ cmd = 4 ∨ cmd = 5 :=
      hrange.imp (fun h => ⟨d, hstack, h.1, h.2⟩) id
    exact (hsetting d.val (by rw [hstack]; rfl) hlong hcases).2
  · obtain ⟨hgives, hasks, hcommand, hstack', hready', -⟩ := (hends .refused
      (submitCommand_refused (by rw [hi.ecp]; exact hstack) (by rw [hi.ecp]; exact hlong) hrange)).session hsession hready
    exact ⟨hgives, hasks, hcommand, hstack', hready'⟩
  · have hdelete : submitCommand cmd u = handOver (.clear (deleteSlots d)) u := by
      rw [h2]
      exact submitCommand_delete (by rw [hi.ecp]; exact hstack) (by rw [hi.ecp]; exact hlong) hd
    have hclear : takeHandover (.clear (deleteSlots d)) u.handedOver = clearNext slots u.handedOver := by
      rw [takeHandover_delete hi d, hslots]
      rfl
    rw [hdelete]
    refine ⟨fun hnil hovertaken => ?_, fun i more hcons => ?_⟩
    · rw [handOver_of_idle (by rw [hi.cu]; exact hidle), hclear, hnil]
      obtain ⟨hgives, hdone, hasks, -, -, hcommand⟩ := settle_reportEnd_session hi hovertaken hsession .accept
      exact ⟨hgives, hasks, hdone, hcommand⟩
    · obtain ⟨hasks, hwork, htask, hready', hcommand, -⟩ := settle_handOver_write hi hidle
        (o := .clear (deleteSlots d)) (task := .clear more) (body := .cred i (CredFields.bare .empty)) (by rw [hclear, hcons]; rfl)
      exact ⟨hasks, hwork, htask, hready', hcommand⟩
  · obtain ⟨hasks, -⟩ := hsetting (10 * a.val + b.val) (by rw [hstack]; rfl) hlong (.inr (.inl h4))
    rwa [h4, settingOf, if_neg (by decide), if_neg (by decide), if_pos rfl, ← h4] at hasks
  · obtain ⟨hasks, -⟩ := hsetting (10 * a.val + b.val) (by rw [hstack]; rfl) hlong (.inr (.inr h5))
    rwa [h5, settingOf, if_neg (by decide), if_neg (by decide), if_neg (by decide), ← h5] at hasks
  · exact (hsetting (10 * a.val + b.val) (by rw [hstack]; rfl) hlong (.inr hrange)).2
  · obtain ⟨hgives, hasks, hcommand, hstack', hready', -⟩ := (hends .format
      (submitCommand_format (by rw [hi.ecp]; exact hbad))).session hsession hready
    exact ⟨hgives, hasks, hcommand, hstack', hready'⟩
  · have herase : submitCommand cmd u = handOver (.eraseConfirm s.ecp.stack) u := by
      rw [h9, submitCommand_erase, hi.ecp, if_pos ⟨hlength, hlong⟩]
    obtain ⟨-, -, -, hecp, hcu⟩ := handOver_verify (Handover.starts_eraseConfirm s.ecp.stack) u
    obtain ⟨htecp, -, -, htcu, -⟩ := settle_afterTake (handOver (.eraseConfirm s.ecp.stack) u)
    rw [herase, htecp, htcu, hecp, hcu (by rw [hi.cu]; exact hidle)]
    exact ⟨rfl, rfl, rfl, rfl, rfl⟩
  · have hnot : ¬ (7 ≤ s.ecp.stack.length ∧ s.ecp.overlong = false) := fun ⟨hlength, hlong⟩ => by
      rcases hbad with h | h
      · omega
      · simp [hlong] at h
    obtain ⟨hgives, hasks, hcommand, hstack', hready', hcu⟩ := (hends .format
      (by rw [h9, submitCommand_erase, hi.ecp, if_neg hnot])).session hsession hready
    exact ⟨hgives, hcu, hasks, hcommand, hstack', hready'⟩

end Sys2Proof.Machine


/-! PROOF. The end of a verify (R125, R126, R128): its result by the kind's own slots, and the failure write. -/

namespace Sys2Proof.Machine

open Sys2Proof

/-! ## The result of a verify (R125) -/

theorem exec_verifyEnd {s : State} (hrun : s.power = .running) : exec .verifyEnd s = .next (settle (verifyEnded s)) :=
  State.whenRunning_of_running hrun (fun s => settle (verifyEnded s))

theorem slotMatches_iff (f : CredFields) (digits : List Digit) : slotMatches f digits = true ↔
    f.status = .active ∧ f.digitCount = digits.length ∧ Config.verifierOf digits f.salt = f.verifier := by
  simp [slotMatches, and_assoc]

theorem mem_verifySet (k : VerifyKind) (target : Option (Fin 8)) (i : Fin 8) : i ∈ verifySet k target ↔
    match k with
    | .unlock => True
    | .admin | .eraseConfirm => i = 0
    | .enrol => some i ≠ target := by
  cases k <;> simp [verifySet]

/-- No slot of the kind's own set matches. -/
theorem State.verifyOutcome_noMatch {s : State} {k : VerifyKind} {digits : List Digit} (hdigits : s.cu.digits = some digits)
    (h : ∀ i ∈ verifySet k s.cu.target, slotMatches (s.cred i) digits = false) : s.verifyOutcome k = .noMatch := by
  have hnone : (verifySet k s.cu.target).find? (fun i => slotMatches (s.cred i) digits) = none :=
    List.find?_eq_none.2 fun i hi => by simp [h i hi]
  rw [State.verifyOutcome, hdigits]
  dsimp only [Option.getD_some]
  rw [hnone]

/-- The one slot of the kind's own set that matches is the hit, its media key unwrapped. -/
theorem State.verifyOutcome_hit {s : State} {k : VerifyKind} {digits : List Digit} (hdigits : s.cu.digits = some digits)
    {i : Fin 8} (hi : i ∈ verifySet k s.cu.target) (hmatch : slotMatches (s.cred i) digits = true)
    (hothers : ∀ j, j ≠ i → slotMatches (s.cred j) digits = false) :
    s.verifyOutcome k = .hit i (unwrapKey (s.cred i) digits) := by
  have hfind : (verifySet k s.cu.target).find? (fun i => slotMatches (s.cred i) digits) = some i := by
    cases hf : (verifySet k s.cu.target).find? (fun i => slotMatches (s.cred i) digits) with
    | none => exact absurd hmatch (by simpa using List.find?_eq_none.1 hf i hi)
    | some j =>
      have hj : slotMatches (s.cred j) digits = true := by simpa using List.find?_some hf
      by_cases hji : j = i
      · rw [hji]
      · simp [hothers j hji] at hj
  rw [State.verifyOutcome, hdigits]
  dsimp only [Option.getD_some]
  rw [hfind]

/-- A slot of the set that matches makes the result a hit. -/
theorem State.verifyOutcome_isHit {s : State} {k : VerifyKind} {digits : List Digit} (hdigits : s.cu.digits = some digits)
    {i : Fin 8} (hi : i ∈ verifySet k s.cu.target) (hmatch : slotMatches (s.cred i) digits = true) :
    ∃ j key, s.verifyOutcome k = .hit j key := by
  rw [State.verifyOutcome, hdigits]
  dsimp only [Option.getD_some]
  cases hf : (verifySet k s.cu.target).find? (fun i => slotMatches (s.cred i) digits) with
  | none => exact absurd hmatch (by simpa using List.find?_eq_none.1 hf i hi)
  | some j => exact ⟨j, _, rfl⟩

/-- The state with the verify's result. -/
def State.resulting (s : State) (r : VerifyResult) : State := s.setCu { s.cu with result := some r }

/-! ## A write of the CU reports nothing (R122) -/

/-- What the end of an event in which the CU has asked for one write leaves. -/
theorem settle_cuWrite {s u : State} (hac : u.ac = s.ac) (hind : u.ind = s.ind) (task : CuTask) (body : KsBody) :
    s.Unreported (settle (cuWrite task body u)) ∧ (settle (cuWrite task body u)).CuAsks body ∧
    (settle (cuWrite task body u)).cu.work = .writes ∧ (settle (cuWrite task body u)).cu.task = task ∧
    (settle (cuWrite task body u)).cu.result = u.cu.result ∧ (settle (cuWrite task body u)).ecp = u.ecp ∧
    (settle (cuWrite task body u)).ce = u.ce ∧ (settle (cuWrite task body u)).draws = u.draws ∧
    (settle (cuWrite task body u)).ks.dev = u.ks.dev ∧ (settle (cuWrite task body u)).ks.nvm = u.ks.nvm := by
  obtain ⟨hnvm, -, hdev, -⟩ := ksRequest_ks { bySweep := false, body := body }
    (u.setCu { u.cu with work := .writes, task := task, kind := none, digits := none, target := none })
  refine ⟨⟨by simp [hac], givesNone_settle (by simp [hind]) (by simp [hac])⟩, settle_queue (cuWrite_asks task body u),
    by simp [cuWrite_cu], by simp [cuWrite_cu], by simp [cuWrite_cu], by simp, by simp, by simp, ?_, ?_⟩
  · rw [settle_dev]
    exact hdev
  · rw [settle_nvm]
    exact hnvm

/-! ## The failure write (R128) -/

theorem failureWrite_eq (s : State) : failureWrite s = if s.ks.dev.fields.failures + 1 < s.ks.dev.fields.limit
    then cuWrite (.failure (s.ks.dev.fields.failures + 1))
      (.dev { DevUpdate.none with failures := some (s.ks.dev.fields.failures + 1) }) s
    else cuWrite (.failure s.ks.dev.fields.limit)
      (.dev { DevUpdate.none with failures := some s.ks.dev.fields.limit, erasePending := some true }) s := rfl

/-- A verify that finds no match asks for the failure write, an ENROL apart (R126, R128). -/
theorem verifyEnded_noMatch {s : State} {k : VerifyKind} (hwork : s.cu.work = .verify) (hkind : s.cu.kind = some k)
    (hk : k ≠ .enrol) (h : s.verifyOutcome k = .noMatch) : verifyEnded s = failureWrite (s.resulting .noMatch) := by
  unfold verifyEnded
  rw [hwork, hkind]
  dsimp only
  rw [h]
  cases k with
  | unlock => rfl
  | admin => rfl
  | eraseConfirm => rfl
  | enrol => exact absurd rfl hk

/-- Settles O54: the failure write, with erase pending at the limit, and nothing reported. -/
theorem noMatchIsCounted : Obligations.NoMatchIsCounted := by
  intro s k digits hrun hwork hkind hk hdigits hnone
  have hmiss : s.verifyOutcome k = .noMatch := by
    refine State.verifyOutcome_noMatch hdigits fun i hi => ?_
    rw [mem_verifySet] at hi
    rw [← Bool.not_eq_true, slotMatches_iff]
    refine hnone i ?_
    cases k with
    | unlock => exact .inl rfl
    | admin => exact .inr hi
    | eraseConfirm => exact .inr hi
    | enrol => exact absurd rfl hk
  refine ⟨_, exec_verifyEnd hrun, ?_⟩
  rw [verifyEnded_noMatch hwork hkind hk hmiss, failureWrite_eq]
  have hks : (s.resulting .noMatch).ks = s.ks := rfl
  rw [hks]
  split
  next hbelow =>
    obtain ⟨hreport, hasks, hwork', htask, -, hecp, -, -, hdev, hnvm⟩ := settle_cuWrite (s := s) (u := s.resulting .noMatch) rfl rfl
      (.failure (s.ks.dev.fields.failures + 1)) (.dev { DevUpdate.none with failures := some (s.ks.dev.fields.failures + 1) })
    exact ⟨hwork', hreport, hecp, by rw [htask, Nat.min_eq_left (by omega)], hdev, hnvm, fun _ => hasks, fun hlimit => by omega⟩
  next hlimit =>
    obtain ⟨hreport, hasks, hwork', htask, -, hecp, -, -, hdev, hnvm⟩ := settle_cuWrite (s := s) (u := s.resulting .noMatch) rfl rfl
      (.failure s.ks.dev.fields.limit)
      (.dev { DevUpdate.none with failures := some s.ks.dev.fields.limit, erasePending := some true })
    exact ⟨hwork', hreport, hecp, by rw [htask, Nat.min_eq_right (by omega)], hdev, hnvm, fun hbelow => by omega, fun _ => hasks⟩

end Sys2Proof.Machine


/-! PROOF. What the CU reports to the AC (R85, R86, R87, R89, R92, R97, R132): the state entered, the verdict, and the erase
begun. -/

namespace Sys2Proof.Machine

open Sys2Proof

/-! ## Unlocks (R85, R90) -/

/-- SETTLING entered with the session slot and its key, ACCEPT given. -/
theorem settle_reportUnlock {s u : State} (hac : u.ac = s.ac) (hind : u.ind = s.ind) (slot : Fin 8) (key : Key) :
    (settle (reportUnlock slot key u)).ac.access = .settling ∧ (settle (reportUnlock slot key u)).ac.sessionSlot = some slot ∧
    (settle (reportUnlock slot key u)).ce.key = some key ∧ (settle (reportUnlock slot key u)).ac.presentation = .nothing ∧
    (settle (reportUnlock slot key u)).ac.settle = some 10 ∧ (settle (reportUnlock slot key u)).ac.scope = none ∧
    (settle (reportUnlock slot key u)).CuDone ∧ s.Gives (settle (reportUnlock slot key u)) .accept := by
  unfold reportUnlock
  refine ⟨?_, ?_, ?_, ?_, ?_, ?_, ⟨?_, ?_⟩, (gives_showVerdict .accept ?_ ?_ ?_).settle⟩ <;>
    simp [enterSettling, clearScope, ecpReady, cuIdle, Access.presentation, hac, hind]

/-- The presentation changes at the entry to SETTLING from a sub-state that presents another volume (R80). -/
theorem settle_reportUnlock_presents {u : State} (hpresented : u.ac.presentation ≠ .nothing) (slot : Fin 8) (key : Key) :
    (settle (reportUnlock slot key u)).atr = { volume := .nothing, highest := none } ∧
    (settle (reportUnlock slot key u)).uli.attn.presentation = true := by
  obtain ⟨v, hv⟩ : ∃ v, v = clearScope (ecpReady (cuIdle u)) := ⟨_, rfl⟩
  have hpresented' : v.ac.presentation ≠ .nothing := by simpa [hv, clearScope, ecpReady, cuIdle] using hpresented
  have hattn : (enterSettling slot key v).uli.attn = (moveTo .settling v).uli.attn :=
    failVolume_touches .overlay (.volumeChanged .unlock) _ .attn (by decide)
  have hattn : (reportUnlock slot key u).uli.attn = (moveTo .settling v).uli.attn := by
    rw [reportUnlock, ← hv, ← hattn]
    simp
  refine ⟨?_, ?_⟩
  · rw [reportUnlock, ← hv]
    simp [enterSettling, enter_atr, Access.presentation, hpresented', presentedAtr]
  · rw [settle_attn, hattn]
    simp [enter_uli, Access.presentation, hpresented']

theorem settle_reportRefused {s u : State} (hac : u.ac = s.ac) (hind : u.ind = s.ind) :
    (settle (reportRefused u)).ac.access = .lockedIdle ∧ s.Gives (settle (reportRefused u)) .refused ∧
    (settle (reportRefused u)).ac.scope = none ∧ (settle (reportRefused u)).CuDone ∧
    (settle (reportRefused u)).ks.dev = u.ks.dev ∧ (settle (reportRefused u)).ks.creds = u.ks.creds ∧
    (settle (reportRefused u)).OnlySweepAsks u.ks.queue := by
  refine ⟨?_, (reportRefused_gives hind hac).settle, ?_, ⟨?_, ?_⟩, ?_, ?_, settle_onlySweepAsks ⟨[], ?_, by simp⟩⟩ <;>
    simp [reportRefused, clearScope, ecpReady, cuIdle]

/-! ## The admin session (R86, R89) -/

theorem settle_reportAdmin {s u : State} (hac : u.ac = s.ac) (hind : u.ind = s.ind) (key : Key) :
    (settle (reportAdmin key u)).ac.access = .adminSession ∧ (settle (reportAdmin key u)).ac.admin = some 300 ∧
    (settle (reportAdmin key u)).cu.sessionKey = some key ∧ (settle (reportAdmin key u)).CuDone ∧
    (settle (reportAdmin key u)).ecp.adminTable = true ∧ (settle (reportAdmin key u)).ac.scope = none ∧
    s.Gives (settle (reportAdmin key u)) .accept := by
  unfold reportAdmin
  refine ⟨?_, ?_, ?_, ⟨?_, ?_⟩, ?_, ?_, (gives_showVerdict .accept ?_ ?_ ?_).settle⟩ <;>
    simp [clearScope, ecpReady, cuIdle, hac, hind]

/-! ## The end of a command, an enrolment or a change (R82, R89, R92, R132) -/

/-- The CU is done, and has asked for nothing. -/
theorem settle_reportEnd {u : State} (v : Verdict) : (settle (reportEnd v u)).CuDone ∧
    (settle (reportEnd v u)).OnlySweepAsks u.ks.queue := by
  have hreport : (reportEnd v u).cu.work = .idle ∧ (reportEnd v u).ecp.ready = true := by
    unfold reportEnd
    dsimp only
    split
    · exact ⟨rfl, rfl⟩
    · split <;> simp [ecpReady, cuIdle]
  obtain ⟨hwork, hready⟩ := hreport
  exact ⟨⟨by simp [hwork], by simp [hready]⟩, settle_onlySweepAsks ⟨[], by simp, by simp⟩⟩

/-- A change overtaken by a lock event ends without a report (R92). -/
theorem settle_reportEnd_overtaken {s u : State} (hac : u.ac = s.ac) (hind : u.ind = s.ind) (h : u.cu.overtaken = true)
    (v : Verdict) : s.Unreported (settle (reportEnd v u)) := by
  have hreport : reportEnd v u = ecpReady (cuIdle u) := by rw [reportEnd, if_pos h]
  rw [hreport]
  exact ⟨by simp [ecpReady, cuIdle, hac], givesNone_settle hind (by rw [← hac]; rfl)⟩

/-- The verdict of an end, and the sub-state it leaves (R82, R89, R92). -/
theorem settle_reportEnd_gives {s u : State} (hac : u.ac = s.ac) (hind : u.ind = s.ind) (h : u.cu.overtaken = false) (v : Verdict) :
    (s.ac.access = .blankRepeat → s.Gives (settle (reportEnd v u)) v ∧
      (settle (reportEnd v u)).ac.access = if v = .accept then .lockedIdle else .blankFirst) ∧
    (s.ac.access = .change → s.Gives (settle (reportEnd v u)) v ∧ (settle (reportEnd v u)).ac.access = .presented) ∧
    (s.ac.access = .adminSession → s.Gives (settle (reportEnd v u)) v ∧
      (settle (reportEnd v u)).ac.access = .adminSession ∧ (settle (reportEnd v u)).ac.admin = some 300) := by
  refine ⟨fun haccess => ?_, fun haccess => ?_, fun haccess => ?_⟩ <;> rw [reportEnd, h, hac, haccess] <;> dsimp only <;>
    rw [if_neg (by simp)]
  · exact ⟨(gives_showVerdict v (by simp [ecpReady, cuIdle, hind]) (by simp [ecpReady, cuIdle, hac])
      (by simp [ecpReady, cuIdle, hac])).settle, by simp⟩
  · exact ⟨(gives_showVerdict v (by simp [ecpReady, cuIdle, hind]) (by simp [ecpReady, cuIdle, hac])
      (by simp [ecpReady, cuIdle, hac])).settle, by simp⟩
  · exact ⟨(gives_showVerdict v (by simp [ecpReady, cuIdle, hind]) (by simp [ecpReady, cuIdle, hac])
      (by simp [ecpReady, cuIdle, hac])).settle, by simp [ecpReady, cuIdle, hac, haccess], by simp⟩

end Sys2Proof.Machine


/-! PROOF. The entry to ERASING (R97, R134, R135, R148): the lock event, the erase hold and the first write of the staging. -/

namespace Sys2Proof.Machine

open Sys2Proof

/-! ## A lock event leaves the sweep's request (R60, R77) -/

theorem discardWaits_of_filter {s t : State} {p : DReq → Bool} (h : t.dli.requests = s.dli.requests.filter p)
    (hp : ∀ r : DReq, r.owner = .sweep → p r = true) : t.discardWaits = s.discardWaits := by
  unfold State.discardWaits
  rw [h, List.any_filter]
  refine congrArg (List.any s.dli.requests) (funext fun r => ?_)
  by_cases howner : r.owner = .sweep
  · simp [hp r howner, howner]
  · simp [howner]

@[simp] theorem failTxn_discardWaits (t : Fin 16) (f : Failure) (s : State) :
    (failTxn t f s).discardWaits = s.discardWaits := by
  by_cases h : ∃ x, s.txn? t = some x ∧ x.phase = .active ∧ x.failure = none
  · obtain ⟨x, hx, hactive, hfresh⟩ := h
    have hdli := failTxn_dli hx hactive hfresh f
    split at hdli
    · exact discardWaits_of_filter (congrArg Dli.requests hdli) fun r hr => by simp [hr]
    · split at hdli
      · exact discardWaits_of_filter (congrArg Dli.requests hdli) fun r hr => by simp [hr, ownerIn]
      · rw [State.discardWaits, hdli, State.discardWaits]
  · rw [failTxn_of_inactive fun x hx => ?_]
    by_contra hne
    exact h ⟨x, hx, by simpa [not_or] using hne⟩

@[simp] theorem failVolume_discardWaits (v : TxVolume) (f : Failure) (s : State) :
    (failVolume v f s).discardWaits = s.discardWaits :=
  foldl_keeps State.discardWaits (fun u (x : Txn) => failTxn x.tag f u) (fun u x => failTxn_discardWaits x.tag f u) _ s

@[simp] theorem lockEvent_discardWaits (c : Cause) (s : State) : (lockEvent c s).discardWaits = s.discardWaits := by
  have hdli : ((stopCipher s).setCe { key := none }).dli = s.dli := by simp
  rw [State.discardWaits, (lockEvent_table c s).1, State.lockedTable]
  refine (failVolume_discardWaits .user (.volumeChanged c) _).trans ?_
  rw [State.discardWaits, hdli, State.discardWaits]

/-! ## The erase hold (R148) -/

theorem eraseHold_swu (s : State) : (eraseHold s).swu = { s.swu with
    hold := true, state := if s.swu.state = .idle then .idle else .paused,
    discardOut := if s.discardWaits then false else s.swu.discardOut,
    dropResult := if s.discardWaits then s.swu.dropResult else s.swu.discardOut } := by
  unfold eraseHold
  dsimp only
  split <;> rfl

theorem eraseHold_noSweep (s : State) : ∀ r ∈ (eraseHold s).dli.requests, r.owner ≠ .sweep := by
  intro r hr howner
  unfold eraseHold at hr
  dsimp only at hr
  split at hr
  · simp [howner] at hr
  next h =>
    refine h ?_
    rw [State.discardWaits, List.any_eq_true]
    exact ⟨r, by simpa using hr, by simp [howner]⟩

/-! ## The entry (R97, R134) -/

/-- From `u` to `v` the AC has entered ERASING, and the CU has asked for the write of the step `first`. -/
structure State.Erases (u v : State) (first : StageStep) : Prop where
  access : v.ac.access = .erasing ∧ v.ac.presentation = .overlay
  kept : v.ac.scope = u.ac.scope ∧ v.ecp.ready = u.ecp.ready
  keys : v.ce.key = none ∧ v.cu.sessionKey = none
  staging : v.cu.work = .staging ∧ v.cu.task = .stage first ∧ v.CuAsks (stageWrite first u)
  sweep : v.swu = { u.swu with
    hold := true, state := if u.swu.state = .idle then .idle else .paused,
    discardOut := if u.discardWaits then false else u.swu.discardOut,
    dropResult := if u.discardWaits then u.swu.dropResult else u.swu.discardOut }
  requests : ∀ r ∈ v.dli.requests, r.owner ≠ .sweep
  store : v.ks.nvm = u.ks.nvm ∧ v.ks.creds = u.ks.creds ∧ v.ks.dev = u.ks.dev ∧
    v.ks.queue = u.ks.queue ++ [{ bySweep := false, body := stageWrite first u }]

@[simp] theorem enterErasing_ac (first : StageStep) (u : State) :
    (enterErasing first u).ac.access = .erasing ∧ (enterErasing first u).ac.presentation = .overlay ∧
    (enterErasing first u).ac.standby = u.ac.standby ∧ (enterErasing first u).ac.held = u.ac.held ∧
    (enterErasing first u).ac.scope = u.ac.scope := by
  have hlock : (lockEvent .erase (moveTo .erasing u)).ac =
      (present .overlay (((moveTo .erasing u).lockedTable .erase).setAc { (moveTo .erasing u).ac with idle := none })).ac := by
    rw [lockEvent_eq, if_neg (by simp [Access.unlocked])]
  have hac : (enterErasing first u).ac = (lockEvent .erase (moveTo .erasing u)).ac := by simp [enterErasing, stage]
  rw [hac, hlock]
  refine ⟨?_, ?_, ?_, ?_, ?_⟩ <;> simp

theorem enterErasing_erases (first : StageStep) (u : State) : u.Erases (enterErasing first u) first := by
  obtain ⟨w, hw⟩ : ∃ w, w = lockEvent .erase (moveTo .erasing u) := ⟨_, rfl⟩
  have hlock : w = present .overlay (((moveTo .erasing u).lockedTable .erase).setAc { (moveTo .erasing u).ac with idle := none }) := by
    rw [hw, lockEvent_eq, if_neg (by simp [Access.unlocked])]
  have hkeys : w.ce.key = none ∧ w.cu.sessionKey = none := by
    rw [hlock]
    simp [State.lockedTable]
  have hswu : w.swu = u.swu := by simp [hw]
  have hks : w.ks = u.ks := by simp [hw]
  have hecp : w.ecp.ready = u.ecp.ready := by
    rw [hlock]
    simp [State.lockedTable]
  have hwaits : w.discardWaits = u.discardWaits := by
    rw [hw, lockEvent_discardWaits, State.discardWaits, State.discardWaits]
    simp
  have hbody : stageWrite first (eraseHold w) = stageWrite first u := by
    cases first with
    | pending => rfl
    | slot i => rfl
    | final => simp [stageWrite, hks]
  have henter : enterErasing first u = stage first (eraseHold w) := by rw [hw, enterErasing]
  obtain ⟨hnvm, hcreds, hdev, hqueue⟩ := ksRequest_ks { bySweep := false, body := stageWrite first (eraseHold w) }
    ((eraseHold w).setCu { (eraseHold w).cu with work := .staging, task := .stage first })
  have hstore : (stage first (eraseHold w)).ks.queue = u.ks.queue ++ [{ bySweep := false, body := stageWrite first u }] := by
    rw [← hbody]
    refine hqueue.trans ?_
    simp [hks]
  obtain ⟨haccess, hpresentation, -, -, hscope⟩ := enterErasing_ac first u
  rw [henter] at haccess hpresentation hscope ⊢
  exact {
    access := ⟨haccess, hpresentation⟩
    kept := ⟨hscope, by simp [stage, hecp]⟩
    keys := by simp [stage, hkeys]
    staging := ⟨by simp [stage], by simp [stage], by rw [State.CuAsks, hstore]; simp⟩
    sweep := by simp [stage, eraseHold_swu, hswu, hwaits]
    requests := fun r hr => eraseHold_noSweep w r (by simpa [stage] using hr)
    store := ⟨hnvm.trans (by simp [hks]), hcreds.trans (by simp [hks]), hdev.trans (by simp [hks]), hstore⟩ }

theorem State.Erases.of_same {u v w : State} {first : StageStep} (h : u.Erases v first) (haccess : w.ac.access = v.ac.access)
    (hpresentation : w.ac.presentation = v.ac.presentation) (hscope : w.ac.scope = v.ac.scope) (hecp : w.ecp = v.ecp)
    (hce : w.ce = v.ce) (hcu : w.cu = v.cu) (hks : w.ks = v.ks) (hswu : w.swu = v.swu)
    (hrequests : ∀ r ∈ w.dli.requests, r.owner ≠ .sweep) : u.Erases w first where
  access := by rw [haccess, hpresentation]; exact h.access
  kept := by rw [hscope, hecp]; exact h.kept
  keys := by rw [hce, hcu]; exact h.keys
  staging := by rw [State.CuAsks, hcu, hks]; exact h.staging
  sweep := by rw [hswu]; exact h.sweep
  requests := hrequests
  store := by rw [hks]; exact h.store

theorem State.Erases.showVerdict {u v : State} {first : StageStep} (h : u.Erases v first) (x : Verdict) :
    u.Erases (Machine.showVerdict x v) first :=
  h.of_same (by simp) (by simp) (by simp) (by simp) (by simp) (by simp) (by simp) (by simp) (by simpa using h.requests)

/-- Under the erase hold the sweep is not ISSUING: nothing joins it or the write queue in the closure of the event. -/
theorem State.Erases.settle {u v : State} {first : StageStep} (h : u.Erases v first) : u.Erases (Machine.settle v) first := by
  have hstate : v.swu.state ≠ .issuing := by
    rw [h.sweep]
    dsimp only
    split <;> simp
  obtain ⟨hswu, hks⟩ := (settle_sweep v).still hstate
  refine h.of_same (by simp) (by simp) (by simp) (by simp) (by simp) (by simp) hks hswu fun r hr howner => ?_
  rcases (settle_follows v).requests r hr with hr | ⟨-, -, hissuing⟩ | ⟨b, hb, -⟩
  · exact h.requests r hr howner
  · exact hstate hissuing
  · simp [howner] at hb

/-- The verdict shown at the entry to ERASING (R99, R134). -/
theorem gives_enterErasing {s u : State} (x : Verdict) (first : StageStep) (hind : u.ind = s.ind)
    (hstandby : u.ac.standby = s.ac.standby) (hheld : u.ac.held = s.ac.held) :
    s.Gives (settle (showVerdict x (enterErasing first u))) x :=
  (gives_showVerdict x (by simp [hind]) (by simp [hstandby]) (by simp [hheld])).settle

end Sys2Proof.Machine


/-! PROOF. A verify with a match, and the end of an ENROL (R85, R86, R90, R126, R127, R131, R132, R134, R148). -/

namespace Sys2Proof.Machine

open Sys2Proof

/-! ## What a match leads to (R126) -/

/-- What the CU does at a match of the slot `i`, by the kind of the verify (R126). -/
def State.acts (s : State) (k : VerifyKind) (i : Fin 8) : State :=
  match k with
  | .unlock => if s.unlockAllowed then unlockWrites i s else reportRefused s
  | .admin => adminMatch s
  | .eraseConfirm => reportErase s
  | .enrol => reportEnd .refused s

theorem verifyEnded_hit {s : State} {k : VerifyKind} {i : Fin 8} {key : Key} (hwork : s.cu.work = .verify)
    (hkind : s.cu.kind = some k) (h : s.verifyOutcome k = .hit i key) :
    verifyEnded s = (s.resulting (.hit i key)).acts k i := by
  unfold verifyEnded
  rw [hwork, hkind]
  dsimp only
  rw [h]
  cases k <;> rfl

theorem verifyEnded_enrol_noMatch {s : State} (hwork : s.cu.work = .verify) (hkind : s.cu.kind = some .enrol)
    (h : s.verifyOutcome .enrol = .noMatch) : verifyEnded s =
      if s.cu.overtaken then ecpReady (cuIdle (s.resulting .noMatch)) else enrolWrite (s.resulting .noMatch) := by
  unfold verifyEnded
  rw [hwork, hkind]
  dsimp only
  rw [h]
  rfl

/-- The answer to the CU's query, under the conditions of R85. -/
theorem State.not_unlockAllowed_iff (s : State) :
    s.unlockAllowed = false ↔ s.UnlockRefused s.ks.dev.fields.lockOnStandby := by
  cases hloss : s.ac.lossSeen <;> cases hstandby : s.ac.standby <;> cases hlock : s.ks.dev.fields.lockOnStandby <;>
    by_cases hmedia : s.dli.media = .ok <;> simp [State.unlockAllowed, State.UnlockRefused, hloss, hstandby, hlock, hmedia]

theorem State.unlockAllowed_of_not_refused {s : State} (h : ¬ s.UnlockRefused s.ks.dev.fields.lockOnStandby) :
    s.unlockAllowed = true := by
  rw [← Bool.not_eq_false, s.not_unlockAllowed_iff]
  exact h

theorem secondQuery_allowed {s : State} (h : ¬ s.UnlockRefused s.ks.dev.fields.lockOnStandby) (count : Option Nat)
    (former : Option CredFields) : secondQuery count former s = reportMatch s := by
  rw [secondQuery, if_pos (s.unlockAllowed_of_not_refused h)]

theorem secondQuery_refused {s : State} (h : s.UnlockRefused s.ks.dev.fields.lockOnStandby) (count : Option Nat)
    (former : Option CredFields) : secondQuery count former s = restore count former s := by
  rw [secondQuery, (s.not_unlockAllowed_iff).2 h]
  rfl

theorem reportMatch_of_hit {s : State} {i : Fin 8} {key : Key} (h : s.cu.result = some (.hit i key)) :
    reportMatch s = reportUnlock i key s := by rw [reportMatch, h]

/-- The transactions of the overlay fail at the entry to SETTLING (R90). -/
theorem settle_reportUnlock_fails {s u : State} (htxns : u.txns = s.txns) (htags : s.TagsOk) (hactive : s.ActiveOk)
    (slot : Fin 8) (key : Key) {x : Txn} (hx : x ∈ s.txns) (hoverlay : x.volume = .overlay) (hphase : x.phase = .active) :
    ∃ y, (settle (reportUnlock slot key u)).txn? x.tag = some y ∧ y.failure = some (.volumeChanged .unlock) ∧
      y.done = x.done := by
  obtain ⟨w, hw⟩ : ∃ w, w = ((moveTo .settling (clearScope (ecpReady (cuIdle u)))).setAc
      { (moveTo .settling (clearScope (ecpReady (cuIdle u)))).ac with sessionSlot := some slot, settle := some 10 }).setCe
        { key := some key } := ⟨_, rfl⟩
  have hsame : w.txns = s.txns := by simp [hw, clearScope, ecpReady, cuIdle, htxns]
  have hreport : reportUnlock slot key u = showVerdict .accept (failVolume .overlay (.volumeChanged .unlock) w) := by
    rw [hw]
    rfl
  obtain ⟨n, hn⟩ := failVolume_txn? (s := w) (by rw [State.TagsOk, hsame]; exact htags) (hsame ▸ hx) hphase
    (hactive x hx hphase) (.volumeChanged .unlock)
  rw [hoverlay] at hn
  have hshown : (reportUnlock slot key u).txn? x.tag = some (x.failed (.volumeChanged .unlock) n (w.stillWaits x.tag)) := by
    rw [hreport, ← hn]
    exact State.txn?_congr (by simp) x.tag
  obtain ⟨y, hy, hyx⟩ := settle_txn?_some hshown
  obtain ⟨-, -, -, -, -, -, hdone, hfailure, -, -, -⟩ := Txn.fields_of_fixedPart hyx
  exact ⟨y, hy, hfailure, hdone⟩

/-- The transactions of the user volume fail at the entry to ERASING (R94, R97). -/
theorem settle_enterErasing_fails {s u : State} (htxns : u.txns = s.txns) (htags : s.TagsOk) (hactive : s.ActiveOk)
    (first : StageStep) (v : Verdict) {x : Txn} (hx : x ∈ s.txns) (huser : x.volume = .user) (hphase : x.phase = .active) :
    ∃ y, (settle (showVerdict v (enterErasing first u))).txn? x.tag = some y ∧ y.failure = some (.volumeChanged .erase) ∧
      y.done = x.done := by
  have hmoved : (moveTo .erasing u).txns = s.txns := by simp [htxns]
  obtain ⟨y, hy, hfailure, hdone, -⟩ := lockEvent_fails .erase (s := moveTo .erasing u) (by rw [State.TagsOk, hmoved]; exact htags)
    (by rw [State.ActiveOk, hmoved]; exact hactive) (hmoved ▸ hx) huser hphase
  have hshown : (showVerdict v (enterErasing first u)).txn? x.tag = some y := by
    rw [← hy]
    exact State.txn?_congr (by simp [enterErasing, stage]) x.tag
  obtain ⟨z, hz, hzy⟩ := settle_txn?_some hshown
  obtain ⟨-, -, -, -, -, -, hdone', hfailure', -, -, -⟩ := Txn.fields_of_fixedPart hzy
  exact ⟨z, hz, hfailure'.trans hfailure, hdone'.trans hdone⟩

/-! ## The three kinds of match (R85, R86, R132) -/

section
variable {s : State} {i : Fin 8} {key : Key}

/-- An unlock allowed (R85, R126). -/
theorem unlockMatch_allowed (hrun : s.power = .running) (hpresented : s.PresentationOk) (htags : s.TagsOk)
    (hactive : s.ActiveOk) (hended : verifyEnded s = if (s.resulting (.hit i key)).unlockAllowed
      then unlockWrites i (s.resulting (.hit i key)) else reportRefused (s.resulting (.hit i key)))
    (hallowed : ¬ s.UnlockRefused s.ks.dev.fields.lockOnStandby) :
    (s.ac.access = .lockedVerifying → i ≠ 7 → s.ks.dev.fields.failures = 0 →
      ∃ t, exec .verifyEnd s = .next t ∧ t.ac.access = .settling ∧
        t.ac.sessionSlot = some i ∧ t.ce.key = some key ∧ t.ac.presentation = .nothing ∧
        t.atr = { volume := .nothing, highest := none } ∧ t.ac.settle = some 10 ∧
        t.uli.attn.presentation = true ∧ t.ac.scope = none ∧ t.CuDone ∧ s.Gives t .accept ∧
        ∀ x ∈ s.txns, x.volume = .overlay → x.phase = .active →
          ∃ y, t.txn? x.tag = some y ∧ y.failure = some (.volumeChanged .unlock) ∧ y.done = x.done) ∧
    (i = 7 ∨ s.ks.dev.fields.failures ≠ 0 →
      ∃ t, exec .verifyEnd s = .next t ∧ s.Unreported t ∧ t.ecp = s.ecp ∧ t.ce = s.ce ∧
        t.cu.work = .writes ∧ t.cu.result = some (.hit i key) ∧
        (i = 7 → t.CuAsks (.cred 7 (CredFields.bare .spent)) ∧ t.cu.task = .spendRecovery (s.cred 7)) ∧
        (i ≠ 7 → t.CuAsks (.dev { DevUpdate.none with failures := some 0 }) ∧
          t.cu.task = .zeroFailures s.ks.dev.fields.failures none)) := by
  rw [if_pos (State.unlockAllowed_of_not_refused (s := s.resulting (.hit i key)) hallowed)] at hended
  have hks : (s.resulting (.hit i key)).ks = s.ks := rfl
  refine ⟨fun haccess hi hzero => ?_, fun hwrites => ?_⟩
  · have hreport : verifyEnded s = reportUnlock i key (s.resulting (.hit i key)) := by
      rw [hended, unlockWrites, if_neg hi, zeroFailures, hks, if_pos hzero,
        secondQuery_allowed (s := s.resulting (.hit i key)) hallowed, reportMatch_of_hit rfl]
    obtain ⟨hsettling, hslot, hkey, hnothing, hsettle, hscope, hdone, hgives⟩ :=
      settle_reportUnlock (s := s) (u := s.resulting (.hit i key)) rfl rfl i key
    obtain ⟨hatr, hattn⟩ := settle_reportUnlock_presents (u := s.resulting (.hit i key))
      (by rw [show (s.resulting (.hit i key)).ac = s.ac from rfl, hpresented.1, haccess]; simp [Access.presentation]) i key
    exact ⟨_, exec_verifyEnd hrun, hreport ▸ ⟨hsettling, hslot, hkey, hnothing, hatr, hsettle, hattn, hscope, hdone, hgives,
      fun x hx hoverlay hphase => settle_reportUnlock_fails (u := s.resulting (.hit i key)) rfl htags hactive i key hx hoverlay
        hphase⟩⟩
  · by_cases hi : i = 7
    · have hspend : verifyEnded s = cuWrite (.spendRecovery (s.cred 7)) (.cred 7 (CredFields.bare .spent))
          (s.resulting (.hit i key)) := by
        rw [hended, unlockWrites, if_pos hi]
        rfl
      obtain ⟨hreport, hasks, hwork, htask, hresult, hecp, hce, -⟩ := settle_cuWrite (s := s) (u := s.resulting (.hit i key))
        rfl rfl (.spendRecovery (s.cred 7)) (.cred 7 (CredFields.bare .spent))
      exact ⟨_, exec_verifyEnd hrun, hspend ▸ ⟨hreport, hecp, hce, hwork, hresult, fun _ => ⟨hasks, htask⟩, absurd hi⟩⟩
    · have hzero : s.ks.dev.fields.failures ≠ 0 := hwrites.resolve_left hi
      have hzeroes : verifyEnded s = cuWrite (.zeroFailures s.ks.dev.fields.failures none)
          (.dev { DevUpdate.none with failures := some 0 }) (s.resulting (.hit i key)) := by
        rw [hended, unlockWrites, if_neg hi, zeroFailures, hks, if_neg hzero]
      obtain ⟨hreport, hasks, hwork, htask, hresult, hecp, hce, -⟩ := settle_cuWrite (s := s) (u := s.resulting (.hit i key))
        rfl rfl (.zeroFailures s.ks.dev.fields.failures none) (.dev { DevUpdate.none with failures := some 0 })
      exact ⟨_, exec_verifyEnd hrun, hzeroes ▸ ⟨hreport, hecp, hce, hwork, hresult, fun h => absurd h hi,
        fun _ => ⟨hasks, htask⟩⟩⟩

/-- An unlock refused (R85). -/
theorem unlockMatch_refused (hrun : s.power = .running) (hended : verifyEnded s = if (s.resulting (.hit i key)).unlockAllowed
      then unlockWrites i (s.resulting (.hit i key)) else reportRefused (s.resulting (.hit i key)))
    (hrefused : s.UnlockRefused s.ks.dev.fields.lockOnStandby) :
    ∃ t, exec .verifyEnd s = .next t ∧ t.ac.access = .lockedIdle ∧ s.Gives t .refused ∧ t.ac.scope = none ∧ t.CuDone ∧
      t.ks.dev = s.ks.dev ∧ t.ks.creds = s.ks.creds ∧ s.NoCuWrite t := by
  rw [((s.resulting (.hit i key)).not_unlockAllowed_iff).2 hrefused, if_neg (by simp)] at hended
  exact ⟨_, exec_verifyEnd hrun, hended ▸ settle_reportRefused (s := s) (u := s.resulting (.hit i key)) rfl rfl⟩

/-- A match for an admin session (R86, R126). -/
theorem adminMatch_spec (hrun : s.power = .running) (hended : verifyEnded s = adminMatch (s.resulting (.hit 0 key))) :
    (s.ks.dev.fields.failures = 0 → s.ks.dev.fields.rebuilt = false →
      ∃ t, exec .verifyEnd s = .next t ∧ t.ac.access = .adminSession ∧ t.ac.admin = some 300 ∧
        t.cu.sessionKey = some key ∧ t.CuDone ∧ t.ecp.adminTable = true ∧ t.ac.scope = none ∧ s.Gives t .accept) ∧
    (s.ks.dev.fields.failures ≠ 0 ∨ s.ks.dev.fields.rebuilt = true →
      ∃ t, exec .verifyEnd s = .next t ∧ s.Unreported t ∧ t.ecp = s.ecp ∧
        t.cu.work = .writes ∧ t.cu.task = .adminMatch ∧ t.cu.result = some (.hit 0 key) ∧
        t.CuAsks (.dev { DevUpdate.none with failures := some 0, rebuilt := some false })) := by
  have hks : (s.resulting (.hit 0 key)).ks = s.ks := rfl
  refine ⟨fun hzero hrebuilt => ?_, fun hwrites => ?_⟩
  · have hreport : verifyEnded s = reportAdmin key (s.resulting (.hit 0 key)) := by
      rw [hended, adminMatch, hks, if_pos ⟨hzero, hrebuilt⟩]
      rfl
    exact ⟨_, exec_verifyEnd hrun, hreport ▸ settle_reportAdmin (s := s) (u := s.resulting (.hit 0 key)) rfl rfl key⟩
  · have hzeroes : verifyEnded s = cuWrite .adminMatch
        (.dev { DevUpdate.none with failures := some 0, rebuilt := some false }) (s.resulting (.hit 0 key)) := by
      rw [hended, adminMatch, hks, if_neg]
      rintro ⟨hzero, hrebuilt⟩
      exact hwrites.elim (fun h => h hzero) fun h => by simp [hrebuilt] at h
    obtain ⟨hreport, hasks, hwork, htask, hresult, hecp, -⟩ := settle_cuWrite (s := s) (u := s.resulting (.hit 0 key))
      rfl rfl .adminMatch (.dev { DevUpdate.none with failures := some 0, rebuilt := some false })
    exact ⟨_, exec_verifyEnd hrun, hzeroes ▸ ⟨hreport, hecp, hwork, htask, hresult, hasks⟩⟩

/-- A confirmed erase (R97, R132, R134, R148). -/
theorem eraseMatch_spec (hrun : s.power = .running) (htags : s.TagsOk) (hactive : s.ActiveOk)
    (hended : verifyEnded s = reportErase (s.resulting (.hit 0 key))) :
    ∃ t, exec .verifyEnd s = .next t ∧ t.ac.access = .erasing ∧ s.Gives t .accept ∧ t.ecp.ready = true ∧
      t.ce.key = none ∧ t.cu.sessionKey = none ∧ t.ac.presentation = .overlay ∧
      (∀ x ∈ s.txns, x.volume = .user → x.phase = .active →
        ∃ y, t.txn? x.tag = some y ∧ y.failure = some (.volumeChanged .erase) ∧ y.done = x.done) ∧
      t.cu.work = .staging ∧ t.cu.task = .stage .pending ∧
      t.CuAsks (.dev { DevUpdate.none with erasePending := some true }) ∧
      t.swu.hold = true ∧ t.swu.state = (if s.swu.state = .idle then .idle else .paused) ∧
      t.swu.cursor = s.swu.cursor ∧ t.swu.retry = s.swu.retry ∧ t.swu.since = s.swu.since ∧
      t.swu.writeOut = s.swu.writeOut ∧ (∀ r ∈ t.dli.requests, r.owner ≠ .sweep) ∧
      ((∃ r ∈ s.dli.requests, r.owner = .sweep) → t.swu.discardOut = false) ∧
      ((∀ r ∈ s.dli.requests, r.owner ≠ .sweep) →
        t.swu.discardOut = s.swu.discardOut ∧ t.swu.dropResult = s.swu.discardOut) := by
  obtain ⟨u, hu⟩ : ∃ u, u = ecpReady (cuIdle (s.resulting (.hit 0 key))) := ⟨_, rfl⟩
  have hreport : verifyEnded s = showVerdict .accept (enterErasing .pending u) := by rw [hended, hu, reportErase]
  obtain ⟨haccess, ⟨-, hready⟩, hkeys, hstaging, hsweep, hrequests, -⟩ :=
    ((enterErasing_erases .pending u).showVerdict .accept).settle
  obtain ⟨hkey, hsession⟩ := hkeys
  obtain ⟨hwork, htask, hasks⟩ := hstaging
  have hgives := gives_enterErasing (s := s) (u := u) .accept .pending (by rw [hu]; rfl) (by rw [hu]; rfl) (by rw [hu]; rfl)
  have hswu : u.swu = s.swu := by rw [hu]; rfl
  have hwaits : u.discardWaits = true ↔ ∃ r ∈ s.dli.requests, r.owner = .sweep := by
    rw [show u.discardWaits = s.discardWaits by rw [hu]; rfl]
    simp [State.discardWaits]
  rw [hswu] at hsweep
  refine ⟨_, exec_verifyEnd hrun, ?_⟩
  rw [hreport, hsweep]
  refine ⟨haccess.1, hgives, hready.trans (by rw [hu]; rfl), hkey, hsession, haccess.2, fun x hx huser hphase =>
    settle_enterErasing_fails (u := u) (by rw [hu]; rfl) htags hactive .pending .accept hx huser hphase, hwork, htask, hasks, rfl,
    rfl, rfl, rfl, rfl, rfl, hrequests, fun h => if_pos (hwaits.2 h), fun hnone => ?_⟩
  have hno : ¬ u.discardWaits = true := fun h => by
    obtain ⟨r, hr, howner⟩ := hwaits.1 h
    exact hnone r hr howner
  exact ⟨if_neg hno, if_neg hno⟩

end

/-! ## The end of an ENROL (R92, R126, R131) -/

/-- A change overtaken by a lock event is dropped (R92). -/
theorem enrolEnd_overtaken {s : State} (hrun : s.power = .running) (hwork : s.cu.work = .verify)
    (hkind : s.cu.kind = some .enrol) (h : s.cu.overtaken = true) :
    ∃ t, exec .verifyEnd s = .next t ∧ t.CuDone ∧ s.NoCuWrite t ∧ s.Unreported t := by
  refine ⟨_, exec_verifyEnd hrun, ?_⟩
  cases hresult : s.verifyOutcome .enrol with
  | noMatch =>
    rw [verifyEnded_enrol_noMatch hwork hkind hresult, if_pos h]
    refine ⟨⟨?_, ?_⟩, settle_onlySweepAsks ⟨[], ?_, by simp⟩, ?_, givesNone_settle rfl rfl⟩ <;>
      simp [ecpReady, cuIdle, State.resulting]
  | hit j key =>
    have hended : verifyEnded s = reportEnd .refused (s.resulting (.hit j key)) := verifyEnded_hit hwork hkind hresult
    rw [hended]
    obtain ⟨hdone, hasks⟩ := settle_reportEnd (u := s.resulting (.hit j key)) .refused
    exact ⟨hdone, hasks, settle_reportEnd_overtaken (s := s) (u := s.resulting (.hit j key)) rfl rfl h .refused⟩

/-- A PIN that opens another slot is REFUSED (R131). -/
theorem enrolEnd_match {s : State} {digits : List Digit} {i : Fin 8} (hrun : s.power = .running) (hwork : s.cu.work = .verify)
    (hkind : s.cu.kind = some .enrol) (hdigits : s.cu.digits = some digits) (htarget : s.cu.target = some i)
    (h : s.cu.overtaken = false) (hmatch : ∃ j, j ≠ i ∧ slotMatches (s.cred j) digits = true)
    (haccess : s.ac.access = .blankRepeat ∨ s.ac.access = .change ∨ s.ac.access = .adminSession) :
    ∃ t, exec .verifyEnd s = .next t ∧ s.Gives t .refused ∧ t.CuDone ∧ s.NoCuWrite t ∧
      t.ac.access = s.ac.access.restingPlace ∧ (s.ac.access = .adminSession → t.ac.admin = some 300) := by
  obtain ⟨j, hj, hmatch⟩ := hmatch
  obtain ⟨k, key, hresult⟩ := State.verifyOutcome_isHit (k := .enrol) hdigits
    ((mem_verifySet .enrol s.cu.target j).2 (by simpa [htarget] using hj)) hmatch
  have hended : verifyEnded s = reportEnd .refused (s.resulting (.hit k key)) := verifyEnded_hit hwork hkind hresult
  obtain ⟨hdone, hasks⟩ := settle_reportEnd (u := s.resulting (.hit k key)) .refused
  obtain ⟨hblank, hchange, hadmin⟩ := settle_reportEnd_gives (s := s) (u := s.resulting (.hit k key)) rfl rfl h .refused
  refine ⟨_, exec_verifyEnd hrun, ?_⟩
  rw [hended]
  rcases haccess with haccess | haccess | haccess
  · obtain ⟨hgives, hplace⟩ := hblank haccess
    exact ⟨hgives, hdone, hasks, by simpa [haccess, Access.restingPlace] using hplace, by simp [haccess]⟩
  · obtain ⟨hgives, hplace⟩ := hchange haccess
    exact ⟨hgives, hdone, hasks, by simpa [haccess, Access.restingPlace] using hplace, by simp [haccess]⟩
  · obtain ⟨hgives, hplace, htimer⟩ := hadmin haccess
    exact ⟨hgives, hdone, hasks, by simpa [haccess, Access.restingPlace] using hplace, fun _ => htimer⟩

/-- A new PIN is written to its target (R126, R131). -/
theorem enrolEnd_noMatch {s : State} {digits : List Digit} {i : Fin 8} {key : Key} (hrun : s.power = .running)
    (hwork : s.cu.work = .verify) (hkind : s.cu.kind = some .enrol) (hdigits : s.cu.digits = some digits)
    (htarget : s.cu.target = some i) (h : s.cu.overtaken = false) (hmiss : ∀ j, j ≠ i → slotMatches (s.cred j) digits = false)
    (hkey : s.enrolKey = some key) :
    ∃ t, exec .verifyEnd s = .next t ∧ s.Unreported t ∧ t.ecp = s.ecp ∧ t.cu.work = .writes ∧ t.cu.task = .enrol ∧
      t.draws = s.draws + 1 ∧ t.CuAsks (.cred i (newRecord digits key s.draws)) := by
  have hresult : s.verifyOutcome .enrol = .noMatch := State.verifyOutcome_noMatch hdigits fun j hj =>
    hmiss j (by simpa [htarget] using (mem_verifySet .enrol s.cu.target j).1 hj)
  have hended : verifyEnded s = cuWrite .enrol (.cred i (newRecord digits key s.draws))
      { s.resulting .noMatch with draws := s.draws + 1 } := by
    rw [verifyEnded_enrol_noMatch hwork hkind hresult, h, if_neg (by simp), enrolWrite,
      show (s.resulting .noMatch).enrolKey = s.enrolKey from rfl, hkey,
      show (s.resulting .noMatch).cu.target = s.cu.target from rfl, htarget,
      show (s.resulting .noMatch).cu.digits = s.cu.digits from rfl, hdigits]
    rfl
  obtain ⟨hreport, hasks, hwork', htask, -, hecp, -, hdraws, -⟩ := settle_cuWrite (s := s)
    (u := { s.resulting .noMatch with draws := s.draws + 1 }) rfl rfl .enrol (.cred i (newRecord digits key s.draws))
  exact ⟨_, exec_verifyEnd hrun, hended ▸ ⟨hreport, hecp, hwork', htask, hdraws, hasks⟩⟩

/-! ## The obligation -/

/-- The one slot that the digits open is the result of each kind whose set holds it. -/
theorem State.verifyOutcome_of_opens {s : State} {k : VerifyKind} {digits : List Digit} {i : Fin 8} {key : Key}
    (hdigits : s.cu.digits = some digits) (hi : i ∈ verifySet k s.cu.target) (hstatus : (s.cred i).status = .active)
    (hcount : (s.cred i).digitCount = digits.length)
    (hverifier : Config.verifierOf digits (s.cred i).salt = (s.cred i).verifier)
    (hothers : ∀ j, j ≠ i → (s.cred j).status ≠ .active ∨ Config.verifierOf digits (s.cred j).salt ≠ (s.cred j).verifier)
    (hkey : key = (Config.wrapping (Config.wrappingKeyOf digits (s.cred i).salt)).symm (s.cred i).wrapped) :
    s.verifyOutcome k = .hit i key := by
  have hunwrap : key = unwrapKey (s.cred i) digits := hkey
  rw [hunwrap]
  refine State.verifyOutcome_hit hdigits hi ((slotMatches_iff _ _).2 ⟨hstatus, hcount, hverifier⟩) fun j hj => ?_
  rw [← Bool.not_eq_true, slotMatches_iff]
  rintro ⟨hactive, -, hsame⟩
  exact (hothers j hj).elim (fun h => h hactive) fun h => h hsame

/-- Settles O55: the match by the kind of the verify, and the three ends of an ENROL. -/
theorem matchIsReported : Obligations.MatchIsReported := by
  refine ⟨fun s k digits i key hrun hpresented htags hactive hwork hkind hdigits hstatus hcount hverifier hothers hkey => ?_,
    fun s digits i hrun hwork hkind hdigits htarget => ⟨fun h => enrolEnd_overtaken hrun hwork hkind h, fun h hmatch haccess => ?_,
      fun key h hmiss hkey => ?_⟩⟩
  · have hended (hi : i ∈ verifySet k s.cu.target) := verifyEnded_hit hwork hkind
      (State.verifyOutcome_of_opens hdigits hi hstatus hcount hverifier hothers hkey)
    refine ⟨?_, ?_, ?_, ?_⟩
    · rintro rfl hallowed
      exact unlockMatch_allowed hrun hpresented htags hactive (hended ((mem_verifySet _ _ _).2 trivial)) hallowed
    · rintro rfl hrefused
      exact unlockMatch_refused hrun (hended ((mem_verifySet _ _ _).2 trivial)) hrefused
    · rintro rfl rfl
      exact adminMatch_spec hrun (hended ((mem_verifySet _ _ _).2 rfl))
    · rintro rfl rfl
      exact eraseMatch_spec hrun htags hactive (hended ((mem_verifySet _ _ _).2 rfl))
  · obtain ⟨j, hj, hmatches⟩ := hmatch
    exact enrolEnd_match hrun hwork hkind hdigits htarget h ⟨j, hj, (slotMatches_iff _ _).2 hmatches⟩ haccess
  · refine enrolEnd_noMatch hrun hwork hkind hdigits htarget h (fun j hj => ?_) ?_
    · rw [← Bool.not_eq_true, slotMatches_iff]
      exact hmiss j hj
    · unfold State.enrolKey
      rcases hkey with ⟨hpurpose, rfl⟩ | ⟨hpurpose, hkey⟩ | ⟨hblank, hchange, hkey⟩
      · rw [hpurpose]
      · rw [hpurpose]
        exact hkey
      · split
        · exact absurd ‹_› hblank
        · exact absurd ‹_› hchange
        · exact hkey

end Sys2Proof.Machine


/-! PROOF. The end of a key-store write (R122): the images and the write queue, and what follows it in the CU and the SWU. -/

namespace Sys2Proof.Machine

open Sys2Proof

/-! ## The write queue grows, and the records stay (R122) -/

/-- From `s` to `t` no record of the key store has changed, and its queue has only grown. -/
structure StoreKept (s t : State) : Prop where
  nvm : t.ks.nvm = s.ks.nvm
  creds : t.ks.creds = s.ks.creds
  dev : t.ks.dev = s.ks.dev
  queue : ∃ more, t.ks.queue = s.ks.queue ++ more

theorem StoreKept.of_same {s t : State} (h : t.ks = s.ks) : StoreKept s t :=
  ⟨by rw [h], by rw [h], by rw [h], [], by rw [h, List.append_nil]⟩

theorem StoreKept.trans {s t u : State} (h1 : StoreKept s t) (h2 : StoreKept t u) : StoreKept s u where
  nvm := h2.nvm.trans h1.nvm
  creds := h2.creds.trans h1.creds
  dev := h2.dev.trans h1.dev
  queue := by
    obtain ⟨l, hl⟩ := h1.queue
    obtain ⟨m, hm⟩ := h2.queue
    exact ⟨l ++ m, by rw [hm, hl, List.append_assoc]⟩

theorem StoreKept.after {s u t : State} (hut : StoreKept u t) (h : u.ks = s.ks) : StoreKept s t :=
  ⟨by rw [hut.nvm, h], by rw [hut.creds, h], by rw [hut.dev, h], by simpa [h] using hut.queue⟩

theorem StoreKept.ksRequest (r : KsReq) {s u : State} (h : u.ks = s.ks) : StoreKept s (ksRequest r u) := by
  obtain ⟨hnvm, hcreds, hdev, hqueue⟩ := ksRequest_ks r u
  exact ⟨by rw [hnvm, h], by rw [hcreds, h], by rw [hdev, h], [r], by rw [hqueue, h]⟩

theorem StoreKept.settle (s : State) : StoreKept s (settle s) := by
  obtain ⟨hnvm, hcreds, hdev⟩ := (settle_sweep s).store
  obtain ⟨more, hmore, -⟩ := (settle_sweep s).asks
  exact ⟨hnvm, hcreds, hdev, more, hmore⟩

theorem StoreKept.cuWrite (task : CuTask) (body : KsBody) (s : State) : StoreKept s (cuWrite task body s) := .ksRequest _ rfl

theorem StoreKept.stage (first : StageStep) (s : State) : StoreKept s (stage first s) := .ksRequest _ rfl

theorem StoreKept.enterErasing (first : StageStep) (s : State) : StoreKept s (enterErasing first s) := by
  obtain ⟨-, -, -, -, -, -, hnvm, hcreds, hdev, hqueue⟩ := enterErasing_erases first s
  exact ⟨hnvm, hcreds, hdev, _, hqueue⟩

theorem StoreKept.restore (count : Option Nat) (former : Option CredFields) (s : State) : StoreKept s (restore count former s) := by
  unfold Machine.restore
  split
  · exact .cuWrite _ _ s
  · exact .cuWrite _ _ s
  · exact .of_same (by simp)

theorem StoreKept.secondQuery (count : Option Nat) (former : Option CredFields) (s : State) :
    StoreKept s (secondQuery count former s) := by
  unfold Machine.secondQuery
  split
  · exact .of_same (by simp)
  · exact .restore count former s

theorem StoreKept.zeroFailures (former : Option CredFields) (s : State) : StoreKept s (zeroFailures former s) := by
  unfold Machine.zeroFailures
  split
  · exact .secondQuery none former s
  · exact .cuWrite _ _ s

theorem StoreKept.clearNext (l : List (Fin 8)) (s : State) : StoreKept s (clearNext l s) := by
  unfold Machine.clearNext
  split
  · exact .of_same (by simp)
  · exact .cuWrite _ _ s

theorem StoreKept.takeHandover (h : Handover) (s : State) : StoreKept s (takeHandover h s) := by
  unfold Machine.takeHandover
  split
  · exact .of_same rfl
  · exact .of_same rfl
  · exact .of_same rfl
  · split
    · exact .of_same rfl
    · exact .of_same (by simp)
  · exact .clearNext _ s
  · exact .cuWrite _ _ s

theorem StoreKept.reportNoMatch (f : Nat) (s : State) : StoreKept s (reportNoMatch f s) := by
  unfold Machine.reportNoMatch
  dsimp only
  split
  · exact .trans ((StoreKept.enterErasing (.slot 7) (clearScope (ecpReady (cuIdle s)))).after rfl) (.of_same (by simp))
  · split
    · exact .of_same (by simp [clearScope, ecpReady, cuIdle])
    · exact .of_same (by simp [clearScope, ecpReady, cuIdle])

theorem StoreKept.nextStage (step : StageStep) (s : State) : StoreKept s (nextStage step s) := by
  unfold Machine.nextStage
  split
  · exact .stage _ s
  · split
    · exact .stage _ s
    · exact .stage _ s
  · exact .of_same (by simp)

theorem StoreKept.cuWritten (s : State) : StoreKept s (cuWritten s) := by
  unfold Machine.cuWritten
  split
  · exact .of_same rfl
  · dsimp only
    split
    · exact .of_same rfl
    next h _ => exact (StoreKept.takeHandover h ((cuIdle s).setCu { (cuIdle s).cu with waiting := none })).after rfl
  · exact .zeroFailures _ s
  · exact .secondQuery _ _ s
  · exact .restore _ _ s
  · exact .of_same (by simp)
  · split
    · exact .of_same (by simp)
    · exact .of_same rfl
  · exact .reportNoMatch _ s
  · exact .of_same (by simp)
  · exact .of_same (by simp)
  · exact .clearNext _ s
  · exact .nextStage _ s

theorem StoreKept.makeDue (s : State) : StoreKept s (makeDue s) := by
  unfold Machine.makeDue
  split
  · exact .of_same rfl
  · split
    · exact .of_same rfl
    · split
      · split
        · exact .of_same (by simp [requestWindow])
        · exact .ksRequest _ rfl
      · exact .of_same rfl

theorem StoreKept.cursorWritten (wasNone : Bool) (s : State) : StoreKept s (cursorWritten wasNone s) := by
  unfold Machine.cursorWritten
  dsimp only
  split
  · exact .of_same rfl
  · split
    · exact .of_same (by simp)
    · exact (StoreKept.makeDue (s.setSwu { s.swu with writeOut := false })).after rfl

/-! ## The write completed (R122) -/

/-- The state as the owner of the completed write is told of it: the records hold its content, and the next write has begun. -/
def State.written (s : State) (w : KsContent) : State := s.setKs (s.ks.endWrite w)

theorem Ks.endWrite_records (k : Ks) (w : KsContent) : (k.endWrite w).queue = k.queue.tail ∧
    (∀ i q, w = .cred i q → (k.endWrite w).creds = k.creds.set i.val q ∧ (k.endWrite w).nvm.creds = k.nvm.creds.set i.val q ∧
      (k.endWrite w).dev = k.dev ∧ (k.endWrite w).nvm.dev = k.nvm.dev) ∧
    ∀ q, w = .dev q → (k.endWrite w).dev = q ∧ (k.endWrite w).nvm.dev = q ∧ (k.endWrite w).creds = k.creds ∧
      (k.endWrite w).nvm.creds = k.nvm.creds := by
  have hbegin (l : Ks) : l.begin.queue = l.queue ∧ l.begin.creds = l.creds ∧ l.begin.dev = l.dev ∧ l.begin.nvm = l.nvm := by
    unfold Ks.begin
    split <;> exact ⟨rfl, rfl, rfl, rfl⟩
  obtain ⟨hqueue, hcreds, hdev, hnvm⟩ := hbegin { k.takeContent w with queue := k.queue.tail, writing := none }
  unfold Ks.endWrite
  refine ⟨hqueue, ?_, ?_⟩
  · rintro i q rfl
    exact ⟨hcreds, by rw [hnvm]; rfl, hdev, by rw [hnvm]; rfl⟩
  · rintro q rfl
    exact ⟨hdev, by rw [hnvm]; rfl, hcreds, by rw [hnvm]; rfl⟩

/-! ## The staged erase (R135) -/

/-- A step of the staged erase asks for its write, and reports nothing. -/
theorem settle_stage {s u : State} (hac : u.ac = s.ac) (hind : u.ind = s.ind) (step : StageStep) :
    (settle (stage step u)).CuAsks (stageWrite step u) ∧ s.Unreported (settle (stage step u)) ∧
    (settle (stage step u)).cu.task = .stage step := by
  obtain ⟨-, -, -, hqueue⟩ := ksRequest_ks { bySweep := false, body := stageWrite step u }
    (u.setCu { u.cu with work := .staging, task := .stage step })
  refine ⟨settle_queue ?_, ⟨by simp [stage, hac], givesNone_settle (by simp [stage, hind]) (by simp [stage, hac])⟩, by simp [stage]⟩
  rw [show (stage step u).ks.queue = _ from hqueue]
  exact List.mem_append_right _ (List.mem_singleton_self _)

/-- The cursor at 0 stays there in the closure of an event. -/
theorem zeroCursor_closing : Closing (fun s t => s.swu.cursor = some 0 → t.swu.cursor = some 0) where
  refl _ := id
  trans h1 h2 := h2 ∘ h1
  startJob b x s _ _ h := by simpa using h
  dataWaits s h := by simpa using h
  releaseHold s h := by
    unfold Machine.releaseHold
    split
    · unfold Machine.makeDue
      split
      · exact h
      · split
        · exact h
        · split
          next u c _ hc =>
            split
            · simpa [requestWindow] using h
            next hle =>
              have hzero : c = 0 := by simpa [hc] using h
              have hu : u = 0 := by omega
              simp [requestCursor, hu]
          · exact h
    · exact h
  issue d r s _ _ h := by
    rw [issue_swu]
    exact h
  cipherTake s h := by simpa using h
  grant s h := by simpa using h
  judge s h := by simpa using h

/-- The end of the erase: BLANK.FIRST, and a new pass from 0, whose first window is due where nothing holds it back (R97,
R137, R141, R142). -/
theorem settle_eraseDone {s u : State} (hac : u.ac = s.ac) (hind : u.ind = s.ind) (hswu : u.swu = s.swu) (hdli : u.dli = s.dli)
    (htxns : u.txns = s.txns) :
    (settle (eraseDone u)).ac.access = .blankFirst ∧ s.GivesNone (settle (eraseDone u)) ∧ (settle (eraseDone u)).CuDone ∧
    (settle (eraseDone u)).swu.cursor = some 0 ∧ (settle (eraseDone u)).swu.hold = false ∧
    (settle (eraseDone u)).swu.state ≠ .idle ∧ (settle (eraseDone u)).ce.key = none ∧
    (settle (eraseDone u)).cu.sessionKey = none ∧
    (s.swu.discardOut = false → s.swu.writeOut = false → s.userOps = 0 → (∀ x ∈ s.txns, x.volume ≠ .user) →
      (s.dli.media ≠ .ok → (settle (eraseDone u)).swu.state = .paused) ∧
      ∀ n, s.dli.media = .ok → s.dli.usable = some n → 0 < n → (settle (eraseDone u)).WindowDue 0 n) := by
  obtain ⟨v, hv⟩ : ∃ v, v = eraseDone u := ⟨_, rfl⟩
  have hvswu : v.swu = { s.swu with state := .issuing, cursor := some 0, retry := false, since := 0, hold := false } := by
    simp [hv, eraseDone, sweepStart, ecpReady, cuIdle, hswu]
  have hvdli : v.dli = s.dli := by simp [hv, hdli]
  have hvtxns : v.txns = s.txns := by simp [hv, htxns]
  have hwork : v.cu.work = .idle ∧ v.cu.sessionKey = none ∧ v.ecp.ready = true ∧ v.ce.key = none ∧ v.ac.access = .blankFirst ∧
      v.ac.held = s.ac.held := by
    simp [hv, eraseDone, sweepStart, ecpReady, cuIdle, hac, Access.unlocked]
  obtain ⟨hidle, hsession, hready, hkey, haccess, hheld⟩ := hwork
  rw [← hv]
  refine ⟨by simp [haccess], givesNone_settle (by simp [hv, hind]) hheld, ⟨by simp [hidle], by simp [hready]⟩,
    zeroCursor_closing.settle v (by rw [hvswu]), by rw [settle_hold, hvswu], (settle_sweep v).busy (by simp [hvswu]),
    by simp [hkey], by simp [hsession], fun hdiscard hwrite hops huser => ⟨fun hne => ?_, fun n hok hn hpos => ?_⟩⟩
  · obtain ⟨hpaused, -⟩ := settle_pauses (s := v) (by rw [hvswu]; exact hdiscard) (by rw [hvswu]; exact hwrite) (by rw [hvswu])
      (by rw [State.userOps, hvdli]; exact hops) (by rw [hvdli]; exact hne)
    rw [hpaused]
  · have hdue : v.MayMakeDue 0 n := ⟨by rw [hvswu]; exact hdiscard, by rw [hvswu]; exact hwrite, by rw [hvswu], by rw [hvdli]; exact hok,
      by rw [hvdli]; exact hn, by rw [hvswu]⟩
    refine ⟨fun _ => settle_releases hdue (by rw [hvswu]) (by rw [State.userOps, hvdli]; exact hops) (by rw [hvtxns]; exact huser)
      hpos, fun hle => ?_⟩
    omega

/-! ## The SWU's write (R145, R146, R148) -/

theorem cursorWritten_held {u : State} (h : u.swu.hold = true) (wasNone : Bool) :
    cursorWritten wasNone u = u.setSwu { u.swu with writeOut := false } := by rw [cursorWritten, h]; rfl

theorem cursorWritten_none {u : State} (h : u.swu.hold = false) : cursorWritten true u = attention .sweepDone
    (u.setSwu { u.swu with writeOut := false, state := .idle, cursor := none, retry := false, since := 0 }) := by
  rw [cursorWritten]
  dsimp only
  rw [if_neg (by simp [h]), if_pos rfl]

theorem cursorWritten_cursor {u : State} (h : u.swu.hold = false) :
    cursorWritten false u = makeDue (u.setSwu { u.swu with writeOut := false }) := by
  rw [cursorWritten, h]
  rfl

/-- Under the hold nothing of an earlier pass goes on (R148). -/
theorem settle_cursorWritten_held {u : State} (h : u.swu.hold = true) (hstate : u.swu.state ≠ .issuing) (wasNone : Bool) :
    (settle (cursorWritten wasNone u)).ks = u.ks ∧
    (settle (cursorWritten wasNone u)).swu = { u.swu with writeOut := false } := by
  rw [cursorWritten_held h]
  obtain ⟨hswu, hks⟩ := (settle_sweep (u.setSwu { u.swu with writeOut := false })).still hstate
  exact ⟨hks, hswu⟩

/-- The end of the pass (R146). -/
theorem settle_cursorWritten_none {u : State} (h : u.swu.hold = false) :
    (settle (cursorWritten true u)).swu.state = .idle ∧ (settle (cursorWritten true u)).swu.cursor = none ∧
    (settle (cursorWritten true u)).swu.retry = false ∧ (settle (cursorWritten true u)).swu.since = 0 ∧
    (settle (cursorWritten true u)).swu.writeOut = false ∧ (settle (cursorWritten true u)).uli.attn.sweepDone = true := by
  rw [cursorWritten_none h, settle_attn, ((settle_sweep _).still (by simp)).1]
  simp [attention, Attn.join]

/-- The pass goes on behind its cursor write, or is PAUSED (R141, R145). -/
theorem settle_cursorWritten_cursor {u : State} {c n : Nat} (h : u.swu.hold = false) (hdiscard : u.swu.discardOut = false)
    (hcursor : u.swu.cursor = some c) (husable : u.dli.usable = some n) (hc : c < n) :
    (u.dli.media = .ok → (settle (cursorWritten false u)).swu.writeOut = false ∧
      (settle (cursorWritten false u)).swu.cursor = some c ∧ (settle (cursorWritten false u)).swu.discardOut = true ∧
      (settle (cursorWritten false u)).Asked (.discard c (min 256 (n - c))) .sweep) ∧
    (u.dli.media ≠ .ok → (settle (cursorWritten false u)).swu = { u.swu with writeOut := false, state := .paused }) := by
  rw [cursorWritten_cursor h]
  obtain ⟨v, hv⟩ : ∃ v, v = u.setSwu { u.swu with writeOut := false } := ⟨_, rfl⟩
  have hvswu : v.swu = { u.swu with writeOut := false } := by rw [hv]; rfl
  have hvdli : v.dli = u.dli := by rw [hv]; rfl
  rw [← hv]
  refine ⟨fun hok => ?_, fun hne => ?_⟩
  · have hdue : v.MayMakeDue c n := ⟨by rw [hvswu]; exact hdiscard, by rw [hvswu], by rw [hvswu]; exact h, by rw [hvdli]; exact hok,
      by rw [hvdli]; exact husable, by rw [hvswu]; exact hcursor⟩
    obtain ⟨hswu, -, hasked⟩ := hdue.window hc
    obtain ⟨hcursor', -, hout, hwrite, -⟩ := settle_swu_out (s := makeDue v) (by simp [hswu])
    exact ⟨by rw [hwrite, hswu, hvswu], by rw [hcursor', hswu, hvswu]; exact hcursor, by rw [hout, hswu], settle_asked hasked⟩
  · have hpaused : makeDue v = v.setSwu { v.swu with state := .paused } :=
      makeDue_paused (by rw [hvswu]; exact hdiscard) (by rw [hvswu]) (.inl (by rw [hvdli]; exact hne))
    rw [hpaused, ((settle_sweep (v.setSwu { v.swu with state := .paused })).still (by simp)).1, hvswu]
    rfl

end Sys2Proof.Machine


/-! PROOF. KS_WRITE_COMPLETE: what the CU does at the end of its write, by its task (R87, R126, R127, R131, R132, R135, R165). -/

namespace Sys2Proof.Machine

open Sys2Proof

/-- The state in which the owner of a completed write is told of it is `s` but for the key store. -/
structure State.Told (s u : State) : Prop where
  ac : u.ac = s.ac
  ind : u.ind = s.ind
  cu : u.cu = s.cu
  ecp : u.ecp = s.ecp
  dli : u.dli = s.dli
  swu : u.swu = s.swu
  txns : u.txns = s.txns

theorem State.written_told (s : State) (w : KsContent) : s.Told (s.written w) := ⟨rfl, rfl, rfl, rfl, rfl, rfl, rfl⟩

section
variable {s u : State}

theorem State.Told.unlockRefused (h : s.Told u) (lock : Bool) : u.UnlockRefused lock ↔ s.UnlockRefused lock := by
  rw [State.UnlockRefused, h.ac, h.dli]

/-! ## The writes of a matched unlock (R126, R127) -/

/-- Slot 7 is SPENT, and the failure count is still to clear. -/
theorem told_spendRecovery (h : s.Told u) {f : CredFields} (htask : s.cu.task = .spendRecovery f)
    (hfailures : u.ks.dev.fields.failures ≠ 0) :
    (settle (cuWritten u)).CuAsks (.dev { DevUpdate.none with failures := some 0 }) ∧ s.Unreported (settle (cuWritten u)) ∧
    (settle (cuWritten u)).cu.work = .writes ∧
    (settle (cuWritten u)).cu.task = .zeroFailures u.ks.dev.fields.failures (some f) := by
  have hwrite : cuWritten u = cuWrite (.zeroFailures u.ks.dev.fields.failures (some f))
      (.dev { DevUpdate.none with failures := some 0 }) u := by
    rw [cuWritten, h.cu, htask]
    exact if_neg hfailures
  obtain ⟨hreport, hasks, hwork, htask', -⟩ := settle_cuWrite (s := s) h.ac h.ind
    (.zeroFailures u.ks.dev.fields.failures (some f)) (.dev { DevUpdate.none with failures := some 0 })
  rw [hwrite]
  exact ⟨hasks, hreport, hwork, htask'⟩

/-- The last write of a matched unlock ends in the second query (R127). -/
theorem cuWritten_secondQuery (h : s.Told u) {count : Option Nat} {former : Option CredFields}
    (hlast : (∃ f, s.cu.task = .spendRecovery f ∧ u.ks.dev.fields.failures = 0 ∧ count = none ∧ former = some f) ∨
      ∃ n, s.cu.task = .zeroFailures n former ∧ count = some n) : cuWritten u = secondQuery count former u := by
  rcases hlast with ⟨f, htask, hzero, rfl, rfl⟩ | ⟨n, htask, rfl⟩
  · rw [cuWritten, h.cu, htask]
    exact if_pos hzero
  · rw [cuWritten, h.cu, htask]

/-- The unlock is still allowed at the second query (R127). -/
theorem told_secondQuery_allowed (h : s.Told u) {count : Option Nat} {former : Option CredFields}
    (hlast : cuWritten u = secondQuery count former u) (hallowed : ¬ s.UnlockRefused u.ks.dev.fields.lockOnStandby) (slot : Fin 8)
    (key : Key) (hresult : s.cu.result = some (.hit slot key)) :
    (settle (cuWritten u)).ac.access = .settling ∧ (settle (cuWritten u)).ac.sessionSlot = some slot ∧
    (settle (cuWritten u)).ce.key = some key ∧ (settle (cuWritten u)).ac.presentation = .nothing ∧
    (settle (cuWritten u)).ac.settle = some 10 ∧ (settle (cuWritten u)).ac.scope = none ∧
    (settle (cuWritten u)).CuDone ∧ s.Gives (settle (cuWritten u)) .accept := by
  rw [hlast, secondQuery_allowed (by rw [h.unlockRefused]; exact hallowed), reportMatch_of_hit (by rw [h.cu]; exact hresult)]
  exact settle_reportUnlock h.ac h.ind slot key

/-- The unlock is refused at the second query: the records changed are restored (R127). -/
theorem told_secondQuery_refused (h : s.Told u) {count : Option Nat} {former : Option CredFields}
    (hlast : cuWritten u = secondQuery count former u) (hrestores : count ≠ none ∨ former ≠ none)
    (hrefused : s.UnlockRefused u.ks.dev.fields.lockOnStandby) :
    s.Unreported (settle (cuWritten u)) ∧ (settle (cuWritten u)).cu.work = .writes ∧
    (∀ n, count = some n → (settle (cuWritten u)).CuAsks (.dev { DevUpdate.none with failures := some n }) ∧
      (settle (cuWritten u)).cu.task = .restoreFailures former) ∧
    (∀ f, count = none → former = some f → (settle (cuWritten u)).CuAsks (.cred 7 f) ∧
      (settle (cuWritten u)).cu.task = .restoreRecovery) := by
  rw [hlast, secondQuery_refused (by rw [h.unlockRefused]; exact hrefused)]
  cases count with
  | some n =>
    obtain ⟨hreport, hasks, hwork, htask, -⟩ := settle_cuWrite (s := s) h.ac h.ind (.restoreFailures former)
      (.dev { DevUpdate.none with failures := some n })
    refine ⟨hreport, hwork, fun m hm => ?_, by simp⟩
    cases hm
    exact ⟨hasks, htask⟩
  | none =>
    cases former with
    | none => simp at hrestores
    | some f =>
      obtain ⟨hreport, hasks, hwork, htask, -⟩ := settle_cuWrite (s := s) h.ac h.ind .restoreRecovery (.cred 7 f)
      refine ⟨hreport, hwork, by simp, fun g _ hg => ?_⟩
      cases hg
      exact ⟨hasks, htask⟩

/-- The failure count is restored, and slot 7 is next (R127). -/
theorem told_restoreFailures (h : s.Told u) {f : CredFields} (htask : s.cu.task = .restoreFailures (some f)) :
    (settle (cuWritten u)).CuAsks (.cred 7 f) ∧ s.Unreported (settle (cuWritten u)) ∧
    (settle (cuWritten u)).cu.work = .writes ∧ (settle (cuWritten u)).cu.task = .restoreRecovery := by
  obtain ⟨hreport, hasks, hwork, htask', -⟩ := settle_cuWrite (s := s) h.ac h.ind .restoreRecovery (.cred 7 f)
  have hwrite : cuWritten u = cuWrite .restoreRecovery (.cred 7 f) u := by
    rw [cuWritten, h.cu, htask]
    rfl
  rw [hwrite]
  exact ⟨hasks, hreport, hwork, htask'⟩

/-- The restoration is over: REFUSED (R85, R127). -/
theorem told_restored (h : s.Told u) (htask : s.cu.task = .restoreFailures none ∨ s.cu.task = .restoreRecovery) :
    (settle (cuWritten u)).ac.access = .lockedIdle ∧ s.Gives (settle (cuWritten u)) .refused ∧
    (settle (cuWritten u)).ac.scope = none ∧ (settle (cuWritten u)).CuDone ∧
    (settle (cuWritten u)).OnlySweepAsks u.ks.queue := by
  have hreport : cuWritten u = reportRefused u := by
    rcases htask with htask | htask
    · rw [cuWritten, h.cu, htask]
      rfl
    · rw [cuWritten, h.cu, htask]
  obtain ⟨haccess, hgives, hscope, hdone, -, -, hasks⟩ := settle_reportRefused (s := s) h.ac h.ind
  rw [hreport]
  exact ⟨haccess, hgives, hscope, hdone, hasks⟩

/-! ## The hand-over behind the rebuild write (R165) -/

/-- The CU as it takes the hand-over that waited. -/
def State.resumed (u : State) : State := (cuIdle u).setCu { (cuIdle u).cu with waiting := none }

theorem cuWritten_rebuild (h : s.Told u) (htask : s.cu.task = .rebuild) : cuWritten u =
    match s.cu.waiting with
    | none => cuIdle u
    | some o => takeHandover o u.resumed := by
  have hwaiting : (cuIdle u).cu.waiting = s.cu.waiting := by rw [← h.cu]; rfl
  rw [cuWritten, h.cu, htask]
  dsimp only
  rw [hwaiting]
  cases s.cu.waiting <;> rfl

@[simp] theorem reportEnd_waiting (v : Verdict) (u : State) : (reportEnd v u).cu.waiting = u.cu.waiting := by
  unfold reportEnd
  dsimp only
  split
  · rfl
  · split <;> simp [ecpReady, cuIdle]

theorem takeHandover_waiting (o : Handover) (u : State) : (takeHandover o u).cu.waiting = u.cu.waiting := by
  have hclear (l : List (Fin 8)) : (clearNext l u).cu.waiting = u.cu.waiting := by
    cases l with
    | nil => exact reportEnd_waiting .accept u
    | cons i l => simp [clearNext, cuWrite_cu]
  unfold takeHandover
  split
  · rfl
  · rfl
  · rfl
  · split
    · rfl
    · simp
  · exact hclear _
  · simp [cuWrite_cu]

theorem told_rebuild_waiting (h : s.Told u) (htask : s.cu.task = .rebuild) : (settle (cuWritten u)).cu.waiting = none := by
  rw [cuWritten_rebuild h htask]
  split
  next hnone =>
    simp only [settle_frame]
    rw [← hnone, ← h.cu]
    rfl
  next o _ =>
    simp only [settle_frame]
    exact takeHandover_waiting o u.resumed

/-- With nothing waiting the CU is idle. -/
theorem told_rebuild_idle (h : s.Told u) (htask : s.cu.task = .rebuild) (hnone : s.cu.waiting = none) :
    (settle (cuWritten u)).cu.work = .idle ∧ s.Unreported (settle (cuWritten u)) ∧ (settle (cuWritten u)).ecp = s.ecp ∧
    (settle (cuWritten u)).OnlySweepAsks u.ks.queue := by
  have hidle : cuWritten u = cuIdle u := by rw [cuWritten_rebuild h htask, hnone]
  rw [hidle]
  exact ⟨by simp [cuIdle], ⟨by simp [cuIdle, h.ac], givesNone_settle h.ind (by rw [← h.ac]; rfl)⟩, by simp [cuIdle, h.ecp],
    settle_onlySweepAsks ⟨[], by simp [cuIdle], by simp⟩⟩

/-- A verify that waited begins. -/
theorem settle_startVerify (h : s.Told u) (k : VerifyKind) (d : List Digit) (target : Option (Fin 8)) (purpose : Option EnrolFor) :
    (settle (startVerify k d target purpose u.resumed)).cu.work = .verify ∧
    (settle (startVerify k d target purpose u.resumed)).cu.kind = some k ∧
    (settle (startVerify k d target purpose u.resumed)).cu.digits = some d ∧
    (settle (startVerify k d target purpose u.resumed)).cu.target = target ∧
    (settle (startVerify k d target purpose u.resumed)).cu.purpose = purpose ∧
    s.Unreported (settle (startVerify k d target purpose u.resumed)) ∧
    (settle (startVerify k d target purpose u.resumed)).ecp = s.ecp := by
  refine ⟨?_, ?_, ?_, ?_, ?_, ⟨?_, givesNone_settle h.ind (by rw [← h.ac]; rfl)⟩, ?_⟩
  · simp [startVerify]
  · simp [startVerify]
  · simp [startVerify]
  · simp [startVerify]
  · simp [startVerify]
  · simp [State.resumed, cuIdle, h.ac]
  · simp [State.resumed, cuIdle, h.ecp]

theorem told_rebuild_verify (h : s.Told u) (htask : s.cu.task = .rebuild) {k : VerifyKind} {d : List Digit}
    (hwaiting : (k = .unlock ∧ s.cu.waiting = some (.unlock d)) ∨ (k = .admin ∧ s.cu.waiting = some (.admin d)) ∨
      (k = .eraseConfirm ∧ s.cu.waiting = some (.eraseConfirm d))) :
    (settle (cuWritten u)).cu.work = .verify ∧ (settle (cuWritten u)).cu.kind = some k ∧
    (settle (cuWritten u)).cu.digits = some d ∧ s.Unreported (settle (cuWritten u)) ∧
    (settle (cuWritten u)).ecp = s.ecp := by
  have hstart : cuWritten u = startVerify k d none none u.resumed := by
    rcases hwaiting with ⟨rfl, hwaiting⟩ | ⟨rfl, hwaiting⟩ | ⟨rfl, hwaiting⟩ <;>
      rw [cuWritten_rebuild h htask, hwaiting] <;> rfl
  obtain ⟨hwork, hkind, hdigits, -, -, hreport, hecp⟩ := settle_startVerify h k d none none
  rw [hstart]
  exact ⟨hwork, hkind, hdigits, hreport, hecp⟩

theorem told_rebuild_enrol (h : s.Told u) (htask : s.cu.task = .rebuild) {p : EnrolFor} {d : List Digit} {i : Fin 8}
    (hwaiting : s.cu.waiting = some (.enrol p d))
    (htarget : (p = .blank ∨ p = .adminPin) ∧ i = 0 ∨ p = .recovery ∧ i = 7 ∨ p = .change ∧ s.ac.sessionSlot = some i ∨
      p = .userSlot ∧ 1 ≤ i.val ∧ i.val ≤ 6 ∧ (u.cred i).status = .empty ∧
        ∀ j : Fin 8, 1 ≤ j.val → j.val < i.val → (u.cred j).status ≠ .empty) :
    (settle (cuWritten u)).cu.work = .verify ∧ (settle (cuWritten u)).cu.kind = some .enrol ∧
    (settle (cuWritten u)).cu.digits = some d ∧ (settle (cuWritten u)).cu.target = some i ∧
    (settle (cuWritten u)).cu.purpose = some p ∧ s.Unreported (settle (cuWritten u)) ∧
    (settle (cuWritten u)).ecp = s.ecp := by
  have hfound : u.resumed.enrolTarget p = some i := by
    rcases htarget with ⟨rfl | rfl, rfl⟩ | ⟨rfl, rfl⟩ | ⟨rfl, hslot⟩ | ⟨rfl, hlow, hhigh, hempty, hbelow⟩
    · rfl
    · rfl
    · rfl
    · rw [← hslot, ← h.ac]
      rfl
    · exact State.emptyUserSlot_eq (s := u.resumed) hlow hhigh hempty hbelow
  have hstart : cuWritten u = startVerify .enrol d (some i) (some p) u.resumed := by
    rw [cuWritten_rebuild h htask, hwaiting]
    dsimp only
    rw [takeHandover, hfound]
  rw [hstart]
  exact settle_startVerify h .enrol d (some i) (some p)

/-- A hand-over whose work is one write. -/
theorem told_rebuild_write (h : s.Told u) {task : CuTask} {body : KsBody} (hwrite : cuWritten u = cuWrite task body u.resumed) :
    (settle (cuWritten u)).CuAsks body ∧ (settle (cuWritten u)).cu.work = .writes ∧ (settle (cuWritten u)).cu.task = task ∧
    s.Unreported (settle (cuWritten u)) ∧ (settle (cuWritten u)).ecp = s.ecp := by
  obtain ⟨hreport, hasks, hwork, htask, -, hecp, -⟩ := settle_cuWrite (s := s) (u := u.resumed) h.ac h.ind task body
  rw [hwrite]
  exact ⟨hasks, hwork, htask, hreport, hecp.trans h.ecp⟩

theorem told_rebuild_setting (h : s.Told u) (htask : s.cu.task = .rebuild) {x : DevUpdate}
    (hwaiting : s.cu.waiting = some (.setting x)) :
    (settle (cuWritten u)).CuAsks (.dev x) ∧ (settle (cuWritten u)).cu.work = .writes ∧
    (settle (cuWritten u)).cu.task = .setting ∧ s.Unreported (settle (cuWritten u)) ∧
    (settle (cuWritten u)).ecp = s.ecp :=
  told_rebuild_write h (by rw [cuWritten_rebuild h htask, hwaiting]; rfl)

theorem told_rebuild_clear (h : s.Told u) (htask : s.cu.task = .rebuild) {asked more : List (Fin 8)} {i : Fin 8}
    (hwaiting : s.cu.waiting = some (.clear asked))
    (hslots : asked.filter (fun i => decide ((u.cred i).status ≠ .empty)) = i :: more) :
    (settle (cuWritten u)).CuAsks (.cred i (CredFields.bare .empty)) ∧ (settle (cuWritten u)).cu.work = .writes ∧
    (settle (cuWritten u)).cu.task = .clear more ∧ s.Unreported (settle (cuWritten u)) ∧
    (settle (cuWritten u)).ecp = s.ecp := by
  refine told_rebuild_write h ?_
  have hcred : u.resumed.cred = u.cred := rfl
  rw [cuWritten_rebuild h htask, hwaiting]
  dsimp only
  rw [takeHandover, filter_notEmpty, hcred, hslots, clearNext]

/-! ## Matches, ends and clears (R86, R126, R131, R132) -/

theorem told_adminMatch (h : s.Told u) (htask : s.cu.task = .adminMatch) {slot : Fin 8} {key : Key}
    (hresult : s.cu.result = some (.hit slot key)) :
    (settle (cuWritten u)).ac.access = .adminSession ∧ (settle (cuWritten u)).ac.admin = some 300 ∧
    (settle (cuWritten u)).cu.sessionKey = some key ∧ (settle (cuWritten u)).ecp.adminTable = true ∧
    (settle (cuWritten u)).ac.scope = none ∧ (settle (cuWritten u)).CuDone ∧ s.Gives (settle (cuWritten u)) .accept := by
  have hreport : cuWritten u = reportAdmin key u := by
    rw [cuWritten, h.cu, htask]
    dsimp only
    rw [hresult]
  obtain ⟨haccess, htimer, hkey, hdone, htable, hscope, hgives⟩ := settle_reportAdmin (s := s) h.ac h.ind key
  rw [hreport]
  exact ⟨haccess, htimer, hkey, htable, hscope, hdone, hgives⟩

theorem told_end (h : s.Told u) (htask : s.cu.task = .enrol ∨ s.cu.task = .setting ∨ s.cu.task = .clear []) :
    (settle (cuWritten u)).CuDone ∧ (settle (cuWritten u)).OnlySweepAsks u.ks.queue ∧
    (s.cu.overtaken = true → s.Unreported (settle (cuWritten u))) ∧
    (s.cu.overtaken = false →
      (s.ac.access = .blankRepeat → (settle (cuWritten u)).ac.access = .lockedIdle ∧ s.Gives (settle (cuWritten u)) .accept) ∧
      (s.ac.access = .change → (settle (cuWritten u)).ac.access = .presented ∧ s.Gives (settle (cuWritten u)) .accept) ∧
      (s.ac.access = .adminSession → (settle (cuWritten u)).ac.access = .adminSession ∧
        (settle (cuWritten u)).ac.admin = some 300 ∧ s.Gives (settle (cuWritten u)) .accept)) := by
  have hreport : cuWritten u = reportEnd .accept u := by
    rcases htask with htask | htask | htask
    · rw [cuWritten, h.cu, htask]
    · rw [cuWritten, h.cu, htask]
    · rw [cuWritten, h.cu, htask]
      rfl
  obtain ⟨hdone, hasks⟩ := settle_reportEnd (u := u) .accept
  rw [hreport]
  refine ⟨hdone, hasks, fun hovertaken => settle_reportEnd_overtaken h.ac h.ind (by rw [h.cu]; exact hovertaken) .accept,
    fun hovertaken => ?_⟩
  obtain ⟨hblank, hchange, hadmin⟩ := settle_reportEnd_gives h.ac h.ind (by rw [h.cu]; exact hovertaken) .accept
  refine ⟨fun haccess => ?_, fun haccess => ?_, fun haccess => ?_⟩
  · obtain ⟨hgives, hplace⟩ := hblank haccess
    exact ⟨hplace, hgives⟩
  · obtain ⟨hgives, hplace⟩ := hchange haccess
    exact ⟨hplace, hgives⟩
  · obtain ⟨hgives, hplace, htimer⟩ := hadmin haccess
    exact ⟨hplace, htimer, hgives⟩

theorem told_clear (h : s.Told u) {i : Fin 8} {more : List (Fin 8)} (htask : s.cu.task = .clear (i :: more)) :
    (settle (cuWritten u)).CuAsks (.cred i (CredFields.bare .empty)) ∧ s.Unreported (settle (cuWritten u)) ∧
    (settle (cuWritten u)).cu.work = .writes ∧ (settle (cuWritten u)).cu.task = .clear more := by
  have hwrite : cuWritten u = cuWrite (.clear more) (.cred i (CredFields.bare .empty)) u := by
    rw [cuWritten, h.cu, htask]
    rfl
  obtain ⟨hreport, hasks, hwork, htask', -⟩ := settle_cuWrite (s := s) h.ac h.ind (.clear more)
    (.cred i (CredFields.bare .empty))
  rw [hwrite]
  exact ⟨hasks, hreport, hwork, htask'⟩

/-! ## The no-match reported (R87) -/

/-- Below the attempt limit the part locks, with the throttle delay from the third failure on (R87, R130). -/
theorem settle_reportNoMatch_below (h : s.Told u) {f : Nat} (hlimit : ¬ u.ks.dev.fields.limit ≤ f) :
    s.Gives (settle (reportNoMatch f u)) .reject ∧ (settle (reportNoMatch f u)).ecp.ready = true ∧
    (settle (reportNoMatch f u)).ac.scope = none ∧
    (settle (reportNoMatch f u)).ac.access = (if 3 ≤ f then .lockout else .lockedIdle) ∧
    ((settle (reportNoMatch f u)).ac.access = .lockout → (settle (reportNoMatch f u)).ac.lockout = some (throttleTicks f)) := by
  unfold reportNoMatch
  dsimp only
  rw [if_neg hlimit]
  by_cases hthree : 3 ≤ f
  · rw [if_pos hthree, if_pos hthree]
    refine ⟨(gives_showVerdict .reject ?_ ?_ ?_).settle, ?_, ?_, ?_, ?_⟩ <;>
      simp [clearScope, ecpReady, cuIdle, h.ac, h.ind]
  · rw [if_neg hthree, if_neg hthree]
    refine ⟨(gives_showVerdict .reject ?_ ?_ ?_).settle, ?_, ?_, ?_, ?_⟩ <;>
      simp [clearScope, ecpReady, cuIdle, h.ac, h.ind]

/-- At the attempt limit the part erases (R87, R97, R134). -/
theorem settle_reportNoMatch_limit (h : s.Told u) {f : Nat} (hlimit : u.ks.dev.fields.limit ≤ f) :
    s.Gives (settle (reportNoMatch f u)) .reject ∧ (settle (reportNoMatch f u)).ecp.ready = true ∧
    (settle (reportNoMatch f u)).ac.scope = none ∧ (settle (reportNoMatch f u)).ac.access = .erasing ∧
    (settle (reportNoMatch f u)).swu.hold = true ∧
    (settle (reportNoMatch f u)).swu.state = (if s.swu.state = .idle then .idle else .paused) ∧
    (settle (reportNoMatch f u)).swu.cursor = s.swu.cursor ∧
    (∀ x ∈ (settle (reportNoMatch f u)).dli.requests, x.owner ≠ .sweep) ∧ (settle (reportNoMatch f u)).ce.key = none ∧
    (settle (reportNoMatch f u)).cu.sessionKey = none ∧ (settle (reportNoMatch f u)).cu.work = .staging ∧
    (settle (reportNoMatch f u)).cu.task = .stage (.slot 7) ∧
    (settle (reportNoMatch f u)).CuAsks (.cred 7 (CredFields.bare .empty)) := by
  obtain ⟨v, hv⟩ : ∃ v, v = clearScope (ecpReady (cuIdle u)) := ⟨_, rfl⟩
  have hreport : reportNoMatch f u = showVerdict .reject (enterErasing (.slot 7) v) := by
    unfold reportNoMatch
    dsimp only
    rw [if_pos hlimit, hv]
  obtain ⟨haccess, hkept, hkeys, hstaging, hsweep, hrequests, -⟩ :=
    ((enterErasing_erases (.slot 7) v).showVerdict .reject).settle
  obtain ⟨hscope, hready⟩ := hkept
  obtain ⟨hkey, hsession⟩ := hkeys
  obtain ⟨hwork, htask, hasks⟩ := hstaging
  have hswu : v.swu = s.swu := by rw [hv, ← h.swu]; rfl
  rw [hswu] at hsweep
  rw [hreport, hsweep]
  exact ⟨gives_enterErasing .reject (.slot 7) (by rw [hv, ← h.ind]; rfl) (by rw [hv, ← h.ac]; rfl) (by rw [hv, ← h.ac]; rfl),
    hready.trans (by rw [hv]; rfl), hscope.trans (by rw [hv]; rfl), haccess.1, rfl, rfl, rfl, hrequests, hkey, hsession, hwork,
    htask, hasks⟩

theorem told_failure (h : s.Told u) {f : Nat} (htask : s.cu.task = .failure f) :
    s.Gives (settle (cuWritten u)) .reject ∧ (settle (cuWritten u)).ecp.ready = true ∧
    (settle (cuWritten u)).ac.scope = none ∧
    (settle (cuWritten u)).ac.access =
      (if u.ks.dev.fields.limit ≤ f then .erasing else if 3 ≤ f then .lockout else .lockedIdle) ∧
    ((settle (cuWritten u)).ac.access = .lockout → (settle (cuWritten u)).ac.lockout = some (throttleTicks f)) ∧
    (u.ks.dev.fields.limit ≤ f → (settle (cuWritten u)).swu.hold = true ∧
      (settle (cuWritten u)).swu.state = (if s.swu.state = .idle then .idle else .paused) ∧
      (settle (cuWritten u)).swu.cursor = s.swu.cursor ∧
      (∀ x ∈ (settle (cuWritten u)).dli.requests, x.owner ≠ .sweep) ∧ (settle (cuWritten u)).ce.key = none ∧
      (settle (cuWritten u)).cu.sessionKey = none ∧ (settle (cuWritten u)).cu.work = .staging ∧
      (settle (cuWritten u)).cu.task = .stage (.slot 7) ∧
      (settle (cuWritten u)).CuAsks (.cred 7 (CredFields.bare .empty))) := by
  have hreport : cuWritten u = reportNoMatch f u := by rw [cuWritten, h.cu, htask]
  rw [hreport]
  by_cases hlimit : u.ks.dev.fields.limit ≤ f
  · obtain ⟨hgives, hready, hscope, haccess, herase⟩ := settle_reportNoMatch_limit h hlimit
    rw [if_pos hlimit]
    exact ⟨hgives, hready, hscope, haccess, fun hlockout => absurd (haccess.symm.trans hlockout) (by simp), fun _ => herase⟩
  · obtain ⟨hgives, hready, hscope, haccess, hlockout⟩ := settle_reportNoMatch_below h hlimit
    rw [if_neg hlimit]
    exact ⟨hgives, hready, hscope, haccess, hlockout, fun hreached => absurd hreached hlimit⟩

/-! ## The steps of the erase (R135) -/

theorem told_stage (h : s.Told u) {step next : StageStep} (htask : s.cu.task = .stage step)
    (hnext : nextStage step u = stage next u) :
    (settle (cuWritten u)).CuAsks (stageWrite next u) ∧ s.Unreported (settle (cuWritten u)) ∧
    (settle (cuWritten u)).cu.task = .stage next := by
  have hstage : cuWritten u = stage next u := by rw [cuWritten, h.cu, htask, ← hnext]
  rw [hstage]
  exact settle_stage h.ac h.ind next

theorem cuWritten_final (h : s.Told u) (htask : s.cu.task = .stage .final) : cuWritten u = eraseDone u := by
  rw [cuWritten, h.cu, htask]
  rfl

end

end Sys2Proof.Machine


/-! PROOF. KS_WRITE_COMPLETE (R122): what was awaited follows, for the CU by its task and for the SWU by its request. -/

namespace Sys2Proof.Machine

open Sys2Proof

/-- Settles O56: the records and the next write by `Ks.endWrite`, and what was awaited by the owner of the write. -/
theorem writeCompletion : Obligations.WriteCompletion := by
  intro s r rest w hrun hqueue hwriting
  obtain ⟨u, hu⟩ : ∃ u, u = s.written w := ⟨_, rfl⟩
  have htold : s.Told u := by rw [hu]; exact s.written_told w
  obtain ⟨hrest, hcredential, hdevice⟩ := s.ks.endWrite_records w
  have huks : u.ks = s.ks.endWrite w := by rw [hu]; rfl
  rw [← huks] at hrest hcredential hdevice
  rw [hqueue, List.tail_cons] at hrest
  have hwritten : (r.bySweep = false → ksWritten s = cuWritten u) ∧
      (r.bySweep = true → ksWritten s = cursorWritten r.body.isNone u) := by
    rw [hu]
    exact ⟨ksWritten_of_cu hqueue hwriting, ksWritten_of_sweep hqueue hwriting⟩
  obtain ⟨hcu, hsweep⟩ := hwritten
  have hkept : StoreKept u (settle (ksWritten s)) ∧ (settle (ksWritten s)).WritingOk := by
    have hok : u.WritingOk := by rw [hu]; exact Ks.endWrite_writingOk s w
    cases hby : r.bySweep with
    | false =>
      rw [hcu hby]
      exact ⟨(StoreKept.cuWritten u).trans (.settle _), writing_walk.settle _ (writing_walk.cuWritten u hok)⟩
    | true =>
      rw [hsweep hby]
      exact ⟨(StoreKept.cursorWritten _ u).trans (.settle _), writing_walk.settle _ (writing_walk.cursorWritten _ u hok)⟩
  obtain ⟨⟨hnvm, hcreds, hdev, hmore⟩, hok⟩ := hkept
  rw [hrest] at hmore
  refine ⟨_, exec_ksWriteComplete hrun, hmore, hok, fun i q hw => ?_, fun q hw => ?_, fun hby => ?_, fun hby => ?_⟩
  · obtain ⟨h1, h2, h3, h4⟩ := hcredential i q hw
    exact ⟨hcreds.trans h1, by rw [hnvm]; exact h2, hdev.trans h3, by rw [hnvm]; exact h4⟩
  · obtain ⟨h1, h2, h3, h4⟩ := hdevice q hw
    exact ⟨hdev.trans h1, by rw [hnvm]; exact h2, hcreds.trans h3, by rw [hnvm]; exact h4⟩
  · rw [hcu hby] at hdev hcreds ⊢
    have hcred : (settle (cuWritten u)).cred = u.cred := by
      funext i
      rw [State.cred, State.cred, hcreds]
    rw [hdev, hcred, ← hrest]
    refine ⟨fun f htask hne => told_spendRecovery htold htask hne, fun count former hlast => ?_,
      fun f htask => told_restoreFailures htold htask, told_restored htold,
      fun htask => ⟨told_rebuild_waiting htold htask, told_rebuild_idle htold htask, fun k d => told_rebuild_verify htold htask,
        fun p d i => told_rebuild_enrol htold htask, fun x => told_rebuild_setting htold htask,
        fun l i m => told_rebuild_clear htold htask⟩,
      fun slot key htask => told_adminMatch htold htask, told_end htold, fun i more htask => told_clear htold htask,
      fun f q htask hw => ?_, fun htask => told_stage htold htask (next := .slot 7) rfl,
      fun i htask hi => told_stage htold htask (next := .slot (i - 1)) (if_neg hi), fun htask => ?_, fun htask => ?_⟩
    · have hquery := cuWritten_secondQuery htold hlast
      refine ⟨fun hallowed slot key => told_secondQuery_allowed htold hquery hallowed slot key,
        fun hrefused => told_secondQuery_refused htold hquery ?_ hrefused⟩
      rcases hlast with ⟨f, -, -, -, hf⟩ | ⟨n, -, hn⟩
      · exact .inr (by simp [hf])
      · exact .inl (by simp [hn])
    · have hfailure := told_failure htold htask
      rw [(hdevice q hw).1] at hfailure
      exact hfailure
    · obtain ⟨hasks, hreport, htask'⟩ := told_stage htold htask (next := .final) rfl
      exact ⟨hreport, htask', hasks⟩
    · rw [cuWritten_final htold htask]
      exact settle_eraseDone htold.ac htold.ind htold.swu htold.dli htold.txns
  · rw [hsweep hby, ← htold.swu, ← htold.dli]
    refine ⟨⟨by simp [htold.ac], givesNone_settle (by simp [htold.ind]) (by simp [htold.ac])⟩, by simp [htold.cu],
      by simp [htold.ecp], fun hhold hstate => ?_, fun hnone hhold => ?_,
      fun c n hsome hhold hdiscard hcursor husable hc => ?_⟩
    · obtain ⟨hks, hswu⟩ := settle_cursorWritten_held hhold hstate r.body.isNone
      exact ⟨by rw [hks, hrest], hswu⟩
    · rw [hnone]
      exact settle_cursorWritten_none hhold
    · rw [hsome]
      exact settle_cursorWritten_cursor hhold hdiscard hcursor husable hc

end Sys2Proof.Machine


/-! PROOF. What waits on the link, taken by a part that rests in LOCKED, LOCKOUT, ERASING or BLANK.FIRST with nothing composed
(R19, R163): it leaves the access state, the keys, the CU, the key store and what the sweep has asked for. -/

namespace Sys2Proof.Machine

open Sys2Proof

/-! ## The sweep's DISCARD -/

/-- What the sweep has asked for in `s` is asked for in `t`. -/
def SweepAsked (s t : State) : Prop := ∀ op, s.Asked op .sweep → t.Asked op .sweep

theorem SweepAsked.of_dli {s t : State} (h : t.dli = s.dli) : SweepAsked s t := fun op hasked => by
  rw [State.Asked, h]
  exact hasked

theorem SweepAsked.trans {s t u : State} (h1 : SweepAsked s t) (h2 : SweepAsked t u) : SweepAsked s u :=
  fun op h => h2 op (h1 op h)

theorem SweepAsked.of_filter {s t : State} {p : DReq → Bool} (hrequests : t.dli.requests = s.dli.requests.filter p)
    (hp : ∀ r : DReq, r.owner = .sweep → p r = true) (hslots : t.dli.slots = s.dli.slots) : SweepAsked s t := by
  rintro op (⟨r, hr, hop, howner⟩ | hslot)
  · exact .inl ⟨r, by rw [hrequests]; exact List.mem_filter.2 ⟨hr, hp r howner⟩, hop, howner⟩
  · exact .inr (by rw [hslots]; exact hslot)

theorem SweepAsked.failTxn (t : Fin 16) (f : Failure) (s : State) : SweepAsked s (failTxn t f s) := by
  have hslots := failTxn_slots t f s
  by_cases h : ∃ x, s.txn? t = some x ∧ x.phase = .active ∧ x.failure = none
  · obtain ⟨x, hx, hactive, hfresh⟩ := h
    have hdli := failTxn_dli hx hactive hfresh f
    split at hdli
    · exact .of_filter (congrArg Dli.requests hdli) (fun r hr => by simp [hr]) hslots
    · split at hdli
      · exact .of_filter (congrArg Dli.requests hdli) (fun r hr => by simp [hr, ownerIn]) hslots
      · exact .of_dli hdli
  · rw [failTxn_of_inactive fun x hx => ?_]
    · exact .of_dli rfl
    · by_contra hne
      exact h ⟨x, hx, by simpa [not_or] using hne⟩

theorem SweepAsked.makeRequest (op : DOp) (o : Owner) (s : State) : SweepAsked s (makeRequest op o s) := by
  unfold Machine.makeRequest
  split
  · rintro q (⟨r, hr, h⟩ | hslot)
    · exact .inl ⟨r, List.mem_append_left _ hr, h⟩
    · exact .inr hslot
  · exact fun q h => h

theorem SweepAsked.syncIfUnmarked (t : Fin 16) (s : State) : SweepAsked s (syncIfUnmarked t s) := by
  unfold Machine.syncIfUnmarked
  split
  · split
    · exact .makeRequest _ _ s
    · exact .of_dli rfl
  · exact .of_dli rfl

theorem SweepAsked.takeRequest (r : Request) (s : State) : SweepAsked s (takeRequest r s) := by
  have hreload : SweepAsked s (if r.isTransfer then reloadIdle s else s) := .of_dli (by split <;> simp)
  unfold Machine.takeRequest
  dsimp only
  generalize (if r.isTransfer then reloadIdle s else s) = v at hreload
  split
  · exact hreload.trans (.of_dli (by simp))
  · split
    · exact hreload.trans (.failTxn _ _ _)
    · split
      · exact hreload.trans (.of_dli (by simp))
      next k _ _ =>
        have hadmitted : SweepAsked v (v.setTxns (v.txns ++ [v.admitted k (tagOf r.tag) r])) := .of_dli rfl
        exact (hreload.trans hadmitted).trans (.syncIfUnmarked _ _)

theorem SweepAsked.emptyTable (s : State) : SweepAsked s (emptyTable s) := by
  obtain ⟨hrequests, hslots, -⟩ := emptyTable_dli s
  rintro op (⟨r, hr, hop, howner⟩ | ⟨x, hx, hop, howner⟩)
  · refine .inl ⟨r, ?_, hop, howner⟩
    rw [hrequests, List.mem_filter, List.mem_filter]
    exact ⟨⟨hr, by simp [howner, ownerIn]⟩, by simp [howner, ownerIsFlush]⟩
  · refine .inr ⟨{ x with owner := ownerOrphaned x.owner }, ?_, hop, by simp [howner, ownerOrphaned]⟩
    rw [hslots]
    exact List.mem_map_of_mem hx

/-! ## An item taken at rest -/

/-- The AC is not in UNLOCKED, and nothing is composed. -/
def State.Rests (s : State) : Prop := s.ac.access.unlocked = false ∧ s.composing = false

theorem composing_congr {s t : State} (haccess : t.ac.access = s.ac.access) (hecp : t.ecp = s.ecp) : t.composing = s.composing := by
  unfold State.composing
  rw [haccess, hecp]

/-- From `s` to `t` the access state, the keys, the CU and the records of the key store have stayed. -/
structure RestsOn (s t : State) : Prop where
  power : t.power = s.power
  access : t.ac.access = s.ac.access
  lockout : t.ac.lockout = s.ac.lockout
  presentation : t.ac.presentation = s.ac.presentation
  ce : t.ce = s.ce
  cu : t.cu = s.cu
  rests : t.Rests
  store : StoreKept s t
  hold : t.swu.hold = s.swu.hold
  idle : t.swu.state = .idle ↔ s.swu.state = .idle

/-- So has the window of the sweep, where it is due. -/
structure StaysAtRest (s t : State) : Prop extends RestsOn s t where
  window : ∀ c u, s.WindowDue c u → t.WindowDue c u

theorem StaysAtRest.refl {s : State} (h : s.Rests) : StaysAtRest s s :=
  ⟨⟨rfl, rfl, rfl, rfl, rfl, rfl, h, .of_same rfl, rfl, .rfl⟩, fun _ _ => id⟩

theorem RestsOn.trans {s t u : State} (h1 : RestsOn s t) (h2 : RestsOn t u) : RestsOn s u where
  power := h2.power.trans h1.power
  access := h2.access.trans h1.access
  lockout := h2.lockout.trans h1.lockout
  presentation := h2.presentation.trans h1.presentation
  ce := h2.ce.trans h1.ce
  cu := h2.cu.trans h1.cu
  rests := h2.rests
  store := h1.store.trans h2.store
  hold := h2.hold.trans h1.hold
  idle := h2.idle.trans h1.idle

theorem StaysAtRest.trans {s t u : State} (h1 : StaysAtRest s t) (h2 : StaysAtRest t u) : StaysAtRest s u where
  toRestsOn := h1.toRestsOn.trans h2.toRestsOn
  window c u h := h2.window c u (h1.window c u h)

/-- A state with the same key store and sweep, but for what others have asked of the link. -/
theorem StaysAtRest.of_same {s t : State} (hpower : t.power = s.power) (haccess : t.ac.access = s.ac.access)
    (hlockout : t.ac.lockout = s.ac.lockout) (hpresentation : t.ac.presentation = s.ac.presentation) (hce : t.ce = s.ce)
    (hcu : t.cu = s.cu) (hrests : t.Rests) (hks : t.ks = s.ks) (hswu : t.swu = s.swu) (hasked : SweepAsked s t) : StaysAtRest s t where
  power := hpower
  access := haccess
  lockout := hlockout
  presentation := hpresentation
  ce := hce
  cu := hcu
  rests := hrests
  store := .of_same hks
  hold := by rw [hswu]
  idle := by rw [hswu]
  window c u h := by
    refine ⟨fun hc => ?_, fun hle => by rw [hswu, hks]; exact h.2 hle⟩
    obtain ⟨hcursor, hout, hdiscard⟩ := h.1 hc
    rw [hswu]
    exact ⟨hcursor, hout, hasked _ hdiscard⟩

theorem State.Rests.of_same {s t : State} (h : s.Rests) (haccess : t.ac.access = s.ac.access) (hecp : t.ecp = s.ecp) : t.Rests :=
  ⟨by rw [haccess]; exact h.1, by rw [composing_congr haccess hecp]; exact h.2⟩

theorem StaysAtRest.takeRequest (r : Request) {s : State} (h : s.Rests) : StaysAtRest s (takeRequest r s) := by
  have hac : (Machine.takeRequest r s).ac = s.ac := by
    have hsame : (if r.isTransfer then reloadIdle s else s) = s := by simp [reloadIdle_of_locked h.1]
    unfold Machine.takeRequest
    rw [hsame]
    dsimp only
    (repeat' split) <;> simp
  exact .of_same (by simp) (by rw [hac]) (by rw [hac]) (by rw [hac]) (by simp) (by simp) (h.of_same (by rw [hac]) (by simp)) (by simp)
    (by simp) (.takeRequest r s)

theorem StaysAtRest.emptyTable {s : State} (h : s.Rests) : StaysAtRest s (emptyTable s) :=
  .of_same rfl rfl rfl rfl rfl rfl (h.of_same rfl rfl) rfl rfl (.emptyTable s)

/-- SUSPEND taken at rest locks nothing and cancels nothing (R98). -/
theorem StaysAtRest.takeSuspend {s : State} (h : s.Rests) : StaysAtRest s (takeSuspend s) := by
  refine (StaysAtRest.emptyTable h).trans ?_
  have hrests : (Machine.emptyTable s).Rests := h.of_same rfl rfl
  cases hstandby : s.ac.standby with
  | true =>
    rw [takeSuspend_standby hstandby]
    exact .refl hrests
  | false =>
    rw [takeSuspend_awake hstandby]
    obtain ⟨u, hu⟩ : ∃ u, u = Machine.emptyTable s := ⟨_, rfl⟩
    rw [← hu] at hrests ⊢
    have hlock : suspendLock u = u := by simp [suspendLock, hrests.1]
    have hcomposing : (stopKeypad (u.setAc { u.ac with standby := true, changed := false })).composing = false :=
      (composing_congr (s := u) rfl rfl).trans hrests.2
    have hclear : enterStandby u = darken (clearComposition (stopKeypad (u.setAc { u.ac with standby := true, changed := false }))) := by
      rw [enterStandby, suspendComposer, if_neg (by simp [hcomposing])]
    have hcleared : (enterStandby u).Rests := by
      refine ⟨?_, ?_⟩
      · rw [hclear]
        exact hrests.1
      · have hnot := hrests.2
        rw [hclear]
        unfold State.composing at hnot ⊢
        simp only [darken_frame, clearComposition_frame, stopKeypad_frame]
        cases haccess : u.ac.access <;> simp_all [clearComposition]
    rw [hlock]
    rw [hclear] at hcleared ⊢
    exact .of_same rfl rfl rfl rfl rfl rfl hcleared rfl rfl (.of_dli rfl)

theorem StaysAtRest.takeResume {s : State} (h : s.Rests) : StaysAtRest s (takeResume s) := by
  obtain ⟨haccess, hpresentation, -⟩ := takeResume_ac s
  have hlockout : (Machine.takeResume s).ac.lockout = s.ac.lockout := by
    cases hstandby : s.ac.standby with
    | true => rw [(takeResume_standby hstandby).1]
    | false => simp [Machine.takeResume, hstandby]
  exact .of_same (by simp) haccess hlockout hpresentation (by simp) (by simp) (h.of_same haccess (by simp)) (by simp) (by simp)
    (.of_dli (by simp))

theorem StaysAtRest.take (i : LinkItem) {s : State} (h : s.Rests) : StaysAtRest s (i.take s) := by
  cases i with
  | request r => exact .takeRequest r h
  | writeData tag sector =>
    exact .of_same (by simp [LinkItem.take]) (by simp [LinkItem.take]) (by simp [LinkItem.take]) (by simp [LinkItem.take])
      (by simp [LinkItem.take]) (by simp [LinkItem.take]) (h.of_same (by simp [LinkItem.take]) (by simp [LinkItem.take]))
      (by simp [LinkItem.take]) (by simp [LinkItem.take]) (.of_dli (by simp [LinkItem.take]))
  | linkReset =>
    have hreload : takeLinkReset s = Machine.emptyTable s := reloadIdle_of_locked (s := Machine.emptyTable s) h.1
    show StaysAtRest s (takeLinkReset s)
    rw [hreload]
    exact .emptyTable h
  | suspend => exact .takeSuspend h
  | resume => exact .takeResume h

theorem StaysAtRest.settle {s : State} (h : s.Rests) : StaysAtRest s (settle s) where
  power := by simp
  access := by simp
  lockout := by simp
  presentation := by simp
  ce := by simp
  cu := by simp
  rests := h.of_same (by simp) (by simp)
  store := .settle s
  hold := by simp
  idle := by
    constructor
    · intro hidle
      by_contra hne
      exact (settle_sweep s).busy hne hidle
    · intro hidle
      rw [((settle_sweep s).still (by simp [hidle])).1, hidle]
  window c u hdue := by
    refine ⟨fun hc => ?_, fun hle => ?_⟩
    · obtain ⟨hcursor, hout, hasked⟩ := hdue.1 hc
      obtain ⟨hcursor', -, hout', -⟩ := settle_swu_out (s := s) (.inl hout)
      exact ⟨hcursor'.trans hcursor, hout'.trans hout, settle_asked hasked⟩
    · obtain ⟨hcursor, hwrite, hqueue⟩ := hdue.2 hle
      obtain ⟨hcursor', -, -, hwrite', -⟩ := settle_swu_out (s := s) (.inr hwrite)
      exact ⟨hcursor'.trans hcursor, hwrite'.trans hwrite, settle_queue hqueue⟩

theorem StaysAtRest.drain (n : Nat) {s : State} (h : s.Rests) : StaysAtRest s (drain n s) := by
  induction n generalizing s with
  | zero => exact .refl h
  | succ n ih =>
    unfold Machine.drain
    split
    · exact .refl h
    next i _ =>
      have hleft : StaysAtRest s (s.setUli { s.uli with link := s.uli.link.erase i }) :=
        .of_same rfl rfl rfl rfl rfl rfl (h.of_same rfl rfl) rfl rfl (.of_dli rfl)
      have htaken := hleft.trans (.take i hleft.rests)
      have hsettled := htaken.trans (.settle htaken.rests)
      exact hsettled.trans (ih hsettled.rests)

theorem StaysAtRest.settleLink {s : State} (h : s.Rests) : StaysAtRest s (settleLink s) :=
  (StaysAtRest.settle h).trans (.drain _ (StaysAtRest.settle h).rests)

end Sys2Proof.Machine


/-! PROOF. KS_READING_COMPLETE (R81, R121, R140, R164): the images, the sweep, the first access state and the rebuild write. -/

namespace Sys2Proof.Machine

open Sys2Proof

/-! ## The images (R121) -/

/-- The state as the AC chooses from it: the images read, and the sweep as the image has it. -/
def State.imaged (s : State) : State := sweepAtStart (readImages s)

theorem State.imaged_same (s : State) : s.imaged.dli = s.dli ∧ s.imaged.ks.nvm = s.ks.nvm ∧
    s.imaged.ks.creds = s.ks.nvm.creds.map CredRecord.image ∧ s.imaged.ks.dev = s.ks.nvm.dev.image := by
  unfold State.imaged sweepAtStart
  split <;> exact ⟨rfl, rfl, rfl, rfl⟩

theorem State.imaged_swu (s : State) : s.imaged.swu = { s.swu with
    state := if s.ks.nvm.dev.image.fields.cursor = none then .idle else .paused,
    cursor := s.ks.nvm.dev.image.fields.cursor } := by
  have hdev : (readImages s).ks.dev = s.ks.nvm.dev.image := rfl
  unfold State.imaged sweepAtStart
  rw [hdev]
  split
  next h => rw [h]; rfl
  next c h => rw [h]; rfl

theorem DevRecord.image_fields (r : DevRecord) : r.image.fields = if r.passes then r.fields else DevFields.rebuiltValues := by
  unfold DevRecord.image
  split <;> rfl

theorem CredRecord.image_of_check (r : CredRecord) : (r.check = Config.credCheck r.fields → r.image = r) ∧
    (r.check ≠ Config.credCheck r.fields → r.image.fields = CredFields.bare .damaged) := by
  refine ⟨fun h => ?_, fun h => ?_⟩
  · exact if_pos (by simpa [CredRecord.passes] using h)
  · rw [CredRecord.image, if_neg (by simpa [CredRecord.passes] using h)]

theorem State.imaged_status {s : State} (hlength : s.ks.nvm.creds.length = 8) : (s.imaged.cred 0).status =
    if (s.ks.nvm.creds.getD 0 default).passes then (s.ks.nvm.creds.getD 0 default).fields.status else .damaged := by
  obtain ⟨-, -, hcreds, -⟩ := s.imaged_same
  match hnvm : s.ks.nvm.creds, hlength with
  | r :: l, _ =>
    rw [State.cred, hcreds, hnvm]
    show r.image.fields.status = if r.passes then r.fields.status else .damaged
    unfold CredRecord.image
    split <;> rfl

/-! ## The first access state (R81) -/

/-- From `u` to `v` the AC has entered its first access state (R81). -/
structure Opens (u v : State) : Prop where
  access : v.ac.access = initialAccess u
  lockout : initialAccess u = .lockout → v.ac.lockout = some (throttleTicks u.ks.dev.fields.failures)
  presentation : v.ac.presentation = .overlay
  key : v.ce.key = none
  rests : v.Rests
  erases : initialAccess u = .erasing → u.Erases v (.slot 7)
  same : initialAccess u ≠ .erasing → v.ks = u.ks ∧ v.swu = u.swu ∧ v.dli = u.dli

theorem initialAccess_mem (s : State) : initialAccess s = .erasing ∨ initialAccess s = .lockout ∨
    initialAccess s = .blankFirst ∨ initialAccess s = .lockedIdle := by
  unfold initialAccess
  (repeat' split) <;> simp

theorem startAccess_opens (u : State) : Opens u (startAccess u) := by
  rcases initialAccess_mem u with h | h | h | h
  · have herase := enterErasing_erases (.slot 7) u
    have hstart : startAccess u = enterErasing (.slot 7) u := by rw [startAccess, h]
    obtain ⟨haccess, hpresentation⟩ := herase.access
    rw [hstart]
    exact ⟨haccess.trans h.symm, fun hne => by simp [h] at hne, hpresentation, herase.keys.1,
      ⟨by simp [Access.unlocked], by simp [State.composing]⟩, fun _ => herase, fun hne => absurd h hne⟩
  · have hstart : startAccess u = (moveTo .lockout u).setAc
        { (moveTo .lockout u).ac with lockout := some (throttleTicks u.ks.dev.fields.failures) } := by
      rw [startAccess, h]
    rw [hstart]
    refine ⟨?_, ?_, ?_, ?_, ⟨?_, ?_⟩, ?_, ?_⟩ <;> simp [h, Access.presentation, Access.unlocked, State.composing]
  · have hstart : startAccess u = moveTo .blankFirst u := by rw [startAccess, h]
    rw [hstart]
    refine ⟨?_, ?_, ?_, ?_, ⟨?_, ?_⟩, ?_, ?_⟩ <;> simp [h, Access.presentation, Access.unlocked, State.composing]
  · have hstart : startAccess u = moveTo .lockedIdle u := by rw [startAccess, h]
    rw [hstart]
    refine ⟨?_, ?_, ?_, ?_, ⟨?_, ?_⟩, ?_, ?_⟩ <;> simp [h, Access.presentation, Access.unlocked, State.composing]

/-- The first state entered leaves the records and the sweep's cursor, and a sweep owed is not IDLE (R140, R148). -/
theorem Opens.kept {u v : State} (h : Opens u v) : StoreKept u v ∧ (v.swu.state = .idle ↔ u.swu.state = .idle) := by
  by_cases herasing : initialAccess u = .erasing
  · have herase := h.erases herasing
    obtain ⟨hnvm, hcreds, hdev, hqueue⟩ := herase.store
    refine ⟨⟨hnvm, hcreds, hdev, _, hqueue⟩, ?_⟩
    rw [herase.sweep]
    dsimp only
    split <;> simp_all
  · obtain ⟨hks, hswu, -⟩ := h.same herasing
    exact ⟨.of_same hks, by rw [hswu]⟩

/-! ## The rebuild write and the report of the media (R121, R147) -/

theorem StoreKept.mem {s t : State} (h : StoreKept s t) {r : KsReq} (hr : r ∈ s.ks.queue) : r ∈ t.ks.queue := by
  obtain ⟨more, hmore⟩ := h.queue
  rw [hmore]
  exact List.mem_append_left _ hr

theorem startRebuild_same (s : State) : (startRebuild s).ac = s.ac ∧ (startRebuild s).ce = s.ce ∧ (startRebuild s).ecp = s.ecp ∧
    (startRebuild s).swu = s.swu ∧ (startRebuild s).dli = s.dli ∧ StoreKept s (startRebuild s) := by
  unfold startRebuild
  split
  · exact ⟨rfl, rfl, rfl, rfl, rfl, .of_same rfl⟩
  · exact ⟨by simp, by simp, by simp, by simp, by simp, .cuWrite _ _ s⟩

/-- The report of the media: a sweep that waits PAUSED makes its window due where the media is OK (R147). -/
theorem reportMedia_cases (s : State) :
    (s.swu.state = .paused ∧ s.swu.hold = false ∧ s.dli.media = .ok ∧ reportMedia s = makeDue s) ∨ reportMedia s = s := by
  unfold reportMedia sweepReportOk
  split
  next hok =>
    split
    next h => exact .inl ⟨h.1, h.2, hok, rfl⟩
    next => exact .inr rfl
  next => exact .inr rfl

/-- At rest the report leaves the access state, and the sweep IDLE exactly where it was. -/
theorem RestsOn.reportMedia {s : State} (h : s.Rests) : RestsOn s (reportMedia s) := by
  rcases reportMedia_cases s with ⟨hpaused, -, -, hdue⟩ | hsame
  · obtain ⟨⟨hhold, -⟩, -, -, hbusy⟩ := makeDue_swu (s := s) (by simp [hpaused])
    rw [hdue]
    exact ⟨by simp, by simp, by simp, by simp, by simp, by simp, h.of_same (by simp) (by simp), .makeDue s, hhold,
      ⟨fun hidle => absurd hidle hbusy, fun hidle => by simp [hpaused] at hidle⟩⟩
  · rw [hsame]
    exact (StaysAtRest.refl h).toRestsOn

/-! ## The obligation -/

/-- The part as it starts to run, its key store read. -/
def State.opened (s : State) : State := { startRebuild (startAccess s.imaged) with power := .running }

theorem exec_ksReadingComplete {s : State} (h : s.power = .reading) :
    exec .ksReadingComplete s = .next (settleLink (reportMedia s.opened)) := by
  have hexec : exec .ksReadingComplete s = .next (readingComplete s) := rfl
  rw [hexec, readingComplete, if_pos h]
  rfl

theorem State.opened_same (s : State) : s.opened.ac = (startAccess s.imaged).ac ∧ s.opened.ce = (startAccess s.imaged).ce ∧
    s.opened.swu = (startAccess s.imaged).swu ∧ s.opened.dli = (startAccess s.imaged).dli ∧
    StoreKept s.imaged s.opened ∧ s.opened.Rests := by
  obtain ⟨hac, hce, hecp, hswu, hdli, hstore⟩ := startRebuild_same (startAccess s.imaged)
  have hopens := startAccess_opens s.imaged
  refine ⟨hac, hce, hswu, hdli, (hopens.kept.1.trans hstore).trans (.of_same rfl), ?_⟩
  exact hopens.rests.of_same (by exact congrArg Ac.access hac) hecp

/-- A sweep owed and not held makes its window due, where the media has been identified already (R147, R149). -/
theorem started_windowDue {s : State} {c u : Nat} (herase : initialAccess s.imaged ≠ .erasing) (hhold : s.swu.hold = false)
    (hdiscard : s.swu.discardOut = false) (hwrite : s.swu.writeOut = false) (hok : s.dli.media = .ok)
    (hcursor : s.ks.nvm.dev.image.fields.cursor = some c) (husable : s.dli.usable = some u) :
    (settle (reportMedia s.opened)).WindowDue c u := by
  obtain ⟨-, -, hswu, hdli, -, -⟩ := s.opened_same
  obtain ⟨-, hsame, hlink⟩ := (startAccess_opens s.imaged).same herase
  have hswu : s.opened.swu = { s.swu with state := .paused, cursor := some c } := by
    rw [hswu, hsame, s.imaged_swu, hcursor]
    rfl
  have hdli : s.opened.dli = s.dli := by rw [hdli, hlink, s.imaged_same.1]
  have hdue : s.opened.MayMakeDue c u := ⟨by rw [hswu]; exact hdiscard, by rw [hswu]; exact hwrite, by rw [hswu]; exact hhold,
    by rw [hdli]; exact hok, by rw [hdli]; exact husable, by rw [hswu]⟩
  have hreport : reportMedia s.opened = makeDue s.opened := by
    rw [reportMedia, if_pos hdue.media, sweepReportOk, if_pos ⟨by rw [hswu], hdue.hold⟩]
  rw [hreport]
  exact hdue.windowDue.1

/-- The first state by `initialAccess`, its records by the images, and what waited on the link leaves both. -/
theorem initialAccess_spec : Obligations.InitialAccess := by
  intro s d z hpower hlength hd hz
  obtain ⟨t, ht⟩ : ∃ t, t = settleLink (reportMedia s.opened) := ⟨_, rfl⟩
  obtain ⟨hac, hce, hswu, -, hstore, hrests⟩ := s.opened_same
  have hreport := RestsOn.reportMedia hrests
  have hends : RestsOn s.opened t := by
    rw [ht]
    exact hreport.trans (StaysAtRest.settleLink hreport.rests).toRestsOn
  have hopens := startAccess_opens s.imaged
  obtain ⟨-, hnvm, hcreds, hdevice⟩ := s.imaged_same
  have hkept := hstore.trans hends.store
  have hfields : s.imaged.ks.dev.fields = d := by rw [hdevice, DevRecord.image_fields, hd]
  have hinitial : initialAccess s.imaged = if d.erasePending then .erasing else if z = .empty then .blankFirst
      else if 3 ≤ d.failures then .lockout else .lockedIdle := by
    rw [initialAccess, hfields, State.imaged_status hlength, ← hz]
  have haccess : t.ac.access = initialAccess s.imaged := by rw [hends.access, hac, hopens.access]
  have himage : s.ks.nvm.dev.image.fields = d := by rw [← hdevice]; exact hfields
  have herasing : d.erasePending = true → initialAccess s.imaged = .erasing := fun h => by rw [hinitial, if_pos h]
  refine ⟨t, by rw [ht]; exact exec_ksReadingComplete hpower, hends.power, haccess.trans hinitial, fun hlockout => ?_,
    hkept.nvm.trans hnvm, fun i r hr => ?_, ?_, ?_, by rw [hkept.dev]; exact hfields, ?_, fun herase => ?_,
    fun herase hhold hdiscard hwrite hok c u hcursor husable => ?_, fun hfails => ?_⟩
  · rw [hends.lockout, hac, hopens.lockout (haccess.symm.trans hlockout), hfields]
  · refine ⟨r.image, ?_, r.image_of_check⟩
    rw [hkept.creds, hcreds, List.getElem?_map, hr]
    rfl
  · rw [hends.presentation, hac]
    exact hopens.presentation
  · rw [hends.ce, hce]
    exact hopens.key
  · rw [hends.idle, hswu, hopens.kept.2, s.imaged_swu, himage]
    dsimp only
    split <;> simp_all
  · have hpasses : s.ks.nvm.dev.passes = true := by
      by_contra hfails
      rw [hd, if_neg hfails] at herase
      simp [DevFields.rebuiltValues, DevFields.defaults] at herase
    have hsame : s.opened = { startAccess s.imaged with power := .running } := by
      rw [State.opened, startRebuild, if_pos]
      rw [((startAccess_opens s.imaged).kept.1).nvm, hnvm]
      exact hpasses
    have herases := hopens.erases (herasing herase)
    obtain ⟨hwork, htask, hasks⟩ := herases.staging
    have hheld : s.opened.swu.hold = true := by rw [hswu, herases.sweep]
    have hcu : t.cu = (startAccess s.imaged).cu := by rw [hends.cu, hsame]
    exact ⟨by rw [hcu]; exact hwork, by rw [hcu]; exact htask, hends.store.mem (by rw [hsame]; exact hasks),
      hends.hold.trans hheld⟩
  · have hnot : initialAccess s.imaged ≠ .erasing := by
      rw [hinitial, herase]
      (repeat' split) <;> simp_all
    have hdue := started_windowDue hnot hhold hdiscard hwrite hok (by rw [himage]; exact hcursor) husable
    rw [ht]
    exact (StaysAtRest.drain _ (StaysAtRest.settle hreport.rests).rests).window c u hdue
  · have hasked : { bySweep := false, body := .dev (DevUpdate.whole DevFields.rebuiltValues) } ∈ s.opened.ks.queue := by
      have hrebuild : startRebuild (startAccess s.imaged) =
          cuWrite .rebuild (.dev (DevUpdate.whole DevFields.rebuiltValues)) (startAccess s.imaged) := by
        rw [startRebuild, if_neg]
        rw [hopens.kept.1.nvm, hnvm, hfails]
        simp
      rw [State.opened, hrebuild]
      exact cuWrite_asks _ _ _
    exact hends.store.mem hasked

end Sys2Proof.Machine

namespace Sys2Proof

/-- Settles O19. -/
theorem initialAccess : Obligations.InitialAccess := Machine.initialAccess_spec

end Sys2Proof
